-- ==== Sys2Proof/Word.lean ====
section
/-! DEFINITION. The widths the manual treats as bits: a character's 8-bit value, the 16-bit check and the 32-bit
bridge time. Addresses, counts and loads are natural numbers with the ranges their rules give. -/

namespace Sys2Proof

/-- The 8-bit value of a character (R2), a seq, a kind code or a byte of a layout (section 1.8). -/
abbrev Byte := BitVec 8

/-- The 16-bit register of the frame check (R7). -/
abbrev Check := BitVec 16

/-- Bridge time (R1): 32 bits, in units of 10 ms, wrapping modulo 2^32. -/
abbrev BridgeTime := BitVec 32

end Sys2Proof
end

