-- ==== Sys2Proof/Syntax.lean ====
section
/-! DEFINITION. The commands of the bridge: one constructor of `Instr` per row of spec/opcode_table.json, and the data
they carry (a port, a frame, the strap levels). -/

namespace Sys2Proof

/-- The two link ports: the S-port faces the supervisor, the F-port the field stations. -/
inductive Port
  | s
  | f
  deriving DecidableEq, Repr

/-- A complete, checked frame (R8, section 1.8): station 0..127, kind, seq and 0..48 payload bytes. The length and the two
check characters follow from these fields (R5, R7), so a frame keeps every character as received. -/
structure Frame where
  station : Nat
  kind    : Byte
  seq     : Byte
  payload : List Byte
  deriving DecidableEq, Repr

/-- The five strap pins (R2, R197), `true` for high. -/
structure Straps where
  sRate1  : Bool
  sRate0  : Bool
  fRate1  : Bool
  fRate0  : Bool
  inhibit : Bool
  deriving DecidableEq, Repr

/-- The commands, one per row of spec/opcode_table.json. A request row carries the seq of the REQUEST and its argument
bytes, the bytes after the request code, as received: R19 tests them. -/
inductive Instr
  | powerOnReset (straps : Straps)
  | configurationLoadEnd (answers : Bool)
  | receiveCharacter (port : Port) (value : Byte) (marker : Bool) (stop : Bool)
  | gapTimeout (port : Port)
  | breakTaken (port : Port)
  | breakEnd (port : Port)
  | quietTimerExpiry (port : Port)
  | sFrameArrival (frame : Frame)
  | fFrameArrival (frame : Frame)
  | fTransmitComplete
  | sTransmitComplete
  | replyTimeout (slot : Nat)
  | closingDeadlineExpiry (slot : Nat)
  | repollWaitExpiry (slot : Nat)
  | settleExpiry (step : Nat)
  | sliceExpiry
  | silenceTimerExpiry
  | secondTimerExpiry
  | spacingTimerExpiry
  | storeComplete (agrees : Bool)
  | unknownRequest (seq : Byte) (payload : List Byte)
  | select (seq : Byte) (args : List Byte)
  | get (seq : Byte) (args : List Byte)
  | putStations (seq : Byte) (args : List Byte)
  | putPlan (seq : Byte) (args : List Byte)
  | putPayload (seq : Byte) (args : List Byte)
  | putSettings (seq : Byte) (args : List Byte)
  | putReadOnly (seq : Byte) (args : List Byte)
  | pointGet (seq : Byte) (args : List Byte)
  | pointList (seq : Byte) (args : List Byte)
  | pointPut (seq : Byte) (args : List Byte)
  | pointDrop (seq : Byte) (args : List Byte)
  | holdStation (seq : Byte) (args : List Byte)
  | releaseStation (seq : Byte) (args : List Byte)
  | clearStation (seq : Byte) (args : List Byte)
  | startRun (seq : Byte) (args : List Byte)
  | suspendRun (seq : Byte) (args : List Byte)
  | resumeRun (seq : Byte) (args : List Byte)
  | abortRun (seq : Byte) (args : List Byte)
  | runStatus (seq : Byte) (args : List Byte)
  | setFeed (seq : Byte) (args : List Byte)
  | readLine (seq : Byte) (args : List Byte)
  | readClearGroup (seq : Byte) (args : List Byte)
  | readCounters (seq : Byte) (args : List Byte)
  | store (seq : Byte) (args : List Byte)
  | warmReset (seq : Byte) (args : List Byte)
  | coldReset (seq : Byte) (args : List Byte)
  | bridgeTimeIncrement
  deriving DecidableEq, Repr

end Sys2Proof
end

