-- ==== Sys2Proof/Decode.lean ====
section
/-! DEFINITION. The command that a word spells by the bits of spec/opcode_table.json. The table gives no bits to any of
its 48 rows, so no word spells a command (log 24). -/

namespace Sys2Proof

/-- No row of spec/opcode_table.json has bits, so every word is refused (log 24). -/
def decodeTableWord (_nbits _w : Nat) : Option Instr := none

end Sys2Proof
end

