-- ==== Sys2Proof/Config.lean ====
section
/-! DEFINITION. What the manual fixes for every part (capacities, limits, fixed intervals, the injection band), and the
free values: constants without a body, about which nothing can be proved. -/

namespace Sys2Proof.Config

/-- Slots of the pass-down FIFO (R27) and of the pass-up FIFO (R33). -/
def fifoSlots : Nat := 8
/-- Places of the bridge reply queue (R34). -/
def replyPlaces : Nat := 16
/-- The guard counts of both arbiters stop at 4 (R30, R35). -/
def guardLimit : Nat := 4
/-- Frame slots of the hold pool (R78). -/
def holdSlots : Nat := 256
/-- The occupancy that raises "high water" (R86). -/
def highWater : Nat := 192
/-- The occupancy below which the high-water flag is armed again (R86). -/
def highWaterRearm : Nat := 160
/-- Point records of the pool (R60). -/
def pointRecords : Nat := 1024
/-- The most pinned point records (R60). -/
def pinnedRecords : Nat := 256
/-- Points of one RESTORE frame (R70). -/
def restorePoints : Nat := 16
/-- Entries of one POINT-LIST answer (R73). -/
def listEntries : Nat := 14
/-- Contribution places (R146). -/
def contributionPlaces : Nat := 96
/-- The top of every stored load quantity, in LU (conventions of 00_scope, R144). -/
def loadTop : Nat := 16383
/-- The first seq of the injection band (R129). -/
def bandFirst : Byte := 224
/-- Entries of a restart history (R47). -/
def historyEntries : Nat := 4
/-- Times held by an error window (R13). -/
def windowTimes : Nat := 7
/-- The span of an error burst in bridge-time units, 1 s (R15). -/
def burstSpan : Nat := 100
/-- The quiet timer's 1 s in bridge-time units (R16). -/
def quietUnits : Nat := 100
/-- The second timer's 1 s in bridge-time units (R166). -/
def secondUnits : Nat := 100
/-- The slice's 100 ms in bridge-time units (R151). -/
def sliceUnits : Nat := 10
/-- The re-poll wait's 500 ms in bridge-time units (R133). -/
def repollUnits : Nat := 50
/-- The age in bridge-time units above which a reading is stale, 5 s (R153). -/
def staleUnits : Nat := 500
/-- The largest payload length (R5). -/
def payloadTop : Nat := 48
/-- The length of an image without pinned points (R198). -/
def imageBase : Nat := 6671

/-- FREE VALUE (log 8): the content of the configuration memory after a STORE whose read-back disagrees. R199 gives only
the image status FAULT. -/
opaque freeImage : Nat → List Byte

/-- FREE VALUE (log 10): the next starting channel of a RESTORE step whose frame is accepted while no attempt of that
frame has been built. R70 gives it only from a built attempt. -/
opaque freeChannel : Nat → Byte

end Sys2Proof.Config
end

