-- ==== Sys2Proof/Machine/State.lean ====
section
/-! DEFINITION. Everything the manual gives the bridge to hold, as plain data, and the machine right after power-on reset.
INVENTORY.md lists each piece with its rule and its reset value. -/

namespace Sys2Proof.Machine

/-! ## Line (chapter 1) -/

/-- The frame assembly of a receiver (R4). In `assembling` it holds the station and the data characters received since, in
order; the position within the frame is their number. -/
inductive Assembly
  | idle
  | assembling (station : Nat) (data : List Byte)
  | skipping
  deriving DecidableEq, Repr

/-- The line quality of a port (R15). -/
inductive Quality
  | good
  | noisy
  deriving DecidableEq, Repr

/-- The four latched causes of a port (section 1.7, R13, R14). -/
structure LineCauses where
  framing    : Bool
  check      : Bool
  overlength : Bool
  brk        : Bool
  deriving DecidableEq, Repr

/-- The framing state of one port (R18). `window` is newest first (R13); `quiet` is the deadline of the quiet timer, absent
when it stands stopped (R16). -/
structure PortState where
  assembly : Assembly
  quality  : Quality
  window   : List BridgeTime
  quiet    : Option BridgeTime
  causes   : LineCauses
  inBreak  : Bool
  deriving DecidableEq, Repr

/-! ## Passage (chapter 2) -/

/-- A frame of the bridge reply queue (R34); `isReset` marks the DONE answer to WARM-RESET or COLD-RESET, whose leaving
makes the reset take effect (R186). -/
structure Reply where
  frame   : Frame
  isReset : Bool
  deriving DecidableEq, Repr

/-- Where the F-port arbiter took the frame on the wire from (R30); a tap and the Run Engine ask for it (R26, R32). -/
inductive FSource
  | alert
  | injection
  | pass
  | drain
  deriving DecidableEq, Repr

/-- The frame that the F-port transmitter is sending (R11). -/
structure FWire where
  frame  : Frame
  source : FSource
  deriving DecidableEq, Repr

/-- The frame that the S-port transmitter is sending, by its source (R35). -/
inductive SWire
  | passUp (frame : Frame)
  | reply (reply : Reply)
  | notice (frame : Frame)
  deriving DecidableEq, Repr

/-! ## Station Table (chapter 3) -/

/-- What a station is (R37). -/
inductive Role
  | none
  | vent
  | light
  | meter
  | other
  deriving DecidableEq, Repr

/-- A choice of supply feed: the meter feed of a station and the feed of a step (section 1.8). -/
inductive FeedChoice
  | none
  | a
  | b
  deriving DecidableEq, Repr

/-- Which HELLOs put an ONLINE station into HELD (R49). -/
inductive HoldPolicy
  | never
  | onLoss
  | always
  deriving DecidableEq, Repr

/-- The states of a station (R38). -/
inductive StationState
  | unlisted
  | online
  | held
  | restoring
  | draining
  | faulted
  | overridden
  deriving DecidableEq, Repr

/-- Why restoration was abandoned (R37). -/
inductive FaultCause
  | storm
  | essentialStep
  deriving DecidableEq, Repr

/-- An entry of a restart history (R47): `kept` is the retention flag, `false` for lost. -/
structure HistoryEntry where
  time  : BridgeTime
  cause : Byte
  kept  : Bool
  deriving DecidableEq, Repr

/-- The configuration fields of a station record (R37). -/
structure StationConfig where
  role           : Role
  meterFeed      : FeedChoice
  meterChannel   : Nat
  holdPolicy     : HoldPolicy
  holdQuota      : Nat
  retentionQuota : Nat
  autoRun        : Bool
  deriving DecidableEq, Repr

/-- A station record (R37). The queue length and the retained count are read from their owners. -/
structure StationRecord where
  config       : StationConfig
  state        : StationState
  member       : Bool
  faultCause   : Option FaultCause
  faultPending : Bool
  history      : List HistoryEntry
  deriving DecidableEq, Repr

/-! ## Retained Point Store (chapter 4) -/

/-- The pending part of a point record, present or absent as a whole (R60). -/
structure PendingPart where
  value : Nat
  seq   : Byte
  deriving DecidableEq, Repr

/-- A point record (R60). -/
structure PointRecord where
  station   : Nat
  channel   : Nat
  confirmed : Option Nat
  pending   : Option PendingPart
  pinned    : Bool
  deriving DecidableEq, Repr

/-! ## Start Plan (chapter 6) -/

/-- What a step does (R97). -/
inductive Action
  | restore
  | fixedSet
  | order
  | await
  | release
  | mark
  deriving DecidableEq, Repr

/-- Whether a failure halts the run (R97). -/
inductive Criticality
  | ordinary
  | essential
  deriving DecidableEq, Repr

/-- A step record (R97). `action` is absent in a record whose fields are all 0 (R118). `params` are the six action parameter
bytes of the PLAN encoding (section 1.8), read by the action; `predCount` and `predecessors` stand as written (R99). -/
structure StepRecord where
  used         : Bool
  station      : Nat
  action       : Option Action
  params       : List Byte
  predCount    : Nat
  predecessors : List Nat
  feed         : FeedChoice
  peak         : Nat
  steady       : Nat
  ramp         : Nat
  settle       : Nat
  replyTimeout : Nat
  retries      : Nat
  criticality  : Criticality
  causeMask    : Byte
  deriving DecidableEq, Repr

/-- The kind of a payload record (R98). -/
inductive PayloadKind
  | set
  | order
  deriving DecidableEq, Repr

/-- A payload record (R98): 48 data bytes, of which the first `length` are the payload. -/
structure PayloadRecord where
  used   : Bool
  kind   : PayloadKind
  length : Nat
  data   : List Byte
  deriving DecidableEq, Repr

/-! ## Run Engine (chapters 6 and 7) -/

/-- The states of a step (R119). -/
inductive StepState
  | idle
  | pending
  | awaiting
  | issued
  | settling
  | done
  | failed
  | skipped
  | notApplicable
  deriving DecidableEq, Repr

/-- The failure causes of a step (R139). -/
inductive FailureCause
  | none
  | noReply
  | refused
  | outOfRange
  | overBudget
  deriving DecidableEq, Repr

/-- A step state entry (R102) and the step's settle timer (R138), by its deadline. -/
structure StepEntry where
  state    : StepState
  cause    : FailureCause
  nak      : Byte
  attempts : Nat
  settle   : Option BridgeTime
  deriving DecidableEq, Repr

/-- The suspension causes of a run (R104). -/
structure Causes where
  management : Bool
  alert      : Bool
  silence    : Bool
  deriving DecidableEq, Repr

/-- How the last run ended (R102). -/
inductive RunOutcome
  | none
  | complete
  | completeWithFailures
  | aborted
  | abortedByReset
  deriving DecidableEq, Repr

/-- The run record (R102). The halt flag is set exactly while `halting` names a step. -/
structure RunRecord where
  inProgress  : Bool
  number      : Byte
  startTime   : BridgeTime
  halting     : Option Nat
  causes      : Causes
  lastOutcome : RunOutcome
  deriving DecidableEq, Repr

/-- An injection record (R128), OPEN or, with `closing`, CLOSING. `builtHighest` is the highest channel of the latest built
attempt of its RESTORE frame (R70); `further` is the starting channel of the step's further frame, made when the record has
closed (R135). -/
structure InjectionRecord where
  station      : Nat
  step         : Nat
  closing      : Bool
  frameIndex   : Nat
  startChannel : Nat
  attempts     : List Byte
  outstanding  : Option Byte
  ready        : Option Byte
  deadline     : Option BridgeTime
  pollCount    : Nat
  repollWait   : Bool
  builtHighest : Option Nat
  further      : Option Nat
  deriving DecidableEq, Repr

/-! ## Feed Load Estimator (chapter 8) -/

/-- The two supply feeds. -/
inductive Feed
  | a
  | b
  deriving DecidableEq, Repr

/-- A feed record (R144). -/
structure FeedRecord where
  budget        : Nat
  standing      : Nat
  measured      : Option Nat
  measuredTime  : BridgeTime
  stale         : Bool
  foldSaturated : Bool
  head          : Option Nat
  waitStart     : Option BridgeTime
  waitCount     : Nat
  deriving DecidableEq, Repr

/-- A contribution (R146); it is ramp-complete when `elapsed` has reached `ramp`. -/
structure Contribution where
  step    : Nat
  feed    : Feed
  peak    : Nat
  steady  : Nat
  ramp    : Nat
  elapsed : Nat
  running : Bool
  deriving DecidableEq, Repr

/-! ## Silence Monitor (chapter 9) -/

/-- The Silence Monitor. `timer` and `second` are the deadlines of its two timers, absent when stopped; `suppress` is the
suppression of auto-start during a silence taken under FREEZE (R167, R170). -/
structure Silence where
  timer    : Option BridgeTime
  silent   : Bool
  duration : Nat
  second   : Option BridgeTime
  suppress : Bool
  deriving DecidableEq, Repr

/-! ## Management Agent (chapter 10) -/

/-- The tables of the cursor (R178). -/
inductive Table
  | stations
  | plan
  | payload
  | feeds
  | history
  | stepState
  | settings
  deriving DecidableEq, Repr

/-- When GET and PUT move the cursor on (R179). -/
inductive AdvanceMode
  | none
  | every
  | writeOnly
  deriving DecidableEq, Repr

/-- The cursor (R178). -/
structure Cursor where
  table : Table
  index : Nat
  mode  : AdvanceMode
  deriving DecidableEq, Repr

/-- The resets the supervisor can ask for (R186). -/
inductive ResetKind
  | warm
  | cold
  deriving DecidableEq, Repr

/-- What the bridge does with a run when the supervisor falls silent (R167). -/
inductive SilenceResponse
  | freeze
  | cont
  deriving DecidableEq, Repr

/-- The SETTINGS record (R182). `groupEnables` has group g at bit g; `eventEnables` has a byte for each group in order. -/
structure Settings where
  silenceTime     : Nat
  silenceResponse : SilenceResponse
  noticeSpacing   : Nat
  stormWindow     : Nat
  admissionLimit  : Nat
  groupEnables    : Byte
  eventEnables    : Vector Byte 8
  deriving DecidableEq, Repr

/-! ## Configuration Loader (chapter 11) -/

/-- The configuration image status (R197 to R199). -/
inductive ImageStatus
  | loaded
  | fault
  | stored
  deriving DecidableEq, Repr

/-! ## The state -/

/-- Everything the bridge holds. The first field is the model's queue of waiting commands, first in first out; `freeCount`
is the model's counter of free values drawn (log 8, log 10). -/
structure State where
  pending        : List Instr
  freeCount      : Nat
  bridgeTime     : BridgeTime
  portS          : PortState
  portF          : PortState
  passDown       : List Frame
  alertReserve   : Option Frame
  passUp         : List Frame
  replies        : List Reply
  noticeSlot     : Option Frame
  drainGuard     : Nat
  lastDrain      : Nat
  replyGuard     : Nat
  wireF          : Option FWire
  wireS          : Option SWire
  stations       : Vector StationRecord 126
  points         : List PointRecord
  queues         : Vector (List Frame) 126
  highWaterArmed : Bool
  plan           : Vector StepRecord 96
  payloads       : Vector PayloadRecord 64
  run            : RunRecord
  entries        : Vector StepEntry 96
  slots          : Vector (Option InjectionRecord) 8
  injectionSeq   : Byte
  feedA          : FeedRecord
  feedB          : FeedRecord
  contributions  : List Contribution
  sliceDeadline  : BridgeTime
  silence        : Silence
  cursor         : Cursor
  resetPending   : Option ResetKind
  settings       : Settings
  noticePending  : Vector Byte 8
  spacing        : Option BridgeTime
  noticeNumber   : Byte
  counters       : Vector Nat 16
  straps         : Straps
  loading        : Bool
  imageStatus    : ImageStatus
  storing        : Option (List Byte)
  configMemory   : List Byte
  deriving DecidableEq, Repr

/-! ## Reset values -/

/-- The framing state of a port after power-on and cold reset (R18). -/
def PortState.reset : PortState :=
  { assembly := .idle, quality := .good, window := [], quiet := none
    causes := { framing := false, check := false, overlength := false, brk := false }, inBreak := false }

/-- The default station configuration (R198). -/
def StationConfig.default : StationConfig :=
  { role := .none, meterFeed := .none, meterChannel := 0, holdPolicy := .never, holdQuota := 0
    retentionQuota := 0, autoRun := false }

/-- The station record until the load ends (R59, log 7). -/
def StationRecord.default : StationRecord :=
  { config := .default, state := .unlisted, member := false, faultCause := none, faultPending := false, history := [] }

/-- An unused step, every field 0 (R118). -/
def StepRecord.default : StepRecord :=
  { used := false, station := 0, action := none, params := [0, 0, 0, 0, 0, 0], predCount := 0
    predecessors := [0, 0, 0, 0], feed := .none, peak := 0, steady := 0, ramp := 0, settle := 0
    replyTimeout := 0, retries := 0, criticality := .ordinary, causeMask := 0 }

/-- An unused payload record, kind SET, length 0, data 0 (R118). -/
def PayloadRecord.default : PayloadRecord :=
  { used := false, kind := .set, length := 0, data := List.replicate 48 0 }

/-- A step state entry after every reset (R118, R143). -/
def StepEntry.reset : StepEntry :=
  { state := .idle, cause := .none, nak := 0, attempts := 0, settle := none }

/-- No suspension cause (R104). -/
def Causes.empty : Causes := { management := false, alert := false, silence := false }

/-- The run record after power-on and cold reset (R118). -/
def RunRecord.reset : RunRecord :=
  { inProgress := false, number := 0, startTime := 0, halting := none, causes := .empty, lastOutcome := .none }

/-- A feed record after power-on and cold reset, until the load ends (R164, log 7). -/
def FeedRecord.reset : FeedRecord :=
  { budget := 0, standing := 0, measured := none, measuredTime := 0, stale := false, foldSaturated := false
    head := none, waitStart := none, waitCount := 0 }

/-- The event enables with every event on; positions without an event are 0 (section 1.8, R182). -/
def Settings.allEvents : Vector Byte 8 := #v[0x0F, 0x1F, 0x03, 0x0F, 0x07, 0x03, 0x01, 0x03]

/-- The default SETTINGS (R182). -/
def Settings.default : Settings :=
  { silenceTime := 10, silenceResponse := .freeze, noticeSpacing := 10, stormWindow := 120, admissionLimit := 60
    groupEnables := 0xFF, eventEnables := Settings.allEvents }

/-- The cursor after every reset (R188). -/
def Cursor.reset : Cursor := { table := .stations, index := 1, mode := .none }

/-- The machine right after power-on reset: the configuration load has begun (R197), the silence timer runs with the default
10 s (R170) and the first slice has started (R164). The straps (log 5), the memory's content (log 6) and the values of the
loaded tables until the load ends (log 7) are the model's choice. -/
def State.reset : State :=
  { pending := []
    freeCount := 0
    bridgeTime := 0
    portS := .reset
    portF := .reset
    passDown := []
    alertReserve := none
    passUp := []
    replies := []
    noticeSlot := none
    drainGuard := 0
    lastDrain := 0
    replyGuard := 0
    wireF := none
    wireS := none
    stations := Vector.replicate 126 .default
    points := []
    queues := Vector.replicate 126 []
    highWaterArmed := true
    plan := Vector.replicate 96 .default
    payloads := Vector.replicate 64 .default
    run := .reset
    entries := Vector.replicate 96 .reset
    slots := Vector.replicate 8 none
    injectionSeq := Config.bandFirst
    feedA := .reset
    feedB := .reset
    contributions := []
    sliceDeadline := BitVec.ofNat 32 Config.sliceUnits
    silence := { timer := some 1000, silent := false, duration := 0, second := none, suppress := false }
    cursor := .reset
    resetPending := none
    settings := .default
    noticePending := Vector.replicate 8 0
    spacing := none
    noticeNumber := 0
    counters := Vector.replicate 16 0
    straps := { sRate1 := false, sRate0 := false, fRate1 := false, fRate0 := false, inhibit := false }
    loading := true
    imageStatus := .loaded
    storing := none
    configMemory := [] }

/-! ## Stops -/

/-- The faults of the machine: none. The manual gives the bridge no state in which it stops; errors, refusals and failures
are counted, answered or raised as notices. -/
inductive Fault
  deriving DecidableEq, Repr

/-- The refusals of the model. -/
inductive Refusal
  /-- Raised by `exec` alone, for a command that has no meaning yet; no arm raises it now. Safe: the model stops. -/
  | notModelled (mnemonic : String)
  deriving DecidableEq, Repr

end Sys2Proof.Machine
end

