-- ==== Sys2Proof/Machine/Operands.lean ====
section
/-! DEFINITION. How the bridge reads and writes bytes: byte order, the frame check, points, enumerated codes, and the record
encodings of section 1.8. -/

namespace Sys2Proof.Machine

/-! ## Tables -/

/-- The record at an index of a table, `d` outside it. -/
def getAt {α : Type} {n : Nat} (v : Vector α n) (i : Nat) (d : α) : α := if h : i < n then v[i] else d

/-- A table with the record at an index replaced, unchanged outside it. -/
def putAt {α : Type} {n : Nat} (v : Vector α n) (i : Nat) (x : α) : Vector α n := v.setIfInBounds i x

/-- The table of `n` records taken from a list in order, `d` beyond its end. -/
def tableOf {α : Type} (n : Nat) (l : List α) (d : α) : Vector α n :=
  ⟨((List.range n).map (fun i => l.getD i d)).toArray, by simp⟩

/-- A table with a function applied to every record. -/
def mapTable {α β : Type} {n : Nat} (v : Vector α n) (g : α → β) : Vector β n :=
  ⟨(v.toList.map g).toArray, by simp⟩

/-! ## Byte order (section 1.8: multi-byte numbers go high byte first) -/

/-- The number of two bytes, high byte first. -/
def word (hi lo : Byte) : Nat := hi.toNat * 256 + lo.toNat

/-- A number in one byte. -/
def byte (n : Nat) : Byte := BitVec.ofNat 8 n

/-- A number in two bytes, high byte first. -/
def bytes2 (n : Nat) : List Byte := [byte (n / 256), byte n]

/-- A bridge time in four bytes, most significant first. -/
def bytes4 (t : BridgeTime) : List Byte :=
  [byte (t.toNat / 16777216), byte (t.toNat / 65536), byte (t.toNat / 256), byte t.toNat]

/-- A flag as a 0/1 byte. -/
def flag (b : Bool) : Byte := if b then 1 else 0

/-- A 0/1 byte as a flag; any other value is an undefined code (R19). -/
def readFlag (b : Byte) : Option Bool :=
  match b.toNat with
  | 0 => some false
  | 1 => some true
  | _ => none

/-! ## The frame check (R7) -/

/-- One step of the check register for one data bit. -/
def checkBit (crc : Check) (bit : Bool) : Check :=
  let feedback := xor crc.msb bit
  let shifted := crc <<< 1
  if feedback then shifted ^^^ 0x1021 else shifted

/-- The check register updated by one byte, most significant bit first. -/
def checkByte (crc : Check) (b : Byte) : Check :=
  [7, 6, 5, 4, 3, 2, 1, 0].foldl (fun c i => checkBit c (b.getLsbD i)) crc

/-- The check of a list of bytes: the register starts at FFFFh (R7). -/
def checkOf (bs : List Byte) : Check := bs.foldl checkByte 0xFFFF

/-- The two check bytes, high byte first. -/
def checkBytes (bs : List Byte) : List Byte :=
  let c := checkOf bs
  [c.extractLsb' 8 8, c.extractLsb' 0 8]

/-- The bytes that the check of a frame covers: kind, seq, length and payload, not the station (R7). -/
def coveredBytes (f : Frame) : List Byte := f.kind :: f.seq :: byte f.payload.length :: f.payload

/-- The characters of a frame in order, each with its marker bit (section 1.8). -/
def frameCharacters (f : Frame) : List (Byte × Bool) :=
  (byte f.station, true) :: (coveredBytes f ++ checkBytes (coveredBytes f)).map (fun b => (b, false))

/-! ## Frame kinds (section 1.8) -/

/-- SET. -/
def kindSet : Byte := 10
/-- ORDER. -/
def kindOrder : Byte := 11
/-- POLL. -/
def kindPoll : Byte := 12
/-- ALERT. -/
def kindAlert : Byte := 13
/-- STATE. -/
def kindState : Byte := 20
/-- ACK. -/
def kindAck : Byte := 21
/-- NAK. -/
def kindNak : Byte := 22
/-- HELLO. -/
def kindHello : Byte := 23
/-- REQUEST. -/
def kindRequest : Byte := 40
/-- ANSWER. -/
def kindAnswer : Byte := 41
/-- NOTICE. -/
def kindNotice : Byte := 42
/-- HOLD-REPLY. -/
def kindHoldReply : Byte := 43

/-- The kinds known downward for stations 1..127 (R23). -/
def knownDown (k : Byte) : Bool := k = kindSet || k = kindOrder || k = kindPoll || k = kindAlert

/-- The kinds known upward from stations 1..126 (R23). -/
def knownUp (k : Byte) : Bool := k = kindState || k = kindAck || k = kindNak || k = kindHello

/-! ## Points (R9) -/

/-- The points of a payload in the order they stand, or none when its length is not a multiple of 3. -/
def rawPoints : List Byte → Option (List (Nat × Nat))
  | [] => some []
  | c :: hi :: lo :: rest => (rawPoints rest).map (fun ps => (c.toNat, word hi lo) :: ps)
  | _ => none

/-- A point put into a list of points kept in ascending order of channel; an earlier value of the channel is replaced. -/
def insertPoint (p : Nat × Nat) : List (Nat × Nat) → List (Nat × Nat)
  | [] => [p]
  | q :: qs =>
    if p.1 < q.1 then p :: q :: qs
    else if p.1 = q.1 then p :: qs
    else q :: insertPoint p qs

/-- The points a reader takes from a SET or STATE payload: ascending by channel, each channel once with the value of its
last occurrence; none when the length is not a multiple of 3 (R9). -/
def readPoints (payload : List Byte) : List (Nat × Nat) :=
  match rawPoints payload with
  | some ps => ps.foldl (fun acc p => insertPoint p acc) []
  | none => []

/-- Whether a payload length is a non-zero multiple of 3 (R9, R98). -/
def pointLength (n : Nat) : Bool := n ≠ 0 && n % 3 = 0

/-- Whether a frame is a parsed SET (R9). -/
def isParsedSet (f : Frame) : Bool := f.kind = kindSet && pointLength f.payload.length

/-- The channel set of a SET (R9), ascending. -/
def channelSet (f : Frame) : List Nat := (readPoints f.payload).map Prod.fst

/-- The value a STATE or SET payload carries for a channel, if it carries it (R9). -/
def pointValue (payload : List Byte) (channel : Nat) : Option Nat :=
  ((readPoints payload).find? (fun p => p.1 = channel)).map Prod.snd

/-- The bytes of a list of points. -/
def pointBytes (ps : List (Nat × Nat)) : List Byte := ps.flatMap (fun p => byte p.1 :: bytes2 p.2)

/-! ## Enumerated codes (section 1.8) -/

/-- Role codes. -/
def Role.code : Role → Byte
  | .none => 0 | .vent => 1 | .light => 2 | .meter => 3 | .other => 4

/-- The role of a code. -/
def readRole (b : Byte) : Option Role :=
  match b.toNat with
  | 0 => some .none | 1 => some .vent | 2 => some .light | 3 => some .meter | 4 => some .other | _ => none

/-- Feed codes of meter feeds and step feeds. -/
def FeedChoice.code : FeedChoice → Byte
  | .none => 0 | .a => 1 | .b => 2

/-- The feed choice of a code. -/
def readFeedChoice (b : Byte) : Option FeedChoice :=
  match b.toNat with
  | 0 => some .none | 1 => some .a | 2 => some .b | _ => none

/-- Hold policy codes. -/
def HoldPolicy.code : HoldPolicy → Byte
  | .never => 0 | .onLoss => 1 | .always => 2

/-- The hold policy of a code. -/
def readHoldPolicy (b : Byte) : Option HoldPolicy :=
  match b.toNat with
  | 0 => some .never | 1 => some .onLoss | 2 => some .always | _ => none

/-- Station state codes. -/
def StationState.code : StationState → Byte
  | .unlisted => 0 | .online => 1 | .held => 2 | .restoring => 3 | .draining => 4 | .faulted => 5 | .overridden => 6

/-- Fault cause codes, 0 when absent. -/
def faultCauseCode : Option FaultCause → Byte
  | none => 0 | some .storm => 1 | some .essentialStep => 2

/-- Action codes; a record without an action reads 0 (R118). -/
def actionCode : Option Action → Byte
  | none => 0 | some .restore => 1 | some .fixedSet => 2 | some .order => 3 | some .await => 4
  | some .release => 5 | some .mark => 6

/-- The action of a code. -/
def readAction (b : Byte) : Option Action :=
  match b.toNat with
  | 1 => some .restore | 2 => some .fixedSet | 3 => some .order | 4 => some .await | 5 => some .release
  | 6 => some .mark | _ => none

/-- Criticality codes. -/
def Criticality.code : Criticality → Byte
  | .ordinary => 0 | .essential => 1

/-- The criticality of a code. -/
def readCriticality (b : Byte) : Option Criticality :=
  match b.toNat with
  | 0 => some .ordinary | 1 => some .essential | _ => none

/-- Payload kind codes. -/
def PayloadKind.code : PayloadKind → Byte
  | .set => kindSet | .order => kindOrder

/-- The payload kind of a code. -/
def readPayloadKind (b : Byte) : Option PayloadKind :=
  match b.toNat with
  | 10 => some .set | 11 => some .order | _ => none

/-- Step state codes. -/
def StepState.code : StepState → Byte
  | .idle => 0 | .pending => 1 | .awaiting => 2 | .issued => 3 | .settling => 4 | .done => 5 | .failed => 6
  | .skipped => 7 | .notApplicable => 8

/-- Failure cause codes. -/
def FailureCause.code : FailureCause → Byte
  | .none => 0 | .noReply => 1 | .refused => 2 | .outOfRange => 3 | .overBudget => 4

/-- Last outcome codes. -/
def RunOutcome.code : RunOutcome → Byte
  | .none => 0 | .complete => 1 | .completeWithFailures => 2 | .aborted => 3 | .abortedByReset => 4

/-- Image status codes. -/
def ImageStatus.code : ImageStatus → Byte
  | .loaded => 0 | .fault => 1 | .stored => 2

/-- Line quality codes (R183). -/
def Quality.code : Quality → Byte
  | .good => 0 | .noisy => 1

/-- The causes byte of READ-LINE: FRAMING at bit 0, CHECK at 1, OVERLENGTH at 2, BREAK at 3. -/
def LineCauses.code (c : LineCauses) : Byte :=
  flag c.framing ||| (flag c.check <<< 1) ||| (flag c.overlength <<< 2) ||| (flag c.brk <<< 3)

/-- The suspension causes byte: MANAGEMENT at bit 0, ALERT at 1, SILENCE at 2. -/
def Causes.code (c : Causes) : Byte :=
  flag c.management ||| (flag c.alert <<< 1) ||| (flag c.silence <<< 2)

/-- Silence response codes. -/
def SilenceResponse.code : SilenceResponse → Byte
  | .freeze => 0 | .cont => 1

/-- The silence response of a code. -/
def readSilenceResponse (b : Byte) : Option SilenceResponse :=
  match b.toNat with
  | 0 => some .freeze | 1 => some .cont | _ => none

/-- Table codes. -/
def Table.code : Table → Byte
  | .stations => 1 | .plan => 2 | .payload => 3 | .feeds => 4 | .history => 5 | .stepState => 6 | .settings => 7

/-- The table of a code. -/
def readTable (b : Byte) : Option Table :=
  match b.toNat with
  | 1 => some .stations | 2 => some .plan | 3 => some .payload | 4 => some .feeds | 5 => some .history
  | 6 => some .stepState | 7 => some .settings | _ => none

/-- The first and the last index of a table (section 10.2). -/
def Table.range : Table → Nat × Nat
  | .stations => (1, 126) | .plan => (0, 95) | .payload => (0, 63) | .feeds => (0, 1) | .history => (1, 126)
  | .stepState => (0, 95) | .settings => (0, 0)

/-- The advance mode of a code. -/
def readAdvanceMode (b : Byte) : Option AdvanceMode :=
  match b.toNat with
  | 0 => some .none | 1 => some .every | 2 => some .writeOnly | _ => none

/-- The feed of a feed choice other than NONE. -/
def FeedChoice.feed : FeedChoice → Option Feed
  | .none => Option.none | .a => some Feed.a | .b => some Feed.b

/-! ## Station configuration (section 1.8, R57) -/

/-- The written STATIONS encoding. -/
def StationConfig.encode (c : StationConfig) : List Byte :=
  [c.role.code, c.meterFeed.code, byte c.meterChannel, c.holdPolicy.code, byte c.holdQuota, byte c.retentionQuota,
   flag c.autoRun]

/-- The configuration of a written STATIONS record, or none when its length or a code fails R19. -/
def readStationConfig : List Byte → Option StationConfig
  | [role, feed, channel, policy, hold, retention, auto] => do
    let role ← readRole role
    let feed ← readFeedChoice feed
    let policy ← readHoldPolicy policy
    let auto ← readFlag auto
    return { role := role, meterFeed := feed, meterChannel := channel.toNat, holdPolicy := policy
             holdQuota := hold.toNat, retentionQuota := retention.toNat, autoRun := auto }
  | _ => none

/-- The clamping of a STATIONS write: hold quota to 32, retention quota to 64 (R57). -/
def StationConfig.clamp (c : StationConfig) : StationConfig :=
  { c with holdQuota := min c.holdQuota 32, retentionQuota := min c.retentionQuota 64 }

/-! ## Step records (section 1.8, R99) -/

/-- A parameter byte of a step. -/
def StepRecord.param (r : StepRecord) (i : Nat) : Byte := r.params.getD i 0
/-- The first channel of a RESTORE step. -/
def StepRecord.first (r : StepRecord) : Nat := (r.param 0).toNat
/-- The last channel of a RESTORE step. -/
def StepRecord.last (r : StepRecord) : Nat := (r.param 1).toNat
/-- The payload index of a FIXED-SET or ORDER step. -/
def StepRecord.payloadIndex (r : StepRecord) : Nat := (r.param 0).toNat
/-- The await channel of an AWAIT step. -/
def StepRecord.awaitChannel (r : StepRecord) : Nat := (r.param 0).toNat
/-- The low end of an AWAIT step's accepted range. -/
def StepRecord.low (r : StepRecord) : Nat := word (r.param 1) (r.param 2)
/-- The high end of an AWAIT step's accepted range. -/
def StepRecord.high (r : StepRecord) : Nat := word (r.param 3) (r.param 4)
/-- The poll limit of an AWAIT step. -/
def StepRecord.pollLimit (r : StepRecord) : Nat := (r.param 5).toNat
/-- The predecessors of a step: the listed step numbers within the count (R97). -/
def StepRecord.preds (r : StepRecord) : List Nat := r.predecessors.take r.predCount

/-- The PLAN encoding. -/
def StepRecord.encode (r : StepRecord) : List Byte :=
  [flag r.used, byte r.station, actionCode r.action] ++ r.params ++ [byte r.predCount] ++ r.predecessors.map byte
    ++ [r.feed.code] ++ bytes2 r.peak ++ bytes2 r.steady
    ++ [byte r.ramp] ++ bytes2 r.settle ++ [byte r.replyTimeout, byte r.retries, r.criticality.code, r.causeMask]

/-- The four predecessor bytes as stored: positions beyond the count are 0 (section 1.8). -/
def storedPredecessors (count : Nat) (ps : List Byte) : List Nat :=
  (ps.take count).map BitVec.toNat ++ List.replicate (4 - count) 0

/-- The step of a written PLAN record, or none when its length or a code fails R19. -/
def readStep : List Byte → Option StepRecord
  | [used, station, action, p0, p1, p2, p3, p4, p5, count, q0, q1, q2, q3, feed, peakH, peakL, steadyH, steadyL, ramp,
      settleH, settleL, timeout, retries, crit, mask] => do
    let used ← readFlag used
    let action ← readAction action
    let feed ← readFeedChoice feed
    let crit ← readCriticality crit
    return { used := used, station := station.toNat, action := some action, params := [p0, p1, p2, p3, p4, p5]
             predCount := count.toNat, predecessors := storedPredecessors count.toNat [q0, q1, q2, q3], feed := feed
             peak := word peakH peakL, steady := word steadyH steadyL, ramp := ramp.toNat
             settle := word settleH settleL, replyTimeout := timeout.toNat, retries := retries.toNat
             criticality := crit, causeMask := mask }
  | _ => none

/-- The record tests of a step written with used yes, test 4 of R99; `true` when the record fails one. -/
def StepRecord.badRecord (r : StepRecord) (n : Nat) : Bool :=
  r.used &&
    (r.station = 0 || decide (126 < r.station)
      || decide (4 < r.predCount)
      || r.preds.any (fun p => decide (n ≤ p))
      || ((r.action = some .release || r.action = some .mark) && r.feed ≠ .none)
      || ((r.action = some .fixedSet || r.action = some .order) && decide (63 < r.payloadIndex)))

/-- A poll limit of 0 is stored as 1; only an AWAIT step has one (R99, log 18). -/
def clampParams (action : Option Action) (params : List Byte) : List Byte :=
  match action, params with
  | some .await, [c, lh, ll, hh, hl, limit] => [c, lh, ll, hh, hl, if limit = 0 then 1 else limit]
  | _, ps => ps

/-- The clamping of a PLAN write (R99). -/
def StepRecord.clamp (r : StepRecord) : StepRecord :=
  let peak := min r.peak Config.loadTop
  { r with
    params := clampParams r.action r.params
    peak := peak
    steady := min r.steady peak
    ramp := max r.ramp 1
    settle := min r.settle 600
    replyTimeout := max r.replyTimeout 1
    retries := min r.retries 3 }

/-! ## Payload records (section 1.8, R20, R100) -/

/-- The payload that a record gives a frame: its first length bytes (R98). -/
def PayloadRecord.payload (p : PayloadRecord) : List Byte := p.data.take p.length

/-- Part 0 of the PAYLOAD encoding. -/
def PayloadRecord.encode0 (p : PayloadRecord) : List Byte :=
  [0, flag p.used, p.kind.code, byte p.length] ++ p.data.take 24

/-- Part 1 of the PAYLOAD encoding. -/
def PayloadRecord.encode1 (p : PayloadRecord) : List Byte := 1 :: p.data.drop 24

/-- A payload record in the image: used flag, kind, length and 48 data bytes (R198). -/
def PayloadRecord.encodeImage (p : PayloadRecord) : List Byte :=
  [flag p.used, p.kind.code, byte p.length] ++ p.data

/-- The record after a PUT of part 0 or part 1, or none when the part, the length or a code fails R19. A length above 48 is
clamped (R100). -/
def writePayload (old : PayloadRecord) : List Byte → Option PayloadRecord
  | [] => none
  | part :: rest =>
    match part.toNat with
    | 0 =>
      match rest with
      | used :: kind :: len :: data =>
        if data.length = 24 then do
          let used ← readFlag used
          let kind ← readPayloadKind kind
          return { used := used, kind := kind, length := min len.toNat Config.payloadTop
                   data := data ++ old.data.drop 24 }
        else none
      | _ => none
    | 1 => if rest.length = 24 then some { old with data := old.data.take 24 ++ rest } else none
    | _ => none

/-- The payload record of its image bytes, or none when a code fails (R198). -/
def readPayloadImage : List Byte → Option PayloadRecord
  | used :: kind :: len :: data =>
    if data.length = 48 then do
      let used ← readFlag used
      let kind ← readPayloadKind kind
      return { used := used, kind := kind, length := min len.toNat Config.payloadTop, data := data }
    else none
  | _ => none

/-! ## Settings (section 1.8, R182) -/

/-- The SETTINGS encoding. -/
def Settings.encode (t : Settings) : List Byte :=
  [byte t.silenceTime, t.silenceResponse.code, byte t.noticeSpacing] ++ bytes2 t.stormWindow
    ++ [byte t.admissionLimit, t.groupEnables] ++ t.eventEnables.toList

/-- The settings of a written SETTINGS record, or none when its length or a code fails R19. -/
def readSettings : List Byte → Option Settings
  | [time, response, spacing, stormH, stormL, limit, groups, e0, e1, e2, e3, e4, e5, e6, e7] => do
    let response ← readSilenceResponse response
    return { silenceTime := time.toNat, silenceResponse := response, noticeSpacing := spacing.toNat
             stormWindow := word stormH stormL, admissionLimit := limit.toNat, groupEnables := groups
             eventEnables := #v[e0, e1, e2, e3, e4, e5, e6, e7] }
  | _ => none

/-- A value brought into a range. -/
def clampRange (lo hi n : Nat) : Nat := max lo (min n hi)

/-- The clamping of a SETTINGS write; enable bits at positions without an event are stored as 0 (R182). -/
def Settings.clamp (t : Settings) : Settings :=
  { t with
    silenceTime := clampRange 1 60 t.silenceTime
    noticeSpacing := max t.noticeSpacing 1
    stormWindow := clampRange 10 600 t.stormWindow
    admissionLimit := max t.admissionLimit 1
    eventEnables := tableOf 8 (List.zipWith (fun e m => e &&& m) t.eventEnables.toList Settings.allEvents.toList) 0 }

end Sys2Proof.Machine
end

