-- ==== Sys2Proof/Machine/Flags.lean ====
section
/-! DEFINITION. The flags and counts that every block raises: the notice events (R190), the reported set (R190, R191) and the
sixteen counters (R194). -/

namespace Sys2Proof.Machine

/-- The 23 notice events (section 1.8, R190). -/
inductive NoticeEvent
  | sNoisy | sGood | fNoisy | fGood
  | started | ended | suspended | halted | startRefused
  | stepFailed | admissionTimeout
  | hello | storm | faulted | overridden
  | highWater | deferral | discard
  | meterStale | foldSaturated
  | counter128
  | silent | back
  deriving DecidableEq, Repr

/-- The group of a notice event (section 1.8). -/
def NoticeEvent.group : NoticeEvent → Nat
  | .sNoisy | .sGood | .fNoisy | .fGood => 0
  | .started | .ended | .suspended | .halted | .startRefused => 1
  | .stepFailed | .admissionTimeout => 2
  | .hello | .storm | .faulted | .overridden => 3
  | .highWater | .deferral | .discard => 4
  | .meterStale | .foldSaturated => 5
  | .counter128 => 6
  | .silent | .back => 7

/-- The bit of a notice event within its group's byte (section 1.8). -/
def NoticeEvent.bit : NoticeEvent → Nat
  | .sNoisy => 0 | .sGood => 1 | .fNoisy => 2 | .fGood => 3
  | .started => 0 | .ended => 1 | .suspended => 2 | .halted => 3 | .startRefused => 4
  | .stepFailed => 0 | .admissionTimeout => 1
  | .hello => 0 | .storm => 1 | .faulted => 2 | .overridden => 3
  | .highWater => 0 | .deferral => 1 | .discard => 2
  | .meterStale => 0 | .foldSaturated => 1
  | .counter128 => 0
  | .silent => 0 | .back => 1

/-- The flag byte with one event's flag set. -/
def NoticeEvent.mask (e : NoticeEvent) : Byte := 1 <<< e.bit

/-- The pending flags of a group. -/
def State.pendingGroup (s : State) (g : Nat) : Byte := getAt s.noticePending g 0

/-- Whether an event is pending. -/
def State.isPending (s : State) (e : NoticeEvent) : Bool := (s.pendingGroup e.group).getLsbD e.bit

/-- A block raises an event: its pending flag is set, whatever the enables (R190). -/
def State.raise (s : State) (e : NoticeEvent) : State :=
  { s with noticePending := putAt s.noticePending e.group (s.pendingGroup e.group ||| e.mask) }

/-- The flags of a group's reported events: pending, with the event's and the group's enable on (R190). -/
def State.reportedGroup (s : State) (g : Nat) : Byte :=
  if s.settings.groupEnables.getLsbD g then s.pendingGroup g &&& getAt s.settings.eventEnables g 0 else 0

/-- The reported set as the eight group bytes of a NOTICE (R191). -/
def State.reported (s : State) : List Byte := (List.range 8).map s.reportedGroup

/-- Whether the reported set is empty (R191). -/
def State.reportedEmpty (s : State) : Bool := s.reported.all (fun b => b = 0)

/-- The sixteen counters in the order of R194. -/
inductive Counter
  | sFraming | sCheck | sOverlength
  | fFraming | fCheck | fOverlength
  | framesDeferred | framesSuperseded | framesDiscarded
  | retentionMisses | lateReplies | stepRetries
  | repliesLost | upstreamDropped | hellosSeen | unknownPassed
  deriving DecidableEq, Repr

/-- The place of a counter in the order of R194, from 0. -/
def Counter.index : Counter → Nat
  | .sFraming => 0 | .sCheck => 1 | .sOverlength => 2
  | .fFraming => 3 | .fCheck => 4 | .fOverlength => 5
  | .framesDeferred => 6 | .framesSuperseded => 7 | .framesDiscarded => 8
  | .retentionMisses => 9 | .lateReplies => 10 | .stepRetries => 11
  | .repliesLost => 12 | .upstreamDropped => 13 | .hellosSeen => 14 | .unknownPassed => 15

/-- The value of a counter. -/
def State.counter (s : State) (c : Counter) : Nat := getAt s.counters c.index 0

/-- A counter is incremented when its owner asks: at 255 it stays, and from 127 to 128 the COUNT event is raised (R194). -/
def State.count (s : State) (c : Counter) : State :=
  let n := s.counter c
  if 255 ≤ n then s
  else
    let s := { s with counters := putAt s.counters c.index (n + 1) }
    if n = 127 then s.raise .counter128 else s

end Sys2Proof.Machine
end

