-- ==== Sys2Proof/Machine/Ops.lean ====
section
/-! DEFINITION. The named operations over the tables of State: reading and writing a station record, a hold queue, a step, a
payload, a slot or a feed; the derived values (listed, run state, pool occupancy); replies to the supervisor. -/

namespace Sys2Proof.Machine

/-! ## Station Table -/

/-- The addresses of the field stations in ascending order (R37). -/
@[irreducible] def stationNumbers : List Nat := List.range' 1 126

/-- The record of a station; addresses 0 and 127 have none (R37). -/
def State.station (s : State) : Nat → StationRecord
  | 0 => .default
  | k + 1 => getAt s.stations k .default

/-- A station's record replaced; nothing is written for an address without a record. -/
def State.setStation (s : State) (a : Nat) (r : StationRecord) : State :=
  match a with
  | 0 => s
  | k + 1 => { s with stations := putAt s.stations k r }

/-- A station's record changed. -/
def State.updateStation (s : State) (a : Nat) (g : StationRecord → StationRecord) : State :=
  s.setStation a (g (s.station a))

/-- A station is listed when its role is other than NONE (R37). -/
def State.listed (s : State) (a : Nat) : Bool := (s.station a).config.role ≠ .none

/-- The state of a station as the Classifier and the taps see it: UNLISTED while the image is loading (R21, R25). -/
def State.seenState (s : State) (a : Nat) : StationState :=
  if s.loading then .unlisted else (s.station a).state

/-- Whether the taps and the ALERT path see a station as listed: none is while the image is loading (R25, R171). -/
def State.seenListed (s : State) (a : Nat) : Bool := !s.loading && s.listed a

/-- A station argument or field within 1..126. -/
def validStation (a : Nat) : Bool := a ≠ 0 && decide (a ≤ 126)

/-- The number of stations whose member flag is yes (R102). -/
def State.memberCount (s : State) : Nat := (s.stations.toList.filter (fun r => r.member)).length

/-- The member flag of every station cleared. -/
def State.clearMembers (s : State) : State :=
  { s with stations := mapTable s.stations (fun r => { r with member := false }) }

/-! ## Hold queues -/

/-- The hold queue of a station, oldest frame first (R78). -/
def State.queue (s : State) : Nat → List Frame
  | 0 => []
  | k + 1 => getAt s.queues k []

/-- A station's hold queue replaced. -/
def State.setQueue (s : State) (a : Nat) (q : List Frame) : State :=
  match a with
  | 0 => s
  | k + 1 => { s with queues := putAt s.queues k q }

/-- The pool occupancy: the sum of the queue lengths (R78). -/
def State.occupancy (s : State) : Nat := (s.queues.toList.map List.length).sum

/-! ## Start Plan and step state entries -/

/-- The step numbers in ascending order (R97). -/
@[irreducible] def stepNumbers : List Nat := List.range 96

/-- A step record (R97). -/
def State.step (s : State) (n : Nat) : StepRecord := getAt s.plan n .default

/-- A payload record (R98). -/
def State.payload (s : State) (n : Nat) : PayloadRecord := getAt s.payloads n .default

/-- A step state entry (R102). -/
def State.entry (s : State) (n : Nat) : StepEntry := getAt s.entries n .reset

/-- The state of a step; an unused step reads IDLE at all times (R97, R119). -/
def State.stepState (s : State) (n : Nat) : StepState := if (s.step n).used then (s.entry n).state else .idle

/-- The used steps of a station, ascending. -/
def State.stepsOf (s : State) (a : Nat) : List Nat :=
  stepNumbers.filter (fun n => (s.step n).used && (s.step n).station = a)

/-- The number of used steps in a state (R102). -/
def State.countSteps (s : State) (x : StepState) : Nat :=
  (stepNumbers.filter (fun n => (s.step n).used && (s.entry n).state = x)).length

/-! ## Feeds -/

/-- The feed choice that names a feed. -/
def Feed.choice : Feed → FeedChoice
  | .a => .a
  | .b => .b

/-- A feed record (R144). -/
def State.feed (s : State) : Feed → FeedRecord
  | .a => s.feedA
  | .b => s.feedB

/-- A feed record replaced. -/
def State.setFeedRecord (s : State) (f : Feed) (r : FeedRecord) : State :=
  match f with
  | .a => { s with feedA := r }
  | .b => { s with feedB := r }

/-- The head-of-line step of a feed: the lowest-numbered used step with that feed whose state is AWAITING (R157). -/
def State.headOf (s : State) (f : Feed) : Option Nat :=
  stepNumbers.find? (fun n => (s.entry n).state = .awaiting && (s.step n).used && (s.step n).feed = f.choice)

/-- The head fields of a feed brought up to date: at a change of head the wait start is made absent and the wait count 0
(R157). -/
def State.syncHead (s : State) (f : Feed) : State :=
  let h := s.headOf f
  if (s.feed f).head = h then s
  else s.setFeedRecord f { s.feed f with head := h, waitStart := none, waitCount := 0 }

/-- The head fields of both feeds brought up to date. -/
def State.syncHeads (s : State) : State := (s.syncHead .a).syncHead .b

/-- A step state entry replaced; the feeds' heads follow (R157). -/
def State.setEntry (s : State) (n : Nat) (e : StepEntry) : State :=
  State.syncHeads { s with entries := putAt s.entries n e }

/-- A step's state replaced, the rest of its entry kept. -/
def State.setStepState (s : State) (n : Nat) (x : StepState) : State :=
  s.setEntry n { s.entry n with state := x }

/-! ## Injection slots -/

/-- The slot numbers (R125). -/
@[irreducible] def slotNumbers : List Nat := List.range 8

/-- The injection record in a slot (R125). -/
def State.slot (s : State) (i : Nat) : Option InjectionRecord := getAt s.slots i none

/-- The content of a slot replaced. -/
def State.setSlot (s : State) (i : Nat) (r : Option InjectionRecord) : State :=
  { s with slots := putAt s.slots i r }

/-- The slot of a station's injection record, if it has one (R125). -/
def State.slotOf (s : State) (a : Nat) : Option Nat :=
  slotNumbers.find? (fun i => match s.slot i with | some r => r.station = a | none => false)

/-- Whether a station has an injection record, OPEN or CLOSING. -/
def State.hasRecord (s : State) (a : Nat) : Bool := (s.slotOf a).isSome

/-- A free slot, if there is one; a grant takes the lowest (log 26). -/
def State.freeSlot (s : State) : Option Nat := slotNumbers.find? (fun i => s.slot i = none)

/-! ## The run state (R103) -/

/-- The run states (R103). -/
inductive RunState
  | idle
  | running
  | suspended
  | halted
  deriving DecidableEq, Repr

/-- Run state codes (section 1.8). -/
def RunState.code : RunState → Byte
  | .idle => 0 | .running => 1 | .suspended => 2 | .halted => 3

/-- The run state, derived from the run record (R103). -/
def State.runState (s : State) : RunState :=
  if !s.run.inProgress then .idle
  else if s.run.halting.isSome then .halted
  else if s.run.causes ≠ Causes.empty then .suspended
  else .running

/-- A suspension cause is added while a run is in progress; from an empty set "suspended" is raised (R104). -/
def State.addCause (s : State) (g : Causes → Causes) : State :=
  if s.run.inProgress then
    let s' := { s with run := { s.run with causes := g s.run.causes } }
    if s.run.causes = Causes.empty then s'.raise .suspended else s'
  else s

/-! ## Frames of the bridge (R12) -/

/-- The dispositions of a HOLD-REPLY (section 1.8). -/
inductive Disposition
  | held
  | superseded
  | deferred
  | discarded
  deriving DecidableEq, Repr

/-- Disposition codes. -/
def Disposition.code : Disposition → Byte
  | .held => 1 | .superseded => 2 | .deferred => 3 | .discarded => 4

/-- A HOLD-REPLY for a frame: its station, its seq, and as payload the disposition, its kind and a queue length (R12, R83). -/
def holdReply (f : Frame) (d : Disposition) (len : Nat) : Frame :=
  { station := f.station, kind := kindHoldReply, seq := f.seq, payload := [d.code, f.kind, byte len] }

/-- A reply is placed at the tail of the bridge reply queue; at 16 frames it is lost and counted (R34). -/
def State.placeReply (s : State) (r : Reply) : State :=
  if s.replies.length < Config.replyPlaces then { s with replies := s.replies ++ [r] } else s.count .repliesLost

/-- A HOLD-REPLY is created (R83). -/
def State.replyHold (s : State) (f : Frame) (d : Disposition) (len : Nat) : State :=
  s.placeReply { frame := holdReply f d len, isReset := false }

/-- The effects of a deferral: a HOLD-REPLY DEFERRED, "frames deferred" and the HOLD event (R27, R28, R82). -/
def State.defer (s : State) (f : Frame) (len : Nat) : State :=
  ((s.replyHold f .deferred len).count .framesDeferred).raise .deferral

/-- A free value's index is taken: the counter goes on, so that no free value is drawn twice (log 8, log 10). -/
def State.drawFree (s : State) : State := { s with freeCount := s.freeCount + 1 }

/-- A bridge time some units ahead (R1). -/
def State.later (s : State) (units : Nat) : BridgeTime := s.bridgeTime + BitVec.ofNat 32 units

end Sys2Proof.Machine
end

