-- ==== Sys2Proof/Machine/Points.lean ====
section
/-! DEFINITION. The Retained Point Store (chapter 4): the pool, snooping, confirmation and removal, the content of RESTORE
frames, the pool across a warm reset. -/

namespace Sys2Proof.Machine

/-- The order of the pool: ascending station, then ascending channel (R60). -/
def PointRecord.before (p q : PointRecord) : Bool :=
  decide (p.station < q.station) || (p.station = q.station && decide (p.channel < q.channel))

/-- Whether a record names a station and a channel. -/
def PointRecord.names (p : PointRecord) (a c : Nat) : Bool := p.station = a && p.channel = c

/-- A record put into its place in the pool; a record of the same station and channel is replaced (R60). -/
def putPoint (r : PointRecord) : List PointRecord → List PointRecord
  | [] => [r]
  | p :: ps =>
    if r.before p then r :: p :: ps
    else if p.names r.station r.channel then r :: ps
    else p :: putPoint r ps

/-- The record of a station and a channel, if there is one. -/
def State.findPoint (s : State) (a c : Nat) : Option PointRecord := s.points.find? (fun p => p.names a c)

/-- A point record written. -/
def State.writePoint (s : State) (r : PointRecord) : State := { s with points := putPoint r s.points }

/-- A point record removed. -/
def State.dropPoint (s : State) (a c : Nat) : State :=
  { s with points := s.points.filter (fun p => !p.names a c) }

/-- A station's retained count (R60). -/
def State.retained (s : State) (a : Nat) : Nat := (s.points.filter (fun p => p.station = a)).length

/-- The count of pinned records across the pool (R60). -/
def State.pinnedCount (s : State) : Nat := (s.points.filter (fun p => p.pinned)).length

/-- Room for a new record: the station's retained count below its quota and the pool below 1024 (R62). -/
def State.pointRoom (s : State) (a : Nat) : Bool :=
  decide (s.retained a < (s.station a).config.retentionQuota) && decide (s.points.length < Config.pointRecords)

/-! ## Snooping -/

/-- One point of a snooped SET (R64, R65). -/
def State.snoopPoint (s : State) (a : Nat) (seq : Byte) (p : Nat × Nat) : State :=
  match s.findPoint a p.1 with
  | some r =>
    if r.pinned then s
    else s.writePoint { r with pending := some { value := p.2, seq := seq } }
  | none =>
    if s.pointRoom a then
      s.writePoint { station := a, channel := p.1, confirmed := none
                     pending := some { value := p.2, seq := seq }, pinned := false }
    else s.count .retentionMisses

/-- A SET is snooped when its station is listed and not OVERRIDDEN, its retention quota is above 0 and the SET is parsed
(R63). -/
def State.snoops (s : State) (f : Frame) : Bool :=
  s.seenListed f.station && s.seenState f.station ≠ .overridden
    && decide (0 < (s.station f.station).config.retentionQuota) && isParsedSet f

/-- The points of a snooped SET, in ascending order of channel (R64). -/
def State.snoop (s : State) (f : Frame) : State :=
  if s.snoops f then (readPoints f.payload).foldl (fun s p => s.snoopPoint f.station f.seq p) s else s

/-! ## Confirmation and removal -/

/-- Whether a record's pending part carries a seq. -/
def PointRecord.carries (p : PointRecord) (seq : Byte) : Bool :=
  match p.pending with
  | some x => x.seq = seq
  | none => false

/-- One record under an ACK: a pending part of the seq becomes the confirmed value (R66). -/
def PointRecord.confirm (p : PointRecord) (a : Nat) (seq : Byte) : PointRecord :=
  if p.station = a && p.carries seq then { p with confirmed := p.pending.map (fun x => x.value), pending := none } else p

/-- An ACK confirms every pending part of its station that carries its seq (R66). -/
def State.confirmPoints (s : State) (a : Nat) (seq : Byte) : State :=
  { s with points := s.points.map (fun p => p.confirm a seq) }

/-- One record under a NAK: its pending part of the seq is removed (R67). -/
def PointRecord.refuse (p : PointRecord) (a : Nat) (seq : Byte) : PointRecord :=
  if p.station = a && p.carries seq then { p with pending := none } else p

/-- A record holds at least one of a confirmed value and a pending part (R61). -/
def PointRecord.holds (p : PointRecord) : Bool := p.confirmed.isSome || p.pending.isSome

/-- Whether a NAK leaves a record empty: its pending part is removed and it holds no confirmed value (R61, R67). -/
def PointRecord.emptied (p : PointRecord) (a : Nat) (seq : Byte) : Bool :=
  p.station = a && p.carries seq && p.confirmed.isNone

/-- A NAK removes the pending parts of its station that carry its seq; a record left empty is removed (R61, R67). -/
def State.refusePoints (s : State) (a : Nat) (seq : Byte) : State :=
  { s with points := (s.points.filter (fun p => !p.emptied a seq)).map (fun p => p.refuse a seq) }

/-- A warm reset removes every pending part, and then the records left empty (R76). -/
def State.clearPendingParts (s : State) : State :=
  { s with points := (s.points.map (fun p => { p with pending := none })).filter PointRecord.holds }

/-! ## RESTORE -/

/-- The confirmed values of a station with a channel in a range, ascending: channel and value (R70). -/
def State.confirmedIn (s : State) (a first last : Nat) : List (Nat × Nat) :=
  s.points.filterMap (fun p =>
    if p.station = a && decide (first ≤ p.channel) && decide (p.channel ≤ last) then
      p.confirmed.map (fun v => (p.channel, v))
    else none)

/-- Whether a RESTORE step has anything to restore (R69). -/
def State.hasRestore (s : State) (n : Nat) : Bool :=
  let r := s.step n
  !(s.confirmedIn r.station r.first r.last).isEmpty

/-- The pinned records in pool order, as a STORE takes them: station, channel and confirmed value (R77). -/
def State.pinnedPoints (s : State) : List (Nat × Nat × Nat) :=
  (s.points.filter (fun p => p.pinned)).map (fun p => (p.station, p.channel, p.confirmed.getD 0))

end Sys2Proof.Machine
end

