-- ==== Sys2Proof/Machine/Feeds.lean ====
section
/-! DEFINITION. The Feed Load Estimator (chapter 8): contributions, the estimate, admission, the slice's advance, folds and the
stale test, meter readings. Head-of-line waits are in Engine.lean, since a timeout fails a step. -/

namespace Sys2Proof.Machine

/-- A feed is metered while some station has role METER and that meter feed (R145). -/
def State.metered (s : State) (f : Feed) : Bool :=
  s.stations.toList.any (fun r => r.config.role = .meter && r.config.meterFeed = f.choice)

/-- A contribution is ramp-complete when its elapsed count has reached its ramp (R146). -/
def Contribution.complete (c : Contribution) : Bool := decide (c.ramp ≤ c.elapsed)

/-- The value of a contribution, rounded upward (R150). -/
def Contribution.value (c : Contribution) : Nat :=
  if c.elapsed < c.ramp then c.steady + ((c.peak - c.steady) * (c.ramp - c.elapsed) + c.ramp - 1) / c.ramp else c.steady

/-- The contributions on a feed. -/
def State.contributionsOn (s : State) (f : Feed) : List Contribution := s.contributions.filter (fun c => c.feed = f)

/-- The base of a feed's estimate (R149). -/
def State.feedBase (s : State) (f : Feed) : Nat :=
  match s.metered f, (s.feed f).measured with
  | true, some m => max (s.feed f).standing m
  | _, _ => (s.feed f).standing

/-- The estimate of a feed: its base plus the values of its contributions, formed exactly (R149). -/
def State.estimate (s : State) (f : Feed) : Nat :=
  s.feedBase f + ((s.contributionsOn f).map Contribution.value).sum

/-- The admission test of a step on a feed (R156). -/
def State.admits (s : State) (f : Feed) (n : Nat) : Bool :=
  decide (s.estimate f + (s.step n).peak ≤ (s.feed f).budget)
    && decide (s.contributions.length < Config.contributionPlaces)

/-- A grant on a feed creates the step's contribution at its peak, its clock stopped (R147). -/
def State.createContribution (s : State) (f : Feed) (n : Nat) : State :=
  let r := s.step n
  { s with contributions := s.contributions ++
      [{ step := n, feed := f, peak := r.peak, steady := r.steady, ramp := r.ramp, elapsed := 0, running := false }] }

/-- The end of a step's action starts the clock of its stopped contribution, if it has one (R148). -/
def State.startClock (s : State) (n : Nat) : State :=
  { s with contributions := s.contributions.map (fun c =>
      if c.step = n && !c.running then { c with running := true } else c) }

/-- One contribution at a slice expiry (R151, step 1). -/
def Contribution.advance (c : Contribution) : Contribution :=
  if c.running && decide (c.elapsed < c.ramp) then { c with elapsed := c.elapsed + 1 } else c

/-- Every running contribution advances (R151, step 1). -/
def State.advanceContributions (s : State) : State :=
  { s with contributions := s.contributions.map Contribution.advance }

/-- One contribution is folded into its feed's standing load; a sum above 16383 saturates, sets the mark and raises the
event (R152). -/
def State.fold (s : State) (c : Contribution) : State :=
  let r := s.feed c.feed
  let sum := r.standing + c.steady
  if sum ≤ Config.loadTop then s.setFeedRecord c.feed { r with standing := sum }
  else (s.setFeedRecord c.feed { r with standing := Config.loadTop, foldSaturated := true }).raise .foldSaturated

/-- Whether a contribution is folded at a slice expiry: ramp-complete, on an unmetered feed (R152). -/
def State.foldsNow (s : State) (c : Contribution) : Bool := c.complete && !s.metered c.feed

/-- The unmetered folding of a slice expiry (R151, step 2; R152). -/
def State.foldContributions (s : State) : State :=
  let folded := s.contributions.filter s.foldsNow
  let kept := s.contributions.filter (fun c => !s.foldsNow c)
  folded.foldl State.fold { s with contributions := kept }

/-- The stale test of one feed at a slice expiry (R153). -/
def State.testStale (s : State) (f : Feed) : State :=
  let r := s.feed f
  if s.metered f && r.measured.isSome && !r.stale
      && decide (Config.staleUnits < (s.bridgeTime - r.measuredTime).toNat) then
    (s.setFeedRecord f { r with stale := true }).raise .meterStale
  else s

/-- A meter reading's writes (R154, step 1) and metered retirement (R155). -/
def State.takeReading (s : State) (f : Feed) (value : Nat) : State :=
  let s := s.setFeedRecord f { s.feed f with measured := some (min value Config.loadTop), measuredTime := s.bridgeTime
                                             stale := false }
  if s.metered f then { s with contributions := s.contributions.filter (fun c => !(c.feed = f && c.complete)) } else s

/-- The feed and the value that a STATE frame reads, when its station is a METER for a feed and the frame carries the meter
channel (R154). -/
def State.meterReading (s : State) (f : Frame) : Option (Feed × Nat) :=
  let c := (s.station f.station).config
  if f.kind = kindState && s.seenListed f.station && c.role = .meter then
    match c.meterFeed.feed, pointValue f.payload c.meterChannel with
    | some feed, some v => some (feed, v)
    | _, _ => none
  else none

end Sys2Proof.Machine
end

