-- ==== Sys2Proof/Machine/Records.lean ====
section
/-! DEFINITION. Step states and injection records (chapter 7): evaluation and the cause filter, attempts, the closing of a
record, cancellation, the return of steps to PENDING, and the end of a step's frames. -/

namespace Sys2Proof.Machine

/-! ## Evaluation (R120, R121) -/

/-- The restart cause that the cause filter reads: the newest history entry's, a cause above 7 as 7, an empty history as 7
(R121). -/
def State.restartCause (s : State) (a : Nat) : Nat :=
  match (s.station a).history.getLast? with
  | some h => min h.cause.toNat 7
  | none => 7

/-- What the predecessors of a step say to it (R120). -/
inductive Verdict
  | skip
  | wait
  | filter
  deriving DecidableEq, Repr

/-- The verdict of the predecessors' states (R120); IDLE, DONE and NOT-APPLICABLE count as satisfied (R122). -/
def State.verdict (s : State) (n : Nat) : Verdict :=
  let xs := (s.step n).preds.map s.stepState
  if xs.any (fun x => x = .failed || x = .skipped) then .skip
  else if xs.any (fun x => x = .pending || x = .awaiting || x = .issued || x = .settling) then .wait
  else .filter

/-- A PENDING step is evaluated; any other step is left as it stands (R120, R121). -/
def State.evaluate (s : State) (n : Nat) : State :=
  if s.stepState n = .pending then
    match s.verdict n with
    | .skip => s.setStepState n .skipped
    | .wait => s
    | .filter =>
      if (s.step n).causeMask.getLsbD (s.restartCause (s.step n).station) then s.setStepState n .awaiting
      else s.setStepState n .notApplicable
  else s

/-- The PENDING steps are evaluated in ascending order, each seeing the states left by those before it (R120). A step whose
predecessors have not changed is left PENDING by it. -/
def State.evaluateAll (s : State) : State := stepNumbers.foldl State.evaluate s

/-! ## Attempts (R129) -/

/-- The seq after another in the injection band: 224 to 255, then 224 again (R129). -/
def nextInBand (b : Byte) : Byte := if b = 255 then Config.bandFirst else b + 1

/-- The first seq of the band from `b` on that is not among `used` (R129); `fuel` seqs are passed over at most. -/
def pickSeq (used : List Byte) : Nat → Byte → Byte
  | 0, b => b
  | k + 1, b => if used.contains b then pickSeq used k (nextInBand b) else b

/-- An attempt is made for the record in a slot: it takes the next seq, appends it to the attempt seqs and sets it as the
ready attempt (R129). -/
def State.makeAttempt (s : State) (i : Nat) : State :=
  match s.slot i with
  | some r =>
    let q := pickSeq r.attempts 32 s.injectionSeq
    { s.setSlot i (some { r with attempts := r.attempts ++ [q], ready := some q }) with injectionSeq := nextInBand q }
  | none => s

/-- A re-poll's attempt: its seq replaces the record's attempt seqs (R129, R133, log 16). -/
def State.makePoll (s : State) (i : Nat) : State :=
  match s.slot i with
  | some r =>
    let q := pickSeq r.attempts 32 s.injectionSeq
    { s.setSlot i (some { r with attempts := [q], ready := some q }) with injectionSeq := nextInBand q }
  | none => s

/-- A new OPEN record of a step with its first attempt made (R127, R135). -/
def State.openRecord (s : State) (i n frameIndex startChannel : Nat) : State :=
  (s.setSlot i (some
    { station := (s.step n).station, step := n, closing := false, frameIndex := frameIndex
      startChannel := startChannel, attempts := [], outstanding := none, ready := none, deadline := none
      pollCount := 1, repollWait := false, builtHighest := none, further := none })).makeAttempt i

/-- A record closes: its slot is freed, or its RESTORE step's further frame takes it at once (R128, R135, R136). -/
def State.closeRecord (s : State) (i : Nat) : State :=
  match s.slot i with
  | some r =>
    match r.further with
    | some c => s.openRecord i r.step (r.frameIndex + 1) c
    | none => s.setSlot i none
  | none => s

/-- A record whose frame is resolved by an answer to `seq` (R134): while a later attempt is outstanding it goes to CLOSING,
else it closes; a ready attempt is withdrawn. `further` is the starting channel of the step's further frame (R135). -/
def State.resolveRecord (s : State) (i : Nat) (seq : Byte) (further : Option Nat) : State :=
  match s.slot i with
  | some r =>
    let left := if r.outstanding = some seq then none else r.outstanding
    let r' := { r with ready := none, outstanding := left, further := further }
    if left.isSome then s.setSlot i (some { r' with closing := true })
    else (s.setSlot i (some r')).closeRecord i
  | none => s

/-- A record whose step is cancelled or returned to PENDING (R136, R137, R141): OPEN with an attempt outstanding it goes to
CLOSING, OPEN without one it closes at once, CLOSING it stays; a ready attempt is withdrawn and no further frame is made. -/
def State.cancelRecord (s : State) (i : Nat) : State :=
  match s.slot i with
  | some r =>
    if r.closing then s.setSlot i (some { r with further := none })
    else if r.outstanding.isSome then
      s.setSlot i (some { r with closing := true, ready := none, further := none })
    else s.setSlot i none
  | none => s

/-- The record of a station that serves a given step is cancelled. -/
def State.cancelRecordOf (s : State) (a n : Nat) : State :=
  match s.slotOf a with
  | some i =>
    match s.slot i with
    | some r => if r.step = n then s.cancelRecord i else s
    | none => s
  | none => s

/-! ## Leaving, restart and the end of a step's frames -/

/-- One step of a station that leaves membership (R46, R137); `drainEnd` is the leaving by a drain end after the station's
own RELEASE step, at which a SETTLING step goes on settling. -/
def State.leaveStep (a : Nat) (drainEnd : Bool) (s : State) (n : Nat) : State :=
  match (s.entry n).state with
  | .pending => s.setStepState n .skipped
  | .awaiting => s.setStepState n .skipped
  | .issued => ((s.setStepState n .skipped).cancelRecordOf a n).startClock n
  | .settling => if drainEnd then s else s.setEntry n { s.entry n with state := .skipped, settle := none }
  | _ => s

/-- The steps of a station that leaves membership (R46). -/
def State.leaveSteps (s : State) (a : Nat) (drainEnd : Bool) : State :=
  (s.stepsOf a).foldl (State.leaveStep a drainEnd) s

/-- A step returned to PENDING: its failure cause and NAK reason are cleared, its attempt count is kept, its settle timer is
stopped, and when it was ISSUED its contribution's clock starts (R141). -/
def State.returnStep (s : State) (n : Nat) : State :=
  match (s.entry n).state with
  | .pending => s
  | .issued => (s.setEntry n { s.entry n with state := .pending, cause := .none, nak := 0, settle := none }).startClock n
  | _ => s.setEntry n { s.entry n with state := .pending, cause := .none, nak := 0, settle := none }

/-- Which of a station's steps a restart or a joining returns to PENDING (R110, R141). -/
inductive Restart
  | hello
  | drainingHello
  | held
  deriving DecidableEq, Repr

/-- Whether a step in a state is returned: by a HELLO every step that is not SKIPPED, by a HELLO from DRAINING every step, by
HOLD-STATION the IDLE steps (R110, R141). -/
def Restart.returns : Restart → StepState → Bool
  | .hello, x => x ≠ .skipped
  | .drainingHello, _ => true
  | .held, x => x = .idle

/-- A station's steps are returned to PENDING, and its OPEN record goes to CLOSING (R141); the evaluation of the returned steps
opens the Run Engine's follow-up of the event. -/
def State.restartSteps (s : State) (a : Nat) (k : Restart) : State :=
  let s := ((s.stepsOf a).filter (fun n => k.returns (s.entry n).state)).foldl State.returnStep s
  match s.slotOf a with
  | some i => s.cancelRecord i
  | none => s

/-- A step whose action is over settles, or is DONE at once with settle 0 (R132, R138). -/
def State.settleStep (s : State) (n : Nat) : State :=
  if (s.step n).settle = 0 then s.setEntry n { s.entry n with state := .done, settle := none }
  else s.setEntry n { s.entry n with state := .settling, settle := some (s.later ((s.step n).settle * 10)) }

/-- A step's frames are finished: its contribution's clock starts and it settles (R132, R148). -/
def State.finishFrames (s : State) (n : Nat) : State := (s.startClock n).settleStep n

end Sys2Proof.Machine
end

