-- ==== Sys2Proof/Machine/Stations.lean ====
section
/-! DEFINITION. The station state machine (sections 3.2 to 3.4) and the emptying of hold queues: leaving membership, the drain
and its end, fault requests, override requests, discards. -/

namespace Sys2Proof.Machine

/-- The high-water flag is armed again when a removal brings the pool occupancy below 160 (R86). -/
def State.rearm (s : State) : State :=
  if s.occupancy < Config.highWaterRearm then { s with highWaterArmed := true } else s

/-- A station leaves membership: its member flag is cleared, and when it was a member of a run in progress its steps are
treated by R46. -/
def State.leaveRun (s : State) (a : Nat) (drainEnd : Bool) : State :=
  let was := (s.station a).member
  let s := s.updateStation a (fun r => { r with member := false })
  if was && s.run.inProgress then s.leaveSteps a drainEnd else s

/-- The end of a drain: ONLINE, or FAULTED when fault-pending is set, and out of membership (R43). -/
def State.drainEnd (s : State) (a : Nat) : State :=
  let s :=
    if (s.station a).faultPending then
      (s.updateStation a (fun r => { r with state := .faulted, faultPending := false })).raise .faulted
    else s.updateStation a (fun r => { r with state := .online })
  s.leaveRun a true

/-- The drain of a DRAINING station ends when its queue is empty (R89). -/
def State.checkDrain (s : State) (a : Nat) : State :=
  if (s.station a).state = .draining && (s.queue a).isEmpty then s.drainEnd a else s

/-- A HELD or RESTORING station enters DRAINING, its membership unchanged; with an empty queue the drain ends at once
(R42). A station in another state is left as it is. -/
def State.enterDraining (s : State) (a : Nat) : State :=
  if (s.station a).state = .held || (s.station a).state = .restoring then
    (s.updateStation a (fun r => { r with state := .draining })).checkDrain a
  else s

/-- A fault request (R44). -/
def State.faultRequest (s : State) (a : Nat) (cause : FaultCause) : State :=
  match (s.station a).state with
  | .online => (s.updateStation a (fun r => { r with state := .faulted, faultCause := some cause })).raise .faulted
  | .held | .restoring =>
    if (s.queue a).isEmpty then
      ((s.updateStation a (fun r => { r with state := .faulted, faultCause := some cause })).leaveRun a false).raise .faulted
    else
      (s.updateStation a (fun r =>
        { r with state := .draining, faultPending := true, faultCause := some cause })).leaveRun a false
  | .draining =>
    if (s.station a).faultPending then s
    else (s.updateStation a (fun r => { r with faultPending := true, faultCause := some cause })).leaveRun a false
  | .unlisted | .faulted | .overridden => s

/-- The frames of a station's queue are discarded, oldest first, each with a HOLD-REPLY DISCARDED carrying the length after
its removal, and counted (R93). -/
def State.discardFrames (a : Nat) : List Frame → State → State
  | [], s => s
  | f :: rest, s =>
    State.discardFrames a rest
      ((((s.setQueue a rest).rearm).replyHold f .discarded rest.length).count .framesDiscarded)

/-- A station's queue is discarded; the HOLD event is raised once when any frame was (R93). -/
def State.discardQueue (s : State) (a : Nat) : State :=
  let q := s.queue a
  let s := State.discardFrames a q s
  if q.isEmpty then s else s.raise .discard

/-- An override request (R45): the station goes to OVERRIDDEN, its fault cause kept; its queue is discarded, and it leaves
membership. -/
def State.overrideStation (s : State) (a : Nat) : State :=
  match (s.station a).state with
  | .unlisted | .overridden => s
  | .online | .held | .restoring | .draining | .faulted =>
    ((s.updateStation a (fun r => { r with state := .overridden, faultPending := false })).discardQueue a).leaveRun a false

end Sys2Proof.Machine
end

