-- ==== Sys2Proof/Machine/Engine.lean ====
section
/-! DEFINITION. The Run Engine (chapters 6 and 7) and the admission waits (R157 to R160): frameless completion, grant, failure,
the run's start, end and abort. -/

namespace Sys2Proof.Machine

/-! ## Frameless steps and grants -/

/-- Whether an AWAITING step is frameless: RELEASE, MARK, or a RESTORE with nothing to restore (R123). -/
def State.frameless (s : State) (n : Nat) : Bool :=
  match (s.step n).action with
  | some .release => true
  | some .mark => true
  | some .restore => !s.hasRestore n
  | _ => false

/-- Whether a step needs a frame (R126). -/
def State.needsFrame (s : State) (n : Nat) : Bool :=
  match (s.step n).action with
  | some .fixedSet => true
  | some .order => true
  | some .await => true
  | some .restore => s.hasRestore n
  | _ => false

/-- A step that waits in AWAITING in a RUNNING run, its station without an injection record (R123, R126). -/
def State.mayAct (s : State) (n : Nat) : Bool :=
  s.stepState n = .awaiting && s.runState = .running && !s.hasRecord (s.step n).station

/-- The lowest AWAITING frameless step that may complete (R123). -/
def State.nextFrameless (s : State) : Option Nat := stepNumbers.find? (fun n => s.mayAct n && s.frameless n)

/-- A frameless step completes (R123); a RELEASE step then takes its station to DRAINING, its membership kept (R124). -/
def State.completeFrameless (s : State) (n : Nat) : State :=
  let r := s.step n
  let s := s.settleStep n
  if r.action = some .release then s.enterDraining r.station else s

/-- Whether the admission test of a feed's head is made: the run RUNNING, its station without a record, and a frame needed
(R157, R158). -/
def State.headTested (s : State) (n : Nat) : Bool := s.mayAct n && s.needsFrame n

/-- A feed's head that fails its test takes its wait start at the first failure (R158). -/
def State.markWait (s : State) (f : Feed) : State :=
  match s.headOf f with
  | some n =>
    if s.headTested n && !s.admits f n && (s.feed f).waitStart.isNone then
      s.setFeedRecord f { s.feed f with waitStart := some s.bridgeTime }
    else s
  | none => s

/-- Whether an AWAITING step is eligible for grant (R126). -/
def State.eligible (s : State) (n : Nat) : Bool :=
  s.mayAct n && s.needsFrame n &&
    match (s.step n).feed.feed with
    | none => true
    | some f => s.headOf f = some n && s.admits f n

/-- The lowest-numbered eligible step, while a slot is free (R126). -/
def State.nextGrant (s : State) : Option (Nat × Nat) :=
  match s.freeSlot with
  | some i => (stepNumbers.find? s.eligible).map (fun n => (i, n))
  | none => none

/-- A grant, in the order of R127: the contribution, the OPEN record with its first attempt, ISSUED, and HELD to
RESTORING. -/
def State.grant (s : State) (i n : Nat) : State :=
  let r := s.step n
  let s := match r.feed.feed with
    | some f => s.createContribution f n
    | none => s
  let s := s.openRecord i n 0 (if r.action = some .restore then r.first else 0)
  let s := s.setStepState n .issued
  if (s.station r.station).state = .held then s.updateStation r.station (fun x => { x with state := .restoring }) else s

/-- Whether the record that stood in a slot has closed on the way to `t`: the slot is free, or holds another frame's record
(R126, R135, R136). -/
def State.recordClosed (s t : State) (i : Nat) : Bool :=
  match s.slot i, t.slot i with
  | some r, some r' => r'.step ≠ r.step || r'.frameIndex ≠ r.frameIndex
  | some _, none => true
  | none, _ => false

/-- Whether the change from `s` to `t` holds one of the moments at which the Run Engine makes a grant test: a step becoming
AWAITING, a record closing or a slot freeing, the run becoming RUNNING (R126), a change of head (R157, R158). The slice expiry,
the meter reading and SET-FEED, at which chapter 8 has the test made whatever they change, use `State.settle`. -/
def State.grantMoment (s t : State) : Bool :=
  stepNumbers.any (fun n => s.stepState n ≠ .awaiting && t.stepState n = .awaiting)
    || slotNumbers.any (s.recordClosed t)
    || (s.runState ≠ .running && t.runState = .running)
    || s.headOf .a ≠ t.headOf .a || s.headOf .b ≠ t.headOf .b

/-- Evaluation, frameless completions and, when a grant test is `due`, grants until none is left: the frameless steps before any
grant (R123), one step at a time, the lowest first (R123, R126). A test falls due within it at the moments of
`State.grantMoment`, and then goes on to the end of the event. Each turn takes one step out of AWAITING, so `fuel` turns suffice
for the 96 steps.

DESIGN CHOICE (log 37): each turn ends the whole ascending pass of evaluation (R120) before the lowest frameless step completes,
with the end of drain that a RELEASE step may bring (R123, R124). The manual does not say whether a step that the pass makes
AWAITING completes before the pass goes on to the higher steps. -/
def State.settleLoop : Nat → Bool → State → State
  | 0, _, s => s
  | fuel + 1, due, s =>
    let t := s.evaluateAll
    let due := due || s.grantMoment t
    match t.nextFrameless with
    | some n =>
      let u := t.completeFrameless n
      State.settleLoop fuel (due || t.grantMoment u) u
    | none =>
      if due then
        let t := (t.markWait .a).markWait .b
        match t.nextGrant with
        | some (i, n) => State.settleLoop fuel true (t.grant i n)
        | none => t
      else t

/-! ## The end of a run -/

/-- Whether a used step is in flight or an injection record is OPEN (R115, first condition). -/
def State.inFlight (s : State) : Bool :=
  stepNumbers.any (fun n => s.stepState n = .awaiting || s.stepState n = .issued || s.stepState n = .settling)
    || slotNumbers.any (fun i => match s.slot i with | some r => !r.closing | none => false)

/-- The terminal states (R119). -/
def StepState.terminal : StepState → Bool
  | .done => true
  | .failed => true
  | .skipped => true
  | .notApplicable => true
  | _ => false

/-- Whether every used step of a member station is terminal (R115, second condition). -/
def State.membersFinished (s : State) : Bool :=
  stepNumbers.all (fun n =>
    !((s.step n).used && (s.station (s.step n).station).member) || (s.entry n).state.terminal)

/-- Every member still HELD or RESTORING is asked to go to DRAINING, and every member flag is cleared (R114, R116). -/
def State.drainMembers (s : State) : State :=
  ((stationNumbers.filter (fun a => (s.station a).member)).foldl State.enterDraining s).clearMembers

/-- The run is over with an outcome: halt flag and causes cleared, no run in progress, "ended" raised (R114, R116). -/
def State.closeRun (s : State) (o : RunOutcome) : State :=
  State.raise { s with run := { s.run with inProgress := false, halting := none, causes := .empty, lastOutcome := o } } .ended

/-- The end of a run (R116). -/
def State.endRun (s : State) : State :=
  let o := if stepNumbers.any (fun n => s.stepState n = .failed) then RunOutcome.completeWithFailures else .complete
  s.drainMembers.closeRun o

/-- The run end test (R115). -/
def State.testRunEnd (s : State) : State :=
  if s.run.inProgress && !s.inFlight && s.membersFinished then s.endRun else s

/-- What follows an event that touches the Run Engine while a run is in progress: evaluation, frameless completions, grants when
a grant test is `due` or falls due, and the run end test (R115, R120, R123, R126; log 20). -/
def State.followUp (due : Bool) (s : State) : State :=
  if s.run.inProgress then (State.settleLoop 200 due s).testRunEnd else s

/-- The follow-up of an event at which a grant test is made (R126, R158). -/
def State.settle (s : State) : State := State.followUp true s

/-- The follow-up of an event that has taken the bridge from `s` to `t`: the grant test is made when that change holds a moment
for it (R126). -/
def State.settleFrom (s t : State) : State := State.followUp (s.grantMoment t) t

/-! ## Failure (R139, R140) -/

/-- An ESSENTIAL failure acts on the halt flag (R105). -/
def State.haltRun (s : State) (n : Nat) : State :=
  if s.run.halting.isSome then s
  else State.raise { s with run := { s.run with halting := some n } } .halted

/-- The propagation of a failure (R140). -/
def State.propagate (s : State) (n : Nat) : State :=
  let s := s.evaluateAll
  match (s.step n).criticality with
  | .ordinary => s
  | .essential => ((s.haltRun n).faultRequest (s.step n).station .essentialStep).evaluateAll

/-- A step fails: its entry records the cause and, for REFUSED, the NAK's reason; its contribution's clock starts; "step
failed", or "admission timeout" for OVER-BUDGET, is raised; the failure propagates (R139, R140, R160). The step's record has
been dealt with before (R130, R134). -/
def State.failStep (s : State) (n : Nat) (cause : FailureCause) (nak : Byte) : State :=
  let s := s.setEntry n { s.entry n with state := .failed, cause := cause, nak := nak }
  let s := s.startClock n
  let s := s.raise (if cause = .overBudget then .admissionTimeout else .stepFailed)
  s.propagate n

/-! ## Admission waits (R159, R160) -/

/-- The wait of one feed's head `n` at a slice expiry: a failing test raises its count, and above the limit it fails
OVER-BUDGET with all its effects (R159, R160). A step that is head no more is passed over. -/
def State.countWait (s : State) (f : Feed) (n : Nat) : State :=
  if s.headOf f = some n && s.headTested n && !s.admits f n then
    let s := s.markWait f
    let s := s.setFeedRecord f { s.feed f with waitCount := (s.feed f).waitCount + 1 }
    if s.settings.admissionLimit * 10 < (s.feed f).waitCount then (s.failStep n .overBudget 0).settle else s
  else s

/-- The wait counts of a slice expiry: the heads that the two feeds have at it, in ascending order of step number (R159,
log 14). -/
def State.countWaits (s : State) : State :=
  match s.headOf .a, s.headOf .b with
  | some a, some b =>
    if b < a then (s.countWait .b b).countWait .a a else (s.countWait .a a).countWait .b b
  | some a, none => s.countWait .a a
  | none, some b => s.countWait .b b
  | none, none => s

/-! ## Validation and start (R101, R107) -/

/-- The validation of one used step: the reason it fails, if it does (R101). -/
def State.stepFault (s : State) (n : Nat) : Option Nat :=
  let r := s.step n
  let p := s.payload r.payloadIndex
  if !s.listed r.station then some 1
  else if r.action = some .fixedSet && !(p.used && p.kind = .set && pointLength p.length) then some 2
  else if r.action = some .order && !(p.used && p.kind = .order) then some 2
  else if r.action = some .restore && decide (r.last < r.first) then some 3
  else if r.action = some .await && decide (r.high < r.low) then some 4
  else match r.feed.feed with
    | some f => if (s.feed f).budget < r.peak then some 5 else none
    | none => none

/-- Validation: the reason and the step of the lowest-numbered failing used step, or none when the plan passes (R101). -/
def State.validate (s : State) : Option (Nat × Nat) :=
  stepNumbers.findSome? (fun n =>
    if (s.step n).used then (s.stepFault n).map (fun reason => (reason, n)) else none)

/-- The step state entries at a start: a member's used step PENDING, every other IDLE (R107, step 3). -/
def State.startEntries (s : State) : State :=
  State.syncHeads { s with entries := tableOf 96 (stepNumbers.map (fun n =>
    { StepEntry.reset with
      state := if (s.step n).used && (s.station (s.step n).station).member then .pending else .idle })) .reset }

/-- Every HELD station becomes a member (R107, step 2). -/
def State.takeMembers (s : State) : State :=
  { s with stations := mapTable s.stations (fun r => if r.state = .held then { r with member := true } else r) }

/-- The start of a run that has passed validation (R107). -/
def State.beginRun (s : State) : State :=
  let s := { s with run := { s.run with inProgress := true, number := s.run.number + 1, startTime := s.bridgeTime
                                        halting := none, causes := .empty } }
  ((s.takeMembers.startEntries).raise .started).settle

/-- The conditions of an automatic start for a station (R50). -/
def State.autoStartAllowed (s : State) (a : Nat) : Bool :=
  (s.station a).config.autoRun && !s.straps.inhibit && !s.silence.suppress

/-- A HELLO has left a station HELD: with the run IDLE and the conditions of R50, an ALL-HELD start is made, or "start
refused" is raised when validation refuses it (R50, R108). -/
def State.autoStart (s : State) (a : Nat) : State :=
  if !s.run.inProgress && s.autoStartAllowed a then
    match s.validate with
    | none => s.beginRun
    | some _ => s.raise .startRefused
  else s

/-! ## Abort (R114) -/

/-- One used step at an abort (R114, step 1): its record is dealt with by `abortRecord`, its clock starts when it was
ISSUED. -/
def State.abortStep (s : State) (n : Nat) : State :=
  match s.stepState n with
  | .pending => s.setStepState n .skipped
  | .awaiting => s.setStepState n .skipped
  | .issued => (s.setStepState n .skipped).startClock n
  | .settling => s.setEntry n { s.entry n with state := .skipped, settle := none }
  | _ => s

/-- The abort of a run in progress (R114). -/
def State.abortRun (s : State) : State :=
  let s := stepNumbers.foldl State.abortStep s
  let s := slotNumbers.foldl State.cancelRecord s
  s.drainMembers.closeRun .aborted

end Sys2Proof.Machine
end

