-- ==== Sys2Proof/Machine/Hold.lean ====
section
/-! DEFINITION. The Hold Queues (chapter 5): entry, superseding, the room check, the hand-over from the pass-down FIFO; and a
station's entry into HELD with its joining of a run (R40, R110). -/

namespace Sys2Proof.Machine

/-! ## Entry (R79) -/

/-- Whether a queued frame is superseded by a parsed SET with the channel set `chs` (R80). -/
def supersededBy (chs : List Nat) (f : Frame) : Bool := isParsedSet f && (channelSet f).all (fun c => chs.contains c)

/-- The scan of R80 over a queue taken newest first: the frames kept, newest first, and the frames superseded in the order
met. The scan stops at the first ORDER. -/
def scanQueue (chs : List Nat) : List Frame → List Frame × List Frame
  | [] => ([], [])
  | f :: rest =>
    if f.kind = kindOrder then (f :: rest, [])
    else
      let (kept, gone) := scanQueue chs rest
      if supersededBy chs f then (kept, f :: gone) else (f :: kept, gone)

/-- The replies and counts of superseded frames, newest first, each with the queue length after its removal (R80, R83). -/
def State.replySuperseded (s : State) (len : Nat) : List Frame → State
  | [] => s
  | f :: rest => ((s.replyHold f .superseded (len - 1)).count .framesSuperseded).replySuperseded (len - 1) rest

/-- The superseding of an entry to a station's queue: only a parsed SET supersedes (R80). -/
def State.supersede (s : State) (a : Nat) (f : Frame) : State :=
  if isParsedSet f then
    let q := s.queue a
    let (kept, gone) := scanQueue (channelSet f) q.reverse
    if gone.isEmpty then s else ((s.setQueue a kept.reverse).rearm).replySuperseded q.length gone
  else s

/-- The room check (R81). -/
def State.holdRoom (s : State) (a : Nat) : Bool :=
  decide ((s.queue a).length < (s.station a).config.holdQuota) && decide (s.occupancy < Config.holdSlots)

/-- The high-water test of an append (R86). -/
def State.testHighWater (s : State) : State :=
  if s.occupancy = Config.highWater && s.highWaterArmed then
    State.raise { s with highWaterArmed := false } .highWater
  else s

/-- A frame is appended at the tail of a station's queue, with a HOLD-REPLY HELD that counts it (R81). -/
def State.appendHeld (s : State) (a : Nat) (f : Frame) : State :=
  let q := s.queue a ++ [f]
  ((s.setQueue a q).testHighWater).replyHold f .held q.length

/-- An entry to a station's hold queue: superseding, the room check, then the frame is held or deferred (R79). An entry that
empties a DRAINING station's queue ends its drain (R89). -/
def State.holdEntry (a : Nat) (s : State) (f : Frame) : State :=
  let s := s.supersede a f
  if s.holdRoom a then s.appendHeld a f else (s.defer f (s.queue a).length).checkDrain a

/-- Whether a frame in the pass-down FIFO is a SET or ORDER for a station (R29). -/
def handedOver (a : Nat) (f : Frame) : Bool := f.station = a && (f.kind = kindSet || f.kind = kindOrder)

/-- The hand-over: each SET and ORDER for the station waiting in the pass-down FIFO is taken out and entered, oldest first
(R29). -/
def State.handOver (s : State) (a : Nat) : State :=
  let taken := s.passDown.filter (handedOver a)
  taken.foldl (State.holdEntry a) { s with passDown := s.passDown.filter (fun f => !handedOver a f) }

/-! ## Entering HELD (R40, R110) -/

/-- A station that has entered HELD joins a run in progress: it becomes a member and its steps are returned to PENDING by the
cause of the entry (R110, R141). -/
def State.joinRun (s : State) (a : Nat) (k : Restart) : State :=
  if s.run.inProgress then (s.updateStation a (fun r => { r with member := true })).restartSteps a k else s

/-- An ONLINE station enters HELD: the hand-over, then the joining of a run in progress (R40). -/
def State.enterHeld (s : State) (a : Nat) (k : Restart) : State :=
  ((s.updateStation a (fun r => { r with state := .held })).handOver a).joinRun a k

end Sys2Proof.Machine
end

