-- ==== Sys2Proof/Machine/Hello.lean ====
section
/-! DEFINITION. HELLO arrival at the Station Table (section 3.3): counting, history, storm check, and the effect for the
station's state. -/

namespace Sys2Proof.Machine

/-- An entry appended to a restart history, the oldest removed beyond 4 (R47). -/
def appendHistory (h : List HistoryEntry) (e : HistoryEntry) : List HistoryEntry :=
  let h := h ++ [e]
  h.drop (h.length - Config.historyEntries)

/-- The history entry of a HELLO payload; a missing field reads as 0 and a missing flag as lost (R10, R47). -/
def helloEntry (now : BridgeTime) (payload : List Byte) : HistoryEntry :=
  { time := now, cause := payload.getD 0 0, kept := payload.getD 1 0 ≠ 0 }

/-- Whether the storm check passes: four entries within the storm window (R48). -/
def stormPasses (window : Nat) (h : List HistoryEntry) : Bool :=
  match h.head?, h.getLast? with
  | some oldest, some newest =>
    h.length = Config.historyEntries && decide ((newest.time - oldest.time).toNat ≤ window * 100)
  | _, _ => false

/-- Whether the hold policy applies to a HELLO (R49). -/
def HoldPolicy.applies (p : HoldPolicy) (kept : Bool) : Bool :=
  match p with
  | .never => false
  | .onLoss => !kept
  | .always => true

/-- A HELLO from an ONLINE station (R49, R50). -/
def State.helloOnline (s : State) (a : Nat) (kept : Bool) : State :=
  if (s.station a).config.holdPolicy.applies kept then
    let t := s.enterHeld a .hello
    if t.run.inProgress then s.settleFrom t else t.autoStart a
  else s

/-- A HELLO from a HELD or RESTORING station restarts its restoration (R51). -/
def State.helloRestart (s : State) (a : Nat) : State :=
  let s := s.updateStation a (fun r => { r with state := .held })
  if s.run.inProgress then
    if (s.station a).member then s.settleFrom (s.restartSteps a .hello) else s
  else s.autoStart a

/-- A HELLO from a DRAINING station: with fault-pending clear the drain stops and the station is HELD (R52). -/
def State.helloDraining (s : State) (a : Nat) : State :=
  if (s.station a).faultPending then s
  else
    let s := s.updateStation a (fun r => { r with state := .held })
    if s.run.inProgress then s.settleFrom (s.joinRun a .drainingHello) else s.autoStart a

/-- The effect of a HELLO that has not passed the storm check, by the station's state (R49, R51 to R53). -/
def State.helloEffect (s : State) (a : Nat) (kept : Bool) : State :=
  match (s.station a).state with
  | .online => s.helloOnline a kept
  | .held | .restoring => s.helloRestart a
  | .draining => s.helloDraining a
  | .unlisted | .faulted | .overridden => s

/-- Whether the storm check is made in a state (R48). -/
def StationState.stormChecked : StationState → Bool
  | .online => true
  | .held => true
  | .restoring => true
  | .draining => true
  | _ => false

/-- A HELLO at the Station Table: it is counted; a listed station's history takes it and "HELLO" is raised; then the storm
check, and the effect for the station's state (R47 to R53). -/
def State.helloTap (s : State) (a : Nat) (payload : List Byte) : State :=
  let s := s.count .hellosSeen
  if s.seenListed a then
    let e := helloEntry s.bridgeTime payload
    let s := (s.updateStation a (fun r => { r with history := appendHistory r.history e })).raise .hello
    if (s.station a).state.stormChecked && stormPasses s.settings.stormWindow (s.station a).history then
      s.settleFrom ((s.raise .storm).faultRequest a .storm)
    else s.helloEffect a e.kept
  else s

end Sys2Proof.Machine
end

