-- ==== Sys2Proof/Machine/Replies.lean ====
section
/-! DEFINITION. What the Run Engine does with the frames it absorbs and with the expiry of a record's deadline (sections 7.4 to
7.6). -/

namespace Sys2Proof.Machine

/-- The slot of the record that a station frame matches: the frame's station, and its seq among the attempt seqs (R24). -/
def State.matchSlot (s : State) (f : Frame) : Option Nat :=
  slotNumbers.find? (fun i =>
    match s.slot i with
    | some r => r.station = f.station && r.attempts.contains f.seq
    | none => false)

/-- The next starting channel that an accepted RESTORE frame gives: one above the highest channel of its latest built
attempt (R70). With no built attempt the manual gives none, and it is a free value (log 10). -/
def State.nextStart (s : State) (r : InjectionRecord) : State × Nat :=
  match r.builtHighest with
  | some h => (s, h + 1)
  | none => (s.drawFree, (Config.freeChannel s.freeCount).toNat)

/-- The acceptance of a FIXED-SET, ORDER or AWAIT frame, or of a RESTORE step's last frame: the step's frames are finished and
the record is resolved (R132, R134). -/
def State.acceptLast (s : State) (i n : Nat) (seq : Byte) : State := (s.finishFrames n).resolveRecord i seq none

/-- The acceptance of a RESTORE frame: with a confirmed record left in the range the step goes on with a further frame, else
its frames are finished (R135). -/
def State.acceptRestore (s : State) (i : Nat) (r : InjectionRecord) (seq : Byte) : State :=
  let (s, c) := s.nextStart r
  if (s.confirmedIn r.station c (s.step r.step).last).isEmpty then s.acceptLast i r.step seq
  else s.resolveRecord i seq (some c)

/-- A refusal: the record is resolved and the step fails REFUSED with the NAK's reason (R10, R132). -/
def State.refuse (s : State) (i n : Nat) (f : Frame) : State :=
  (s.resolveRecord i f.seq none).failStep n .refused (f.payload.getD 0 0)

/-- Whether a STATE payload answers an AWAIT step in range (R133). -/
def StepRecord.inRange (r : StepRecord) (payload : List Byte) : Bool :=
  match pointValue payload r.awaitChannel with
  | some v => decide (r.low ≤ v) && decide (v ≤ r.high)
  | none => false

/-- The answer of a STATE to an AWAIT record: acceptance, the re-poll wait, or OUT-OF-RANGE at the poll limit (R133). -/
def State.answerPoll (s : State) (i : Nat) (r : InjectionRecord) (f : Frame) : State :=
  let t := s.step r.step
  if t.inRange f.payload then s.acceptLast i r.step f.seq
  else if r.pollCount < t.pollLimit then
    s.setSlot i (some { r with ready := none, outstanding := none, repollWait := true
                               deadline := some (s.later Config.repollUnits) })
  else (s.resolveRecord i f.seq none).failStep r.step .outOfRange 0

/-- A frame absorbed by the record in a slot (R131 to R133, R136); what follows it is `State.settleFrom`. -/
def State.absorb (s : State) (i : Nat) (f : Frame) : State :=
  match s.slot i with
  | none => s
  | some r =>
    if r.closing then (s.count .lateReplies).closeRecord i
    else if r.repollWait then s.count .lateReplies
    else match (s.step r.step).action with
      | some .restore =>
        if f.kind = kindAck then s.acceptRestore i r f.seq
        else if f.kind = kindNak then s.refuse i r.step f
        else s
      | some .await => if f.kind = kindState then s.answerPoll i r f else s
      | _ =>
        if f.kind = kindAck then s.acceptLast i r.step f.seq
        else if f.kind = kindNak then s.refuse i r.step f
        else s

/-- The reply timeout of an outstanding attempt: a retry, or the failure NO-REPLY with the record CLOSING for one further
reply timeout (R130, R136). -/
def State.timeOut (s : State) (i : Nat) (r : InjectionRecord) : State :=
  let t := s.step r.step
  if r.attempts.length < 1 + t.retries then
    ((s.setSlot i (some { r with outstanding := none, deadline := none })).makeAttempt i).count .stepRetries
  else
    (s.setSlot i (some { r with closing := true, outstanding := none, ready := none
                                deadline := some (s.later t.replyTimeout) })).failStep r.step .noReply 0

/-- The Run Engine is told that an injection frame has left the F-port: the record whose outstanding attempt it is takes its
deadline (R32, R129, R136). -/
def State.injectionLeft (s : State) (f : Frame) : State :=
  match s.slotOf f.station with
  | some i =>
    match s.slot i with
    | some r =>
      if r.outstanding = some f.seq then
        s.setSlot i (some { r with deadline := some (s.later (s.step r.step).replyTimeout) })
      else s
    | none => s
  | none => s

end Sys2Proof.Machine
end

