-- ==== Sys2Proof/Machine/Arbiter.lean ====
section
/-! DEFINITION. The two arbiters (R30 to R32, R35), the placement of a NOTICE (R191), and what closes every event: the F-port's
choice, the NOTICE, the S-port's choice (log 11, log 12). -/

namespace Sys2Proof.Machine

/-! ## The F-port arbiter -/

/-- The stations that offer a drain frame: DRAINING, with a queue that is not empty (R31, R87). -/
def State.drainOffers (s : State) : List Nat :=
  stationNumbers.filter (fun a => (s.station a).state = .draining && !(s.queue a).isEmpty)

/-- The station whose drain frame is chosen: the lowest above the last drain station, else the lowest (R31). -/
def State.drainChoice (s : State) : Option Nat :=
  match s.drainOffers.find? (fun a => decide (s.lastDrain < a)) with
  | some a => some a
  | none => s.drainOffers.head?

/-- Whether a slot's record offers a frame: OPEN with a ready attempt (R32). -/
def State.offersInjection (s : State) (i : Nat) : Bool :=
  match s.slot i with
  | some r => !r.closing && r.ready.isSome
  | none => false

/-- The step number of the record in a slot. -/
def State.slotStep (s : State) (i : Nat) : Nat :=
  match s.slot i with
  | some r => r.step
  | none => 96

/-- The slot of the record whose frame is chosen among the injections: the one of the lowest step number (R30). -/
def State.injectionChoice (s : State) : Option Nat :=
  (slotNumbers.filter s.offersInjection).foldl (fun best i =>
    match best with
    | none => some i
    | some j => if s.slotStep i < s.slotStep j then some i else some j) none

/-- The choices of the F-port arbiter (R30). -/
inductive FChoice
  | alertHead
  | alertReserve
  | injection (slot : Nat)
  | pass
  | drain (station : Nat)
  deriving DecidableEq, Repr

/-- The first source of R30 that has a frame to give. -/
def State.fChoice (s : State) : Option FChoice :=
  let headAlert : Bool := match s.passDown.head? with
    | some f => decide (f.kind = kindAlert)
    | none => false
  if headAlert then some .alertHead
  else if s.alertReserve.isSome then some .alertReserve
  else if decide (Config.guardLimit ≤ s.drainGuard) && s.drainChoice.isSome then s.drainChoice.map FChoice.drain
  else match s.injectionChoice with
    | some i => some (.injection i)
    | none =>
      if s.passDown.isEmpty then s.drainChoice.map FChoice.drain else some .pass

/-- The drain guard count after an injection or pass choice (R30). -/
def State.guardAfterOther (s : State) : Nat :=
  if s.drainOffers.isEmpty then 0 else min Config.guardLimit (s.drainGuard + 1)

/-- The payload of an injection frame, built at the arbiter's choice (R70, R129). -/
def State.injectionPayload (s : State) (r : InjectionRecord) : List Byte :=
  let t := s.step r.step
  match t.action with
  | some .restore => pointBytes ((s.confirmedIn r.station r.startChannel t.last).take Config.restorePoints)
  | some .await => [byte t.awaitChannel]
  | _ => (s.payload t.payloadIndex).payload

/-- The kind of an injection frame (R129). -/
def StepRecord.injectionKind (t : StepRecord) : Byte :=
  match t.action with
  | some .order => kindOrder
  | some .await => kindPoll
  | _ => kindSet

/-- The highest channel of a RESTORE frame built now, for R70. -/
def State.builtHighest (s : State) (r : InjectionRecord) : Option Nat :=
  ((s.confirmedIn r.station r.startChannel (s.step r.step).last).take Config.restorePoints).getLast?.map Prod.fst

/-- Whether the build of a record's frame is empty: a RESTORE with no confirmed record left in its range (R71). -/
def State.emptyBuild (s : State) (r : InjectionRecord) : Bool :=
  (s.step r.step).action = some .restore
    && (s.confirmedIn r.station r.startChannel (s.step r.step).last).isEmpty

/-- An injection frame is chosen: the ready attempt becomes outstanding, the step's attempt count rises, and the frame is
built and goes on the wire (R32, R129). -/
def State.sendInjection (s : State) (i : Nat) (r : InjectionRecord) (seq : Byte) : State :=
  let t := s.step r.step
  let f : Frame := { station := r.station, kind := t.injectionKind, seq := seq, payload := s.injectionPayload r }
  let g := s.guardAfterOther
  let built := if t.action = some .restore then s.builtHighest r else none
  let s := s.setSlot i (some { r with outstanding := some seq, ready := none, deadline := none, builtHighest := built })
  let e := s.entry r.step
  let s := s.setEntry r.step { e with attempts := min 255 (e.attempts + 1) }
  { s with wireF := some { frame := f, source := .injection }, drainGuard := g }

/-- An empty build: the record closes, no frame is sent, and the step's frames are finished (R71, R135). -/
def State.finishEmpty (s : State) (i : Nat) (r : InjectionRecord) : State :=
  ((s.setSlot i none).finishFrames r.step).settle

/-- A drain frame is chosen: it leaves its queue, its station becomes the last drain station, and the drain ends when the
queue is empty (R31, R88, R89). -/
def State.sendDrain (s : State) (a : Nat) : State :=
  match s.queue a with
  | [] => s
  | f :: rest =>
    let s := (s.setQueue a rest).rearm
    let s := { s with wireF := some { frame := f, source := .drain }, drainGuard := 0, lastDrain := a }
    if rest.isEmpty then s.settleFrom (s.checkDrain a) else s

/-- The frame at the head of the pass-down FIFO goes on the wire. -/
def State.sendHead (s : State) (source : FSource) (guard : Nat) : State :=
  match s.passDown with
  | [] => s
  | f :: rest => { s with passDown := rest, wireF := some { frame := f, source := source }, drainGuard := guard }

/-- The frame of the ALERT reserve goes on the wire (R28, R30). -/
def State.sendReserve (s : State) : State :=
  match s.alertReserve with
  | none => s
  | some f => { s with alertReserve := none, wireF := some { frame := f, source := .alert } }

/-- One choice of a free F-port transmitter (R30); at an empty build the arbiter chooses again at the same moment (R71,
log 11), `fuel` times at most: each turn closes a record that had an attempt ready. -/
def State.fChoose : Nat → State → State
  | 0, s => s
  | fuel + 1, s =>
    match s.fChoice with
    | none => s
    | some .alertHead => s.sendHead .alert s.drainGuard
    | some .alertReserve => s.sendReserve
    | some .pass => s.sendHead .pass s.guardAfterOther
    | some (.drain a) => s.sendDrain a
    | some (.injection i) =>
      match s.slot i with
      | none => s
      | some r =>
        match r.ready with
        | none => s
        | some seq => if s.emptyBuild r then (s.finishEmpty i r).fChoose fuel else s.sendInjection i r seq

/-- The F-port arbiter: a free transmitter takes a frame, a busy one does not (R11, R30). -/
def State.fArbiter (s : State) : State := if s.wireF.isNone then s.fChoose 128 else s

/-! ## The notice slot -/

/-- The NOTICE frame of the reported set, the run state and the run number, numbered by the notice number (R12, R191). -/
def State.noticeFrame (s : State) : Frame :=
  { station := 0, kind := kindNotice, seq := s.noticeNumber
    payload := s.reported ++ [s.runState.code, s.run.number] }

/-- A NOTICE is placed in the slot, replacing one not yet chosen; the notice number rises (R191). -/
def State.placeNotice (s : State) : State :=
  { s with noticeSlot := some s.noticeFrame, noticeNumber := s.noticeNumber + 1 }

/-- A NOTICE is placed when the event has taken the reported set from empty to non-empty with the spacing timer stopped
(R191, log 12). -/
def State.testNotice (s : State) (wasEmpty : Bool) : State :=
  if wasEmpty && !s.reportedEmpty && s.spacing.isNone then s.placeNotice else s

/-! ## The S-port arbiter -/

/-- The reply guard count after a pass-up choice (R35). -/
def State.guardAfterPassUp (s : State) : Nat :=
  if s.replies.isEmpty then 0 else min Config.guardLimit (s.replyGuard + 1)

/-- The head of the bridge reply queue goes on the wire. -/
def State.sendReply (s : State) : State :=
  match s.replies with
  | [] => s
  | r :: rest => { s with replies := rest, wireS := some (.reply r), replyGuard := 0 }

/-- The head of the pass-up FIFO goes on the wire. -/
def State.sendPassUp (s : State) : State :=
  match s.passUp with
  | [] => s
  | f :: rest => { s with passUp := rest, wireS := some (.passUp f), replyGuard := s.guardAfterPassUp }

/-- The NOTICE goes on the wire. -/
def State.sendNotice (s : State) : State :=
  match s.noticeSlot with
  | none => s
  | some f => { s with noticeSlot := none, wireS := some (.notice f), replyGuard := 0 }

/-- One choice of a free S-port transmitter (R35). -/
def State.sChoose (s : State) : State :=
  if decide (Config.guardLimit ≤ s.replyGuard) && !s.replies.isEmpty then s.sendReply
  else if !s.passUp.isEmpty then s.sendPassUp
  else if !s.replies.isEmpty then s.sendReply
  else s.sendNotice

/-- The S-port arbiter: a free transmitter takes a frame, a busy one does not (R11, R35). -/
def State.sArbiter (s : State) : State := if s.wireS.isNone then s.sChoose else s

/-- What closes an event that has taken the machine from `s` to `t`: the F-port's choice, the placement of a NOTICE, the
S-port's choice (log 11, log 12). -/
def State.close (s t : State) : State := (t.fArbiter.testNotice s.reportedEmpty).sArbiter

end Sys2Proof.Machine
end

