-- ==== Sys2Proof/Machine/Image.lean ====
section
/-! DEFINITION. The configuration image (section 11.3): its bytes, the tests of a load, the end of the load. -/

namespace Sys2Proof.Machine

/-! ## Writing -/

/-- The two marker bytes (R198). -/
def imageMarker : List Byte := [0x5A, 0x26]

/-- A pinned point of the image: station, channel and value (R198). -/
def pointEntry (p : Nat × Nat × Nat) : List Byte := [byte p.1, byte p.2.1] ++ bytes2 p.2.2

/-- The image content from the marker to the last point, in the order of R198. -/
def State.imageBody (s : State) : List Byte :=
  imageMarker ++ s.settings.encode
    ++ (bytes2 s.feedA.budget ++ bytes2 s.feedA.standing) ++ (bytes2 s.feedB.budget ++ bytes2 s.feedB.standing)
    ++ s.stations.toList.flatMap (fun r => r.config.encode)
    ++ s.plan.toList.flatMap StepRecord.encode
    ++ s.payloads.toList.flatMap PayloadRecord.encodeImage
    ++ bytes2 s.pinnedPoints.length ++ s.pinnedPoints.flatMap pointEntry

/-- The image: its content and the check over it, high byte first (R198). -/
def State.image (s : State) : List Byte := s.imageBody ++ checkBytes s.imageBody

/-! ## Reading -/

/-- What a load takes from an image that passes its tests (R198). -/
structure LoadedImage where
  settings : Settings
  feedA    : Nat × Nat
  feedB    : Nat × Nat
  stations : List StationConfig
  plan     : List StepRecord
  payloads : List PayloadRecord
  points   : List (Nat × Nat × Nat)
  deriving DecidableEq, Repr

/-- A number of records of one size read in order from the front of a list of bytes, or none when one of them fails. -/
def readRecords {α : Type} (size : Nat) (read : List Byte → Option α) : Nat → List Byte → Option (List α)
  | 0, _ => some []
  | k + 1, bs =>
    match read (bs.take size), readRecords size read k (bs.drop size) with
    | some r, some rs => some (r :: rs)
    | _, _ => none

/-- A budget and a standing load, clamped (R162, R198). -/
def readFeedImage : List Byte → Option (Nat × Nat)
  | [bh, bl, sh, sl] => some (min (word bh bl) Config.loadTop, min (word sh sl) Config.loadTop)
  | _ => none

/-- A pinned point of the image. -/
def readPointEntry : List Byte → Option (Nat × Nat × Nat)
  | [a, c, hi, lo] => some (a.toNat, c.toNat, word hi lo)
  | _ => none

/-- The number of pinned points that an image names, after its fixed sections (R198). -/
def imagePoints (m : List Byte) : Nat := word (m.getD 6667 0) (m.getD 6668 0)

/-- Whether the check of an image agrees; a memory that ends before it does not (R198, log 28). -/
def imageChecks (m : List Byte) : Bool :=
  let n := 6669 + 4 * imagePoints m
  decide (n + 2 ≤ m.length) && (m.drop n).take 2 = checkBytes (m.take n)

/-- The records of an image, clamped as a PUT would clamp them, or none when one holds an undefined code or a used step fails
test 4 of R99 (R198). -/
def readImageRecords (m : List Byte) : Option LoadedImage := do
  let settings ← readSettings ((m.drop 2).take 15)
  let feedA ← readFeedImage ((m.drop 17).take 4)
  let feedB ← readFeedImage ((m.drop 21).take 4)
  let stations ← readRecords 7 readStationConfig 126 (m.drop 25)
  let plan ← readRecords 26 readStep 96 (m.drop 907)
  let payloads ← readRecords 51 readPayloadImage 64 (m.drop 3403)
  let points ← readRecords 4 readPointEntry (imagePoints m) (m.drop 6669)
  if stepNumbers.any (fun n => (plan.getD n .default).badRecord n) then none
  else
    return { settings := settings.clamp, feedA := feedA, feedB := feedB
             stations := stations.map StationConfig.clamp, plan := plan.map StepRecord.clamp
             payloads := payloads, points := points }

/-- The load of an image: none when a test of R198 fails. -/
def readImage (m : List Byte) : Option LoadedImage :=
  if m.take 2 ≠ imageMarker then none
  else if Config.pinnedRecords < imagePoints m then none
  else if !imageChecks m then none
  else readImageRecords m

/-- The defaults of a load that has failed (R198). -/
def LoadedImage.default : LoadedImage :=
  { settings := .default, feedA := (0, 0), feedB := (0, 0), stations := [], plan := [], payloads := [], points := [] }

/-! ## The end of the load -/

/-- The pool of an image's pinned points: each confirmed and pinned, in pool order; a point whose station is outside 1..126 is
not taken, a later one replaces an earlier of the same station and channel (R76). -/
def loadPoints (ps : List (Nat × Nat × Nat)) : List PointRecord :=
  (ps.filter (fun p => validStation p.1)).foldl (fun pool p =>
    putPoint { station := p.1, channel := p.2.1, confirmed := some p.2.2, pending := none, pinned := true } pool) []

/-- The station record of a loaded configuration: ONLINE when listed, else UNLISTED (R59). -/
def loadStation (c : StationConfig) : StationRecord :=
  { StationRecord.default with config := c, state := if c.role = .none then .unlisted else .online }

/-- The tables take the values of a load (R197). -/
def State.takeImage (s : State) (m : LoadedImage) : State :=
  { s with
    settings := m.settings
    feedA := { s.feedA with budget := m.feedA.1, standing := m.feedA.2 }
    feedB := { s.feedB with budget := m.feedB.1, standing := m.feedB.2 }
    stations := tableOf 126 (m.stations.map loadStation) .default
    plan := tableOf 96 m.plan .default
    payloads := tableOf 64 m.payloads .default
    points := loadPoints m.points }

/-- The configuration load ends: the image is taken, or the failure defaults when a test fails or the memory does not answer
(R197, R198). With no load in progress the event does not arise and changes nothing. -/
def State.loadEnd (s : State) (answers : Bool) : State :=
  if s.loading then
    match (if answers then readImage s.configMemory else none) with
    | some m => { s.takeImage m with loading := false, imageStatus := .loaded }
    | none => { s.takeImage .default with loading := false, imageStatus := .fault }
  else s

end Sys2Proof.Machine
end

