-- ==== Sys2Proof/Machine/Resets.lean ====
section
/-! DEFINITION. The three resets (R18, R36, R59, R76, R96, R118, R143, R164, R170, R188, R196, R199). -/

namespace Sys2Proof.Machine

/-- A station record after a warm reset: its configuration and its history kept (R59). -/
def StationRecord.warm (r : StationRecord) : StationRecord :=
  { r with state := if r.state = .unlisted then .unlisted else .online
           member := false, faultCause := none, faultPending := false }

/-- A feed record after a warm reset: no head, no wait (R164). -/
def FeedRecord.warm (r : FeedRecord) : FeedRecord := { r with head := none, waitStart := none, waitCount := 0 }

/-- The silence timer reloaded with the silence time in force (R165). -/
def State.reloadSilence (s : State) : State :=
  { s with silence := { s.silence with timer := some (s.later (s.settings.silenceTime * 100)) } }

/-- The warm reset takes effect: what is not named here is kept. A frame on a wire is sent on (R18, log 30).

DESIGN CHOICE (log 38): every other block takes its values at once, and a supervisor's SET on the F-port's wire is snooped when it
leaves, after them, so that its pending parts stand after the reset. R18 has the transmitter alone wait for the frame; R36, R96 and
R186 read as if the whole reset did. -/
def State.warmReset (s : State) : State :=
  State.reloadSilence
    { s.clearPendingParts with
      stations := mapTable s.stations StationRecord.warm
      queues := Vector.replicate 126 []
      highWaterArmed := true
      run := { s.run with inProgress := false, halting := none, causes := .empty, lastOutcome := .abortedByReset }
      entries := Vector.replicate 96 .reset
      slots := Vector.replicate 8 none
      feedA := s.feedA.warm
      feedB := s.feedB.warm
      contributions := []
      silence := { s.silence with silent := false, second := none, suppress := false }
      cursor := .reset
      resetPending := none
      noticePending := Vector.replicate 8 0
      spacing := none
      storing := none }

/-- The cold reset takes effect: the power-on values, the straps kept as latched and the load begun (R186, R197). A frame on a
wire is sent on (R18, log 30); the configuration memory lies outside the part. -/
def State.coldReset (s : State) : State :=
  { State.reset with
    pending := s.pending, freeCount := s.freeCount, straps := s.straps, wireF := s.wireF, wireS := s.wireS
    configMemory := s.configMemory }

/-- A power-on reset with the sampled straps: the transmitters are cut off (log 31), and a STORE in progress leaves a bad image,
held as an empty one (R199, log 9).

DESIGN CHOICE (log 39): it does so in the whole time of the STORE, the read-back included. R199 says it of the write, and nothing of
a reset during the read-back. -/
def State.powerOn (s : State) (straps : Straps) : State :=
  { State.reset with
    pending := s.pending, freeCount := s.freeCount, straps := straps
    configMemory := if s.storing.isSome then [] else s.configMemory }

/-- The pending reset takes effect, if there is one (R186). -/
def State.takeReset (s : State) : State :=
  match s.resetPending with
  | some .warm => s.warmReset
  | some .cold => s.coldReset
  | none => s

end Sys2Proof.Machine
end

