-- ==== Sys2Proof/Machine/Answers.lean ====
section
/-! DEFINITION. The ANSWER of a request (R176, R177), the read encodings of the tables (R163, R180) and the cursor's advance
(R179). -/

namespace Sys2Proof.Machine

/-! ## Status and refusal reasons -/

/-- The status of an ANSWER (R177). -/
inductive Status
  | done
  | refused
  | badIndex
  | badRecord
  | unknown
  | busy
  deriving DecidableEq, Repr

/-- Status codes (section 1.8). -/
def Status.code : Status → Byte
  | .done => 0 | .refused => 1 | .badIndex => 2 | .badRecord => 3 | .unknown => 4 | .busy => 5

/-- The refusal reasons (R177); INVALID-PLAN carries a validation reason and a step. -/
inductive Reason
  | runActive
  | notSuspended
  | stationBusy
  | storing
  | full
  | invalidPlan (validation step : Nat)
  deriving DecidableEq, Repr

/-- The bytes of a refusal reason (section 1.8). -/
def Reason.bytes : Reason → List Byte
  | .runActive => [1]
  | .notSuspended => [2]
  | .stationBusy => [3]
  | .storing => [4]
  | .full => [5]
  | .invalidPlan v n => [6, byte v, byte n]

/-- What a request comes to: the state with its effects, the status, the mark, and the bytes after the mark, formed from the
state at the end of the request's event (R176, R189). `isReset` marks a reset request that has been executed (R186). -/
structure Response where
  state   : State
  status  : Status
  wrapped : Bool
  detail  : State → List Byte
  isReset : Bool

/-- A request answered without an effect (R177). -/
def State.answer (s : State) (status : Status) : Response :=
  { state := s, status := status, wrapped := false, detail := fun _ => [], isReset := false }

/-- A request refused for a reason; nothing changes (R177). -/
def State.refuseFor (s : State) (reason : Reason) : Response :=
  { state := s, status := .refused, wrapped := false, detail := fun _ => reason.bytes, isReset := false }

/-- A request executed, with the data of its ANSWER. -/
def State.answerDone (s : State) (data : State → List Byte) : Response :=
  { state := s, status := .done, wrapped := false, detail := data, isReset := false }

/-- The ANSWER frame (R12, R176): the code as received, the status, the mark and the detail. -/
def answerFrame (seq code : Byte) (status : Status) (wrapped : Bool) (detail : List Byte) : Frame :=
  { station := 0, kind := kindAnswer, seq := seq, payload := [code, status.code, flag wrapped] ++ detail }

/-! ## Read encodings -/

/-- A station record as read, 13 bytes (R180). -/
def State.readStation (s : State) (a : Nat) : List Byte :=
  let r := s.station a
  r.config.encode ++ [r.state.code, flag r.member, faultCauseCode r.faultCause, flag r.faultPending,
    byte (s.queue a).length, byte (min 255 (s.retained a))]

/-- A feed record as read, 21 bytes (R163). -/
def State.readFeed (s : State) (f : Feed) : List Byte :=
  let r := s.feed f
  bytes2 r.budget ++ bytes2 r.standing ++ [flag r.measured.isSome] ++ bytes2 (r.measured.getD 0)
    ++ bytes4 r.measuredTime ++ [flag (s.metered f), byte (r.head.getD 255)] ++ bytes4 (r.waitStart.getD 0)
    ++ [flag r.foldSaturated, byte (s.contributionsOn f).length] ++ bytes2 (min 65535 (s.estimate f))

/-- A restart history as read, 25 bytes: entries beyond the count are 0 (R180). -/
def State.readHistory (s : State) (a : Nat) : List Byte :=
  let h := (s.station a).history
  byte h.length :: (h.flatMap (fun e => bytes4 e.time ++ [e.cause, flag e.kept])
    ++ List.replicate (6 * (Config.historyEntries - h.length)) 0)

/-- A step state entry as read; an unused step reads IDLE, none and 0 with its stored attempt count (R180). -/
def State.readStepState (s : State) (n : Nat) : List Byte :=
  let e := s.entry n
  if (s.step n).used then [e.state.code, e.cause.code, e.nak, byte e.attempts]
  else [StepState.idle.code, FailureCause.none.code, 0, byte e.attempts]

/-- A point record as read, 7 bytes; an absent value or seq is 0 (section 1.8, R72). -/
def PointRecord.encode (p : PointRecord) : List Byte :=
  [byte p.channel, flag p.confirmed.isSome ||| (flag p.pending.isSome <<< 1) ||| (flag p.pinned <<< 2)]
    ++ bytes2 (p.confirmed.getD 0)
    ++ (match p.pending with
        | some x => bytes2 x.value ++ [x.seq]
        | none => [0, 0, 0])

/-- The run status block, 16 bytes (R184). -/
def State.runStatusBlock (s : State) : List Byte :=
  [s.runState.code, s.run.number, byte (s.run.halting.getD 255), s.run.causes.code] ++ bytes4 s.run.startTime
    ++ [byte (s.countSteps .done), byte (s.countSteps .failed), byte (s.countSteps .skipped),
        byte (s.countSteps .notApplicable), s.run.lastOutcome.code, s.imageStatus.code, flag s.storing.isSome,
        byte s.memberCount]

/-- The feed of a feed index (section 1.8). -/
def feedOfIndex (i : Nat) : Feed := if i = 0 then .a else .b

/-! ## The cursor -/

/-- Whether a transfer moves a cursor whose mode would advance it; on PAYLOAD only the cases of R20, for the part that
`args` names. -/
def State.transferMoves (s : State) (args : List Byte) : Bool :=
  match s.cursor.table with
  | .payload => args.headD 0 = 1 || decide ((s.payload s.cursor.index).length ≤ 24)
  | _ => true

/-- The cursor raised by 1, wrapping from the last index of its table to the first; with the mark (R179). -/
def Cursor.advance (c : Cursor) : Cursor × Bool :=
  if c.table.range.2 ≤ c.index then ({ c with index := c.table.range.1 }, true)
  else ({ c with index := c.index + 1 }, false)

/-- A GET or PUT answered DONE: the cursor advances when its mode says so, and the data names the index transferred (R179,
R180, R181). -/
def State.transferDone (s : State) (modeMoves : Bool) (args data : List Byte) : Response :=
  let named := s.cursor.table.code :: byte s.cursor.index :: data
  let (c, wrapped) := if modeMoves && s.transferMoves args then s.cursor.advance else (s.cursor, false)
  { state := { s with cursor := c }, status := .done, wrapped := wrapped, detail := fun _ => named, isReset := false }

end Sys2Proof.Machine
end

