-- ==== Sys2Proof/Machine/Requests.lean ====
section
/-! DEFINITION. The Management Agent's requests: for each request code the tests in their order and the effect (R54 to R58, R72
to R75, R99, R100, R106, R112 to R114, R162, R178 to R186, R193, R195, R199). -/

namespace Sys2Proof.Machine

/-! ## The cursor requests -/

/-- SELECT (R178). -/
def State.reqSelect (s : State) : List Byte → Response
  | [table, index, mode] =>
    match readTable table, readAdvanceMode mode with
    | some t, some m =>
      if decide (t.range.1 ≤ index.toNat) && decide (index.toNat ≤ t.range.2) then
        State.answerDone { s with cursor := { table := t, index := index.toNat, mode := m } } (fun _ => [t.code, index])
      else s.answer .badIndex
    | _, _ => s.answer .badRecord
  | _ => s.answer .badRecord

/-- The read encoding at the cursor, or none when the arguments fail R19 (R180). -/
def State.getData (s : State) (args : List Byte) : Option (List Byte) :=
  let i := s.cursor.index
  match s.cursor.table, args with
  | .stations, [] => some (s.readStation i)
  | .plan, [] => some (s.step i).encode
  | .payload, [part] =>
    if part = 0 then some (s.payload i).encode0 else if part = 1 then some (s.payload i).encode1 else none
  | .feeds, [] => some (s.readFeed (feedOfIndex i))
  | .history, [] => some (s.readHistory i)
  | .stepState, [] => some (s.readStepState i)
  | .settings, [] => some s.settings.encode
  | _, _ => none

/-- GET (R180). -/
def State.reqGet (s : State) (args : List Byte) : Response :=
  match s.getData args with
  | some data => s.transferDone (s.cursor.mode = .every) args data
  | none => s.answer .badRecord

/-- A PUT that has passed its tests is answered DONE and moves the cursor (R179, R181). -/
def State.putDone (s : State) (args : List Byte) : Response := s.transferDone (s.cursor.mode ≠ .none) args []

/-- A station's state after a role write (R58). -/
def roleWritten (role : Role) (x : StationState) : StationState :=
  match role, x with
  | .none, .online => .unlisted
  | .none, y => y
  | _, .unlisted => .online
  | _, y => y

/-- PUT at STATIONS (R57, R58). -/
def State.putStations (s : State) (args : List Byte) : Response :=
  match readStationConfig args with
  | none => s.answer .badRecord
  | some c =>
    let r := s.station s.cursor.index
    if s.storing.isSome then s.refuseFor .storing
    else if c.role ≠ r.config.role && r.state ≠ .online && r.state ≠ .unlisted then s.refuseFor .stationBusy
    else (s.setStation s.cursor.index { r with config := c.clamp, state := roleWritten c.role r.state }).putDone args

/-- PUT at PLAN (R99). -/
def State.putPlan (s : State) (args : List Byte) : Response :=
  match readStep args with
  | none => s.answer .badRecord
  | some r =>
    let n := s.cursor.index
    if s.storing.isSome then s.refuseFor .storing
    else if s.run.inProgress then s.refuseFor .runActive
    else if r.badRecord n then s.answer .badRecord
    else (State.setEntry { s with plan := putAt s.plan n r.clamp } n .reset).putDone args

/-- PUT at PAYLOAD (R20, R100). -/
def State.putPayload (s : State) (args : List Byte) : Response :=
  match writePayload (s.payload s.cursor.index) args with
  | none => s.answer .badRecord
  | some p =>
    if s.storing.isSome then s.refuseFor .storing
    else if s.run.inProgress then s.refuseFor .runActive
    else State.putDone { s with payloads := putAt s.payloads s.cursor.index p } args

/-- PUT at SETTINGS (R182). -/
def State.putSettings (s : State) (args : List Byte) : Response :=
  match readSettings args with
  | none => s.answer .badRecord
  | some t =>
    if s.storing.isSome then s.refuseFor .storing
    else State.putDone { s with settings := t.clamp } args

/-- PUT, by the table at the cursor; the read-only tables have no written encoding (R181). -/
def State.reqPut (s : State) (args : List Byte) : Response :=
  match s.cursor.table with
  | .stations => s.putStations args
  | .plan => s.putPlan args
  | .payload => s.putPayload args
  | .settings => s.putSettings args
  | .feeds => s.answer .badRecord
  | .history => s.answer .badRecord
  | .stepState => s.answer .badRecord

/-! ## The point requests -/

/-- POINT-GET (R72). -/
def State.reqPointGet (s : State) : List Byte → Response
  | [a, c] =>
    if validStation a.toNat then
      s.answerDone (fun t => match t.findPoint a.toNat c.toNat with
        | some p => 1 :: p.encode
        | none => [0])
    else s.answer .badIndex
  | _ => s.answer .badRecord

/-- POINT-LIST (R73). -/
def State.reqPointList (s : State) : List Byte → Response
  | [a, c] =>
    if validStation a.toNat then
      s.answerDone (fun t =>
        let ps := t.confirmedIn a.toNat c.toNat 255
        let listed := ps.take Config.listEntries
        [byte listed.length, flag (decide (Config.listEntries < ps.length))] ++ pointBytes listed)
    else s.answer .badIndex
  | _ => s.answer .badRecord

/-- POINT-PUT (R74). -/
def State.reqPointPut (s : State) : List Byte → Response
  | [a, c, hi, lo, pin] =>
    match readFlag pin with
    | none => s.answer .badRecord
    | some pinned =>
      let old := s.findPoint a.toNat c.toNat
      let wasPinned : Bool := match old with
        | some p => p.pinned
        | none => false
      if !validStation a.toNat then s.answer .badIndex
      else if s.storing.isSome then s.refuseFor .storing
      else if old.isNone && !s.pointRoom a.toNat then s.refuseFor .full
      else if pinned && !wasPinned && decide (Config.pinnedRecords ≤ s.pinnedCount) then s.refuseFor .full
      else
        (s.writePoint { station := a.toNat, channel := c.toNat, confirmed := some (word hi lo), pending := none
                        pinned := pinned }).answerDone (fun _ => [])
  | _ => s.answer .badRecord

/-- POINT-DROP (R75); a waiting RESTORE step may be left with nothing to restore, so the Run Engine's follow-up is made, in which it
completes as frameless (R123, log 32). The drop itself is no moment of a grant test (R126). -/
def State.reqPointDrop (s : State) : List Byte → Response
  | [a, c] =>
    if !validStation a.toNat then s.answer .badIndex
    else if s.storing.isSome then s.refuseFor .storing
    else if (s.findPoint a.toNat c.toNat).isSome then
      (s.settleFrom (s.dropPoint a.toNat c.toNat)).answerDone (fun _ => [1])
    else s.answerDone (fun _ => [0])
  | _ => s.answer .badRecord

/-! ## The station requests -/

/-- The data of a station request: the station's state at the end of the event (R54). -/
def stationData (a : Nat) (t : State) : List Byte := [(t.station a).state.code]

/-- HOLD-STATION (R55). -/
def State.reqHold (s : State) : List Byte → Response
  | [a] =>
    if !validStation a.toNat then s.answer .badIndex
    else if (s.station a.toNat).state = .online then
      (s.settleFrom (s.enterHeld a.toNat .held)).answerDone (stationData a.toNat)
    else s.refuseFor .stationBusy
  | _ => s.answer .badRecord

/-- RELEASE-STATION (R55): the station leaves membership and goes to DRAINING. -/
def State.reqRelease (s : State) : List Byte → Response
  | [a] =>
    if !validStation a.toNat then s.answer .badIndex
    else if (s.station a.toNat).state = .held || (s.station a.toNat).state = .restoring then
      (s.settleFrom ((s.leaveRun a.toNat false).enterDraining a.toNat)).answerDone (stationData a.toNat)
    else s.refuseFor .stationBusy
  | _ => s.answer .badRecord

/-- A station record after CLEAR-STATION (R56). -/
def StationRecord.clear (r : StationRecord) : StationRecord :=
  { r with state := .online, faultCause := none
           history := if r.faultCause = some .storm then [] else r.history }

/-- CLEAR-STATION (R56). It raises no event: R56 and the table of R190 give it none, against the example of R189 (log 35). -/
def State.reqClear (s : State) : List Byte → Response
  | [a] =>
    if !validStation a.toNat then s.answer .badIndex
    else if (s.station a.toNat).state = .faulted || (s.station a.toNat).state = .overridden then
      (s.updateStation a.toNat StationRecord.clear).answerDone (stationData a.toNat)
    else s.refuseFor .stationBusy
  | _ => s.answer .badRecord

/-! ## The run requests -/

/-- The stations of a START-RUN selection, none for ALL-HELD; or a failure of R19 (R106). -/
def readSelection : List Byte → Option (List Nat)
  | [] => none
  | sel :: rest =>
    match sel.toNat, rest with
    | 0, [] => some []
    | 1, n :: stations =>
      if decide (1 ≤ n.toNat) && decide (n.toNat ≤ 16) && decide (stations.length = n.toNat) then
        some (stations.map BitVec.toNat)
      else none
    | _, _ => none

/-- The holding stage: each ONLINE station of the list goes to HELD (R106), in the order of the list (log 34). A station taken once
is ONLINE no more. -/
def State.holdList (s : State) (l : List Nat) : State :=
  l.foldl (fun s a => if (s.station a).state = .online then s.enterHeld a .held else s) s

/-- The distinct stations of the list that the holding stage leaves out (R106). -/
def State.leftOut (s : State) (l : List Nat) : List Nat :=
  l.dedup.filter (fun a => (s.station a).state ≠ .online && (s.station a).state ≠ .held)

/-- START-RUN (R106, R107, R109). -/
def State.reqStart (s : State) (args : List Byte) : Response :=
  match readSelection args with
  | none => s.answer .badRecord
  | some l =>
    if l.any (fun a => !validStation a) then s.answer .badIndex
    else if s.run.inProgress then s.refuseFor .runActive
    else match s.validate with
      | some (reason, n) => s.refuseFor (.invalidPlan reason n)
      | none =>
        let left := (s.leftOut l).length
        (s.holdList l).beginRun.answerDone (fun t => [t.run.number, byte t.memberCount, byte left])

/-- SUSPEND-RUN (R112). -/
def State.reqSuspend (s : State) : List Byte → Response
  | [] => (s.addCause (fun c => { c with management := true })).answerDone (fun t => [t.runState.code])
  | _ => s.answer .badRecord

/-- RESUME-RUN (R113). -/
def State.reqResume (s : State) : List Byte → Response
  | [] =>
    if s.run.inProgress && (s.run.halting.isSome || s.run.causes.management || s.run.causes.alert) then
      (State.settle { s with run := { s.run with
        halting := none, causes := { s.run.causes with management := false, alert := false } } }).answerDone
        (fun t => [t.runState.code])
    else s.refuseFor .notSuspended
  | _ => s.answer .badRecord

/-- ABORT-RUN (R114). -/
def State.reqAbort (s : State) : List Byte → Response
  | [] => (if s.run.inProgress then s.abortRun else s).answerDone (fun t => [t.runState.code, t.run.lastOutcome.code])
  | _ => s.answer .badRecord

/-- RUN-STATUS: the block is formed at the execution (R184). -/
def State.reqRunStatus (s : State) : List Byte → Response
  | [] => s.answerDone (fun _ => s.runStatusBlock)
  | _ => s.answer .badRecord

/-! ## The other requests -/

/-- SET-FEED (R162). -/
def State.reqSetFeed (s : State) : List Byte → Response
  | [i, bh, bl, sh, sl] =>
    if 1 < i.toNat then s.answer .badIndex
    else if s.storing.isSome then s.refuseFor .storing
    else
      let f := feedOfIndex i.toNat
      (s.setFeedRecord f { s.feed f with budget := min (word bh bl) Config.loadTop
                                         standing := min (word sh sl) Config.loadTop
                                         foldSaturated := false }).settle.answerDone (fun _ => [])
  | _ => s.answer .badRecord

/-- No latched cause. -/
def LineCauses.clear : LineCauses := { framing := false, check := false, overlength := false, brk := false }

/-- READ-LINE (R17, R183). -/
def State.reqReadLine (s : State) : List Byte → Response
  | [] =>
    State.answerDone
      { s with portS := { s.portS with causes := .clear }, portF := { s.portF with causes := .clear } }
      (fun _ => [s.portS.quality.code, s.portS.causes.code, s.portF.quality.code, s.portF.causes.code]
        ++ bytes2 s.silence.duration)
  | _ => s.answer .badRecord

/-- READ-CLEAR-GROUP (R193). -/
def State.reqReadClear (s : State) : List Byte → Response
  | [g] =>
    if 7 < g.toNat then s.answer .badIndex
    else State.answerDone { s with noticePending := putAt s.noticePending g.toNat 0 }
      (fun _ => [g, s.pendingGroup g.toNat])
  | _ => s.answer .badRecord

/-- READ-COUNTERS (R195). -/
def State.reqReadCounters (s : State) : List Byte → Response
  | [] => State.answerDone { s with counters := Vector.replicate 16 0 } (fun _ => s.counters.toList.map byte)
  | _ => s.answer .badRecord

/-- STORE (R199): the copy of the image content is taken at this moment. -/
def State.reqStore (s : State) : List Byte → Response
  | [] =>
    if s.run.inProgress then s.refuseFor .runActive
    else if s.storing.isSome then s.refuseFor .storing
    else State.answerDone { s with storing := some s.image } (fun _ => [])
  | _ => s.answer .badRecord

/-- WARM-RESET and COLD-RESET (R186): the reset becomes pending. -/
def State.reqReset (s : State) (k : ResetKind) : List Byte → Response
  | [] =>
    if s.storing.isSome then s.refuseFor .storing
    else { State.answerDone { s with resetPending := some k } (fun _ => []) with isReset := true }
  | _ => s.answer .badRecord

/-! ## The agent (R176) -/

/-- A request by its code (section 1.8); an unlisted code is answered UNKNOWN (R19). -/
def State.execute (s : State) (code : Byte) (args : List Byte) : Response :=
  match code.toNat with
  | 1 => s.reqSelect args
  | 2 => s.reqGet args
  | 3 => s.reqPut args
  | 8 => s.reqPointGet args
  | 9 => s.reqPointList args
  | 10 => s.reqPointPut args
  | 11 => s.reqPointDrop args
  | 16 => s.reqHold args
  | 17 => s.reqRelease args
  | 18 => s.reqClear args
  | 24 => s.reqStart args
  | 25 => s.reqSuspend args
  | 26 => s.reqResume args
  | 27 => s.reqAbort args
  | 28 => s.reqRunStatus args
  | 32 => s.reqSetFeed args
  | 40 => s.reqReadLine args
  | 41 => s.reqReadClear args
  | 42 => s.reqReadCounters args
  | 48 => s.reqStore args
  | 56 => s.reqReset .warm args
  | 57 => s.reqReset .cold args
  | _ => s.answer .unknown

/-- The tests of R176 in their order: BUSY during the load and while a reset is pending, then the request itself. -/
def State.respond (s : State) (payload : List Byte) : Response :=
  if s.loading then s.answer .busy
  else if s.resetPending.isSome then s.answer .busy
  else match payload with
    | [] => s.answer .unknown
    | code :: args => s.execute code args

/-- A response is turned into its ANSWER: the F-port's choice, the ANSWER formed at the end of the event and placed, and a reset
whose ANSWER is lost taken at once, after the NOTICE of what the event has raised before it (R34, R176, R186, R189, R191; log 12,
log 13). The echoed code is 0 for an empty REQUEST (R19, log 27). `wasEmpty` says whether the reported set stood empty before the
event. -/
def Response.finish (r : Response) (wasEmpty : Bool) (seq code : Byte) : State :=
  let t := r.state.fArbiter
  let lost := decide (Config.replyPlaces ≤ t.replies.length)
  let u := t.placeReply { frame := answerFrame seq code r.status r.wrapped (r.detail t), isReset := r.isReset }
  if r.isReset && lost then (u.testNotice wasEmpty).takeReset else u

/-- A request that has taken the reported set of `s` to empty, a READ-CLEAR-GROUP or a PUT of enables, parts its event in two: the
NOTICE of what its arrival has raised stands in the slot as it was formed before the request (R191, log 12). -/
def Response.afterNotice (r : Response) (s : State) (wasEmpty : Bool) : Response :=
  if wasEmpty && !s.reportedEmpty && r.state.reportedEmpty && s.spacing.isNone then
    { r with state := { r.state with noticeSlot := some s.noticeFrame, noticeNumber := s.noticeNumber + 1 } }
  else r

/-- A REQUEST at the Management Agent (R176). Where it empties the reported set, what its event raises after it places a NOTICE of
its own (R191, log 12); where the set stood empty before the event, `State.close` makes that test. Where a READ-CLEAR-GROUP clears only
part of what its own arrival has raised into an empty set, that test forms the NOTICE without the flags cleared (log 12). -/
def State.request (s : State) (wasEmpty : Bool) (seq : Byte) (payload : List Byte) : State :=
  let r := s.respond payload
  let u := (r.afterNotice s wasEmpty).finish wasEmpty seq (payload.headD 0)
  if !s.reportedEmpty && r.state.reportedEmpty && !wasEmpty then u.testNotice true else u

end Sys2Proof.Machine
end

