-- ==== Sys2Proof/Machine/Arrival.lean ====
section
/-! DEFINITION. Receive errors and line quality (sections 1.6, 1.7), the end of a silence (R165, R168), and the decisions of the
Classifier for a frame that has arrived (sections 2.1 to 2.3, 9.2). -/

namespace Sys2Proof.Machine

/-! ## Receive errors (R13, R15) -/

/-- The framing state of a port. -/
def State.port (s : State) : Port → PortState
  | .s => s.portS
  | .f => s.portF

/-- The framing state of a port replaced. -/
def State.setPort (s : State) (p : Port) (x : PortState) : State :=
  match p with
  | .s => { s with portS := x }
  | .f => { s with portF := x }

/-- A port's receiver at the arrival of a frame: the assembly returns to IDLE (R8). During a break, in which no frame can arrive,
the assembly stays in SKIPPING (R14, log 1). -/
def PortState.endFrame (x : PortState) : PortState := { x with assembly := if x.inBreak then x.assembly else .idle }

/-- The assembly of a port at the arrival of its frame (R8). -/
def State.endFrame (s : State) (p : Port) : State := s.setPort p (s.port p).endFrame

/-- The receive errors (R13). -/
inductive ReceiveError
  | framing
  | overlength
  | check
  deriving DecidableEq, Repr

/-- The counter of a receive error at a port (R13). -/
def ReceiveError.counter : ReceiveError → Port → Counter
  | .framing, .s => .sFraming | .overlength, .s => .sOverlength | .check, .s => .sCheck
  | .framing, .f => .fFraming | .overlength, .f => .fOverlength | .check, .f => .fCheck

/-- The latched causes with the cause of a receive error set (R13). -/
def LineCauses.latch (c : LineCauses) : ReceiveError → LineCauses
  | .framing => { c with framing := true }
  | .overlength => { c with overlength := true }
  | .check => { c with check := true }

/-- The LINE event of a port that goes to NOISY (R15). -/
def noisyEvent : Port → NoticeEvent
  | .s => .sNoisy
  | .f => .fNoisy

/-- The LINE event of a port that returns to GOOD (R16). -/
def goodEvent : Port → NoticeEvent
  | .s => .sGood
  | .f => .fGood

/-- The test of the error window at a receive error: 7 times held, the oldest at most 1 s old (R15). -/
def windowPasses (now : BridgeTime) (w : List BridgeTime) : Bool :=
  match w.getLast? with
  | some oldest => w.length = Config.windowTimes && decide ((now - oldest).toNat ≤ Config.burstSpan)
  | none => false

/-- A port under a receive error: its cause latched, its time put into the window, its quality tested, its quiet timer
restarted (R13, R15, R16). The quiet timer stays stopped through a break (R15). -/
def PortState.takeError (x : PortState) (now : BridgeTime) (e : ReceiveError) : PortState :=
  { x with
    causes := x.causes.latch e
    window := (now :: x.window).take Config.windowTimes
    quality := if windowPasses now x.window then .noisy else x.quality
    quiet := if x.inBreak then x.quiet else some (now + BitVec.ofNat 32 Config.quietUnits) }

/-- A receive error at a port (R13): counted, latched, recorded; a GOOD port whose test passes raises its event (R15). -/
def State.receiveError (s : State) (p : Port) (e : ReceiveError) : State :=
  let x := s.port p
  let s := (s.count (e.counter p)).setPort p (x.takeError s.bridgeTime e)
  if x.quality = .good && windowPasses s.bridgeTime x.window then s.raise (noisyEvent p) else s

/-! ## The Silence Monitor at an arrival (R165, R168) -/

/-- The end of a silence: "back" is raised, and SILENCE leaves the causes of a run in progress, whose waiting steps are then
tested for grant (R168). -/
def State.endSilence (s : State) : State :=
  if s.silence.silent then
    let s := { s with silence := { s.silence with silent := false, second := none, suppress := false } }
    let s := s.raise .back
    if s.run.inProgress && s.run.causes.silence then
      State.settle { s with run := { s.run with causes := { s.run.causes with silence := false } } }
    else s
  else s

/-! ## Downward (R21 to R23, R27, R28) -/

/-- A frame decided pass is placed in the pass-down FIFO, or deferred at a full one (R23, R27). -/
def State.passDownFrame (s : State) (f : Frame) : State :=
  let s := if knownDown f.kind then s else s.count .unknownPassed
  if s.passDown.length < Config.fifoSlots then { s with passDown := s.passDown ++ [f] }
  else s.defer f Config.fifoSlots

/-- The placement of an ALERT: the FIFO, else the reserve, else it is deferred (R28). -/
def State.placeAlert (s : State) (f : Frame) : State :=
  if s.passDown.length < Config.fifoSlots then { s with passDown := s.passDown ++ [f] }
  else if s.alertReserve.isNone then { s with alertReserve := some f }
  else s.defer f (Config.fifoSlots + 1)

/-- The stations that an ALERT affects, in ascending order (R171). -/
def State.affected (s : State) (f : Frame) : List Nat :=
  if f.station = 127 then stationNumbers.filter s.seenListed
  else if s.seenListed f.station then [f.station] else []

/-- ALERT arrival: placement, overrides, run cause, notice (R171 to R173). -/
def State.alertArrival (s : State) (f : Frame) : State :=
  let s := s.placeAlert f
  let affected := s.affected f
  let s := affected.foldl (fun s a => s.settleFrom (s.overrideStation a)) s
  if affected.isEmpty then s
  else (s.addCause (fun c => { c with alert := true })).raise .overridden

/-- Whether the Classifier decides hold for a station's state (R21). -/
def StationState.holds : StationState → Bool
  | .held => true
  | .restoring => true
  | .draining => true
  | _ => false

/-- A frame decided hold enters its station's queue; when that ends a drain, the run follows (R79, R89). -/
def State.holdArrival (s : State) (f : Frame) : State :=
  let t := State.holdEntry f.station s f
  if (t.station f.station).state = (s.station f.station).state then t else s.settleFrom t

/-- The downward decision (R21, R22). `wasEmpty` says whether the reported set stood empty before the event. -/
def State.classifyDown (s : State) (wasEmpty : Bool) (f : Frame) : State :=
  if f.station = 0 then
    if f.kind = kindRequest then s.request wasEmpty f.seq f.payload else s.receiveError .s .framing
  else if f.kind = kindAlert then s.alertArrival f
  else if f.station = 127 then s.passDownFrame f
  else if (f.kind = kindSet || f.kind = kindOrder) && (s.seenState f.station).holds then s.holdArrival f
  else s.passDownFrame f

/-- A frame arrives at the S-port: the Silence Monitor's reload and end of silence, then the Classifier (R8, R165, R168). -/
def State.sArrival (s : State) (f : Frame) : State := (s.reloadSilence.endSilence).classifyDown s.reportedEmpty f

/-! ## Upward (R24, R25, R33) -/

/-- A frame decided pass is placed in the pass-up FIFO, or dropped and counted (R23, R33). -/
def State.passUpFrame (s : State) (f : Frame) : State :=
  let s := if knownUp f.kind then s else s.count .unknownPassed
  if s.passUp.length < Config.fifoSlots then { s with passUp := s.passUp ++ [f] } else s.count .upstreamDropped

/-- The taps of a frame other than a HELLO (R25): ACK and NAK at the Retained Point Store, a meter's STATE at the Feed Load
Estimator, whose reading retries admission (R154). During the load every station is seen unlisted, and the store holds no
record that an ACK could confirm. -/
def State.upTaps (s : State) (f : Frame) : State :=
  if f.kind = kindAck then s.confirmPoints f.station f.seq
  else if f.kind = kindNak then s.refusePoints f.station f.seq
  else match s.meterReading f with
    | some (feed, v) => (s.takeReading feed v).settle
    | none => s

/-- The upward decision, taken at the arrival: a frame that matches is absorbed, any other is passed (R24). -/
def State.classifyUp (s : State) (f : Frame) : Option Nat → State
  | some i => s.settleFrom (s.absorb i f)
  | none => s.passUpFrame f

/-- A frame arrives at the F-port (R8, R24, R25). A HELLO is absorbed or passed before its tap, any other frame after it
(log 15). -/
def State.fArrival (s : State) (f : Frame) : State :=
  if !validStation f.station then s.receiveError .f .framing
  else if f.kind = kindHello then (s.classifyUp f (s.matchSlot f)).helloTap f.station f.payload
  else (s.upTaps f).classifyUp f (s.matchSlot f)

/-- A frame arrives at a port: the assembly returns to IDLE at that point, and the frame is handed on (R8). -/
def State.arrive (s : State) (p : Port) (f : Frame) : State :=
  match p with
  | .s => (s.endFrame .s).sArrival f
  | .f => (s.endFrame .f).fArrival f

end Sys2Proof.Machine
end

