-- ==== Sys2Proof/Machine/Line.lean ====
section
/-! DEFINITION. The receivers (sections 1.1 to 1.3, R14, R16): the line rate, characters, the gap, breaks, the quiet timer. -/

namespace Sys2Proof.Machine

/-! ## The line rate (R2) -/

/-- The line rate in bit/s that a port's two rate straps select (R2); how long a bit lasts is left out (log 22). -/
def lineRate (rate1 rate0 : Bool) : Nat :=
  match rate1, rate0 with
  | false, false => 19200
  | false, true => 38400
  | true, false => 57600
  | true, true => 115200

/-- The line rate in force at a port: that of the straps as latched at the last power-on reset (R2, R197). -/
def State.lineRate (s : State) : Port → Nat
  | .s => Sys2Proof.Machine.lineRate s.straps.sRate1 s.straps.sRate0
  | .f => Sys2Proof.Machine.lineRate s.straps.fRate1 s.straps.fRate0

/-- The bit times that a frame takes when its characters follow one another without idle: 11 for each of its characters (R2). -/
def frameBits (f : Frame) : Nat := (f.payload.length + 6) * 11

/-! ## Frame assembly -/

/-- The frame assembly of a port replaced. -/
def State.setAssembly (s : State) (p : Port) (x : Assembly) : State := s.setPort p { s.port p with assembly := x }

/-- The frame of the data characters after a station character: kind, seq, length, payload (section 1.8). -/
def frameOf (station : Nat) (data : List Byte) : Frame :=
  { station := station, kind := data.getD 0 0, seq := data.getD 1 0
    payload := (data.drop 3).take (data.getD 2 0).toNat }

/-- Whether the check characters of a frame's data agree with the check formed over kind, seq, length and payload (R7). -/
def dataChecks (data : List Byte) : Bool :=
  let n := 3 + (data.getD 2 0).toNat
  (data.drop n).take 2 = checkBytes (data.take n)

/-- A data character taken into the frame at the next position: the length test, and with the second check character the end of
the frame, which arrives or is a check error (R5, R7, R8). -/
def State.takeData (s : State) (p : Port) (station : Nat) (data : List Byte) : State :=
  let n := (data.getD 2 0).toNat
  if data.length = 3 && decide (Config.payloadTop < n) then (s.setAssembly p .skipping).receiveError p .overlength
  else if data.length = n + 5 then
    if dataChecks data then s.arrive p (frameOf station data) else (s.setAssembly p .idle).receiveError p .check
  else s.setAssembly p (.assembling station data)

/-- A marker character: a station character begins a frame; in ASSEMBLING it discards the frame in progress as a framing
error, and a value above 127 is one in IDLE (R4). -/
def State.takeMarker (s : State) (p : Port) (value : Byte) : State :=
  let next : Assembly := if value.toNat ≤ 127 then .assembling value.toNat [] else .skipping
  match (s.port p).assembly with
  | .idle =>
    if value.toNat ≤ 127 then s.setAssembly p next else (s.setAssembly p next).receiveError p .framing
  | .assembling _ _ => (s.setAssembly p next).receiveError p .framing
  | .skipping => s.setAssembly p next

/-- A character taken at its stop bit position (R3, R4); during a break none is taken (R14). -/
def State.takeCharacter (s : State) (p : Port) (value : Byte) (marker stop : Bool) : State :=
  if (s.port p).inBreak then s
  else if !stop then (s.setAssembly p .skipping).receiveError p .framing
  else if marker then s.takeMarker p value
  else match (s.port p).assembly with
    | .idle => s.receiveError p .framing
    | .assembling station data => s.takeData p station (data ++ [value])
    | .skipping => s

/-- The gap limit passes in ASSEMBLING: a framing error, the frame discarded (R6). The gap is not timed in IDLE or
SKIPPING. -/
def State.gapTimeout (s : State) (p : Port) : State :=
  match (s.port p).assembly with
  | .assembling _ _ => (s.setAssembly p .skipping).receiveError p .framing
  | .idle => s
  | .skipping => s

/-- A break is taken: BREAK latched, the port NOISY with its event when it was GOOD, the quiet timer stopped, the assembly in
SKIPPING (R14, R15, log 19). A line already in a break takes none. -/
def State.takeBreak (s : State) (p : Port) : State :=
  let x := s.port p
  if x.inBreak then s
  else
    let s := s.setPort p { x with assembly := .skipping, quality := .noisy, quiet := none, inBreak := true
                                  causes := { x.causes with brk := true } }
    if x.quality = .good then s.raise (noisyEvent p) else s

/-- The break ends: the quiet timer restarts (R14, R16). -/
def State.endBreak (s : State) (p : Port) : State :=
  let x := s.port p
  if x.inBreak then s.setPort p { x with inBreak := false, quiet := some (s.later Config.quietUnits) } else s

/-- The quiet timer expires: a NOISY port goes to GOOD and raises its event (R16). A stopped timer does not expire. -/
def State.quietExpires (s : State) (p : Port) : State :=
  let x := s.port p
  if x.quiet.isSome then
    let s := s.setPort p { x with quiet := none, quality := .good }
    if x.quality = .noisy then s.raise (goodEvent p) else s
  else s

end Sys2Proof.Machine
end

