-- ==== Sys2Proof/Machine/Timers.lean ====
section
/-! DEFINITION. The frames that leave the ports (R11, R26, R32, R186, R192), the expiries of the bridge's timers, the end of a
STORE, and bridge time. An expiry of a timer that stands stopped does not arise and changes nothing (log 4). -/

namespace Sys2Proof.Machine

/-! ## Transmitters -/

/-- The frame on the F-port's wire has left: the transmitter is free, a supervisor's SET is snooped, an injection's reply
timeout is set running (R11, R26, R32). -/
def State.fLeaves (s : State) : State :=
  match s.wireF with
  | none => s
  | some w =>
    let s := { s with wireF := none }
    match w.source with
    | .injection => s.injectionLeft w.frame
    | .alert => s
    | .pass => if validStation w.frame.station then s.snoop w.frame else s
    | .drain => if validStation w.frame.station then s.snoop w.frame else s

/-- The frame on the S-port's wire has left: the transmitter is free; a NOTICE starts the spacing timer, the ANSWER of a reset
request makes the reset take effect (R11, R186, R192). -/
def State.sLeaves (s : State) : State :=
  match s.wireS with
  | none => s
  | some w =>
    let s := { s with wireS := none }
    match w with
    | .passUp _ => s
    | .reply r => if r.isReset then s.takeReset else s
    | .notice _ => { s with spacing := some (s.later (s.settings.noticeSpacing * 10)) }

/-! ## Run Engine timers -/

/-- The reply timeout of the OPEN record in a slot (R130). -/
def State.replyExpires (s : State) (i : Nat) : State :=
  match s.slot i with
  | some r =>
    if !r.closing && !r.repollWait && r.outstanding.isSome && r.deadline.isSome then s.settleFrom (s.timeOut i r) else s
  | none => s

/-- The deadline of the CLOSING record in a slot: it closes without counting (R136). -/
def State.closingExpires (s : State) (i : Nat) : State :=
  match s.slot i with
  | some r => if r.closing && r.deadline.isSome then (s.closeRecord i).settle else s
  | none => s

/-- The end of the re-poll wait of the record in a slot: the poll count rises and a new attempt is made (R133). -/
def State.repollExpires (s : State) (i : Nat) : State :=
  match s.slot i with
  | some r =>
    if !r.closing && r.repollWait then
      (s.setSlot i (some { r with pollCount := r.pollCount + 1, repollWait := false, deadline := none })).makePoll i
    else s
  | none => s

/-- A step's settle timer expires: the step is DONE (R138). -/
def State.settleExpires (s : State) (n : Nat) : State :=
  if (s.entry n).state = .settling && (s.entry n).settle.isSome then
    s.settleFrom (s.setEntry n { s.entry n with state := .done, settle := none })
  else s

/-! ## The other timers -/

/-- A slice expires, in the order of R151; the next slice starts. -/
def State.sliceExpires (s : State) : State :=
  let s := { s with sliceDeadline := s.sliceDeadline + BitVec.ofNat 32 Config.sliceUnits }
  let s := (s.advanceContributions.foldContributions.testStale .a).testStale .b
  s.countWaits.settle

/-- The silence timer expires (R166, R167). -/
def State.silenceExpires (s : State) : State :=
  if s.silence.timer.isSome then
    let s := { s with silence := { s.silence with
      timer := none, silent := true, duration := 0, second := some (s.later Config.secondUnits) } }
    let s := s.raise .silent
    match s.settings.silenceResponse with
    | .freeze =>
      State.addCause { s with silence := { s.silence with suppress := true } } (fun c => { c with silence := true })
    | .cont => s
  else s

/-- The second timer expires during a silence: the duration rises, to 65535 at most (R166). -/
def State.secondExpires (s : State) : State :=
  if s.silence.silent && s.silence.second.isSome then
    { s with silence := { s.silence with duration := min 65535 (s.silence.duration + 1)
                                         second := some (s.later Config.secondUnits) } }
  else s

/-- The spacing timer expires: it stops, and a NOTICE is placed when the reported set is not empty (R192). -/
def State.spacingExpires (s : State) : State :=
  if s.spacing.isSome then
    let s := { s with spacing := none }
    if s.reportedEmpty then s else s.placeNotice
  else s

/-- The write and read-back of a STORE end (R199). After a read-back that disagrees the memory's content is a free value
(log 8). -/
def State.storeEnds (s : State) (agrees : Bool) : State :=
  match s.storing with
  | none => s
  | some image =>
    if agrees then { s with storing := none, configMemory := image, imageStatus := .stored }
    else State.drawFree
      { s with storing := none, configMemory := Config.freeImage s.freeCount, imageStatus := .fault }

/-- Bridge time rises by 1, wrapping modulo 2^32 (R1). -/
def State.tick (s : State) : State := { s with bridgeTime := s.bridgeTime + 1 }

end Sys2Proof.Machine
end

