-- ==== Sys2Proof/Machine/Commands.lean ====
section
/-! DEFINITION. The meaning of every command of the table: one definition per constructor of `Instr`, each the event's effect
followed by what closes every event (the two arbiters and the NOTICE, `State.close`). -/

namespace Sys2Proof.Machine

/-- An event is over: the arbiters choose and a NOTICE is placed (log 11, log 12). -/
def State.concluded (s t : State) : Host.Outcome State Fault Refusal := .next (s.close t)

/-- A REQUEST arrives at the S-port for station 0 (R8, R22, R176). -/
def State.requestArrival (s : State) (seq : Byte) (payload : List Byte) : State :=
  s.arrive .s { station := 0, kind := kindRequest, seq := seq, payload := payload }

/-! ## Resets and the Configuration Loader -/

/-- POWER_ON_RESET (R197). -/
def execPowerOnReset (straps : Straps) (s : State) : Host.Outcome State Fault Refusal := .next (s.powerOn straps)

/-- CONFIGURATION_LOAD_END (R197, R198); `answers` says whether the memory answers. -/
def execConfigurationLoadEnd (answers : Bool) (s : State) : Host.Outcome State Fault Refusal :=
  s.concluded (s.loadEnd answers)

/-- STORE_COMPLETE (R199); `agrees` says whether the read-back agrees. -/
def execStoreComplete (agrees : Bool) (s : State) : Host.Outcome State Fault Refusal := s.concluded (s.storeEnds agrees)

/-- BRIDGE_TIME_INCREMENT (R1). -/
def execBridgeTimeIncrement (s : State) : Host.Outcome State Fault Refusal := .next s.tick

/-! ## The lines -/

/-- RECEIVE_CHARACTER (R3 to R5, R7, R8): a frame completed by it arrives in the same event (log 1). -/
def execReceiveCharacter (port : Port) (value : Byte) (marker stop : Bool) (s : State) :
    Host.Outcome State Fault Refusal :=
  s.concluded (s.takeCharacter port value marker stop)

/-- GAP_TIMEOUT (R6). -/
def execGapTimeout (port : Port) (s : State) : Host.Outcome State Fault Refusal := s.concluded (s.gapTimeout port)

/-- BREAK_TAKEN (R14). -/
def execBreakTaken (port : Port) (s : State) : Host.Outcome State Fault Refusal := s.concluded (s.takeBreak port)

/-- BREAK_END (R14, R16). -/
def execBreakEnd (port : Port) (s : State) : Host.Outcome State Fault Refusal := s.concluded (s.endBreak port)

/-- QUIET_TIMER_EXPIRY (R16). -/
def execQuietTimerExpiry (port : Port) (s : State) : Host.Outcome State Fault Refusal :=
  s.concluded (s.quietExpires port)

/-! ## Frames -/

/-- S_FRAME_ARRIVAL (R8, R21): a checked frame at the S-port. -/
def execSFrameArrival (frame : Frame) (s : State) : Host.Outcome State Fault Refusal := s.concluded (s.arrive .s frame)

/-- F_FRAME_ARRIVAL (R8, R24): a checked frame at the F-port. -/
def execFFrameArrival (frame : Frame) (s : State) : Host.Outcome State Fault Refusal := s.concluded (s.arrive .f frame)

/-- F_TRANSMIT_COMPLETE (R11, R26, R32). -/
def execFTransmitComplete (s : State) : Host.Outcome State Fault Refusal := s.concluded s.fLeaves

/-- S_TRANSMIT_COMPLETE (R11, R35, R186, R192). -/
def execSTransmitComplete (s : State) : Host.Outcome State Fault Refusal := s.concluded s.sLeaves

/-! ## Timers -/

/-- REPLY_TIMEOUT of the record in a slot (R130). -/
def execReplyTimeout (slot : Nat) (s : State) : Host.Outcome State Fault Refusal := s.concluded (s.replyExpires slot)

/-- CLOSING_DEADLINE_EXPIRY of the record in a slot (R136). -/
def execClosingDeadlineExpiry (slot : Nat) (s : State) : Host.Outcome State Fault Refusal :=
  s.concluded (s.closingExpires slot)

/-- REPOLL_WAIT_EXPIRY of the record in a slot (R133). -/
def execRepollWaitExpiry (slot : Nat) (s : State) : Host.Outcome State Fault Refusal :=
  s.concluded (s.repollExpires slot)

/-- SETTLE_EXPIRY of a step (R138). -/
def execSettleExpiry (step : Nat) (s : State) : Host.Outcome State Fault Refusal := s.concluded (s.settleExpires step)

/-- SLICE_EXPIRY (R151). -/
def execSliceExpiry (s : State) : Host.Outcome State Fault Refusal := s.concluded s.sliceExpires

/-- SILENCE_TIMER_EXPIRY (R166, R167). -/
def execSilenceTimerExpiry (s : State) : Host.Outcome State Fault Refusal := s.concluded s.silenceExpires

/-- SECOND_TIMER_EXPIRY (R166). -/
def execSecondTimerExpiry (s : State) : Host.Outcome State Fault Refusal := s.concluded s.secondExpires

/-- SPACING_TIMER_EXPIRY (R192). -/
def execSpacingTimerExpiry (s : State) : Host.Outcome State Fault Refusal := s.concluded s.spacingExpires

/-! ## Requests: each is the arrival of its REQUEST frame, the request code before the arguments (section 1.8, R176) -/

/-- UNKNOWN_REQUEST (R19): an empty REQUEST, or one of an unlisted code, given by its whole payload. -/
def execUnknownRequest (seq : Byte) (payload : List Byte) (s : State) : Host.Outcome State Fault Refusal :=
  s.concluded (s.requestArrival seq payload)

/-- SELECT (R178). -/
def execSelect (seq : Byte) (args : List Byte) (s : State) : Host.Outcome State Fault Refusal :=
  s.concluded (s.requestArrival seq (1 :: args))

/-- GET (R180). -/
def execGet (seq : Byte) (args : List Byte) (s : State) : Host.Outcome State Fault Refusal :=
  s.concluded (s.requestArrival seq (2 :: args))

/-- PUT_STATIONS (R57, R58, R181): a PUT while the cursor stands at STATIONS (log 2). -/
def execPutStations (seq : Byte) (args : List Byte) (s : State) : Host.Outcome State Fault Refusal :=
  s.concluded (s.requestArrival seq (3 :: args))

/-- PUT_PLAN (R99, R181): a PUT while the cursor stands at PLAN (log 2). -/
def execPutPlan (seq : Byte) (args : List Byte) (s : State) : Host.Outcome State Fault Refusal :=
  s.concluded (s.requestArrival seq (3 :: args))

/-- PUT_PAYLOAD (R20, R100, R181): a PUT while the cursor stands at PAYLOAD (log 2). -/
def execPutPayload (seq : Byte) (args : List Byte) (s : State) : Host.Outcome State Fault Refusal :=
  s.concluded (s.requestArrival seq (3 :: args))

/-- PUT_SETTINGS (R181, R182): a PUT while the cursor stands at SETTINGS (log 2). -/
def execPutSettings (seq : Byte) (args : List Byte) (s : State) : Host.Outcome State Fault Refusal :=
  s.concluded (s.requestArrival seq (3 :: args))

/-- PUT_READ_ONLY (R181): a PUT while the cursor stands at FEEDS, HISTORY or STEPSTATE (log 2). -/
def execPutReadOnly (seq : Byte) (args : List Byte) (s : State) : Host.Outcome State Fault Refusal :=
  s.concluded (s.requestArrival seq (3 :: args))

/-- POINT_GET (R72). -/
def execPointGet (seq : Byte) (args : List Byte) (s : State) : Host.Outcome State Fault Refusal :=
  s.concluded (s.requestArrival seq (8 :: args))

/-- POINT_LIST (R73). -/
def execPointList (seq : Byte) (args : List Byte) (s : State) : Host.Outcome State Fault Refusal :=
  s.concluded (s.requestArrival seq (9 :: args))

/-- POINT_PUT (R74). -/
def execPointPut (seq : Byte) (args : List Byte) (s : State) : Host.Outcome State Fault Refusal :=
  s.concluded (s.requestArrival seq (10 :: args))

/-- POINT_DROP (R75). -/
def execPointDrop (seq : Byte) (args : List Byte) (s : State) : Host.Outcome State Fault Refusal :=
  s.concluded (s.requestArrival seq (11 :: args))

/-- HOLD_STATION (R54, R55). -/
def execHoldStation (seq : Byte) (args : List Byte) (s : State) : Host.Outcome State Fault Refusal :=
  s.concluded (s.requestArrival seq (16 :: args))

/-- RELEASE_STATION (R54, R55). -/
def execReleaseStation (seq : Byte) (args : List Byte) (s : State) : Host.Outcome State Fault Refusal :=
  s.concluded (s.requestArrival seq (17 :: args))

/-- CLEAR_STATION (R54, R56). -/
def execClearStation (seq : Byte) (args : List Byte) (s : State) : Host.Outcome State Fault Refusal :=
  s.concluded (s.requestArrival seq (18 :: args))

/-- START_RUN (R106). -/
def execStartRun (seq : Byte) (args : List Byte) (s : State) : Host.Outcome State Fault Refusal :=
  s.concluded (s.requestArrival seq (24 :: args))

/-- SUSPEND_RUN (R112). -/
def execSuspendRun (seq : Byte) (args : List Byte) (s : State) : Host.Outcome State Fault Refusal :=
  s.concluded (s.requestArrival seq (25 :: args))

/-- RESUME_RUN (R113). -/
def execResumeRun (seq : Byte) (args : List Byte) (s : State) : Host.Outcome State Fault Refusal :=
  s.concluded (s.requestArrival seq (26 :: args))

/-- ABORT_RUN (R114). -/
def execAbortRun (seq : Byte) (args : List Byte) (s : State) : Host.Outcome State Fault Refusal :=
  s.concluded (s.requestArrival seq (27 :: args))

/-- RUN_STATUS (R184). -/
def execRunStatus (seq : Byte) (args : List Byte) (s : State) : Host.Outcome State Fault Refusal :=
  s.concluded (s.requestArrival seq (28 :: args))

/-- SET_FEED (R162). -/
def execSetFeed (seq : Byte) (args : List Byte) (s : State) : Host.Outcome State Fault Refusal :=
  s.concluded (s.requestArrival seq (32 :: args))

/-- READ_LINE (R17, R183). -/
def execReadLine (seq : Byte) (args : List Byte) (s : State) : Host.Outcome State Fault Refusal :=
  s.concluded (s.requestArrival seq (40 :: args))

/-- READ_CLEAR_GROUP (R193). -/
def execReadClearGroup (seq : Byte) (args : List Byte) (s : State) : Host.Outcome State Fault Refusal :=
  s.concluded (s.requestArrival seq (41 :: args))

/-- READ_COUNTERS (R195). -/
def execReadCounters (seq : Byte) (args : List Byte) (s : State) : Host.Outcome State Fault Refusal :=
  s.concluded (s.requestArrival seq (42 :: args))

/-- STORE (R199). -/
def execStore (seq : Byte) (args : List Byte) (s : State) : Host.Outcome State Fault Refusal :=
  s.concluded (s.requestArrival seq (48 :: args))

/-- WARM_RESET (R186). -/
def execWarmReset (seq : Byte) (args : List Byte) (s : State) : Host.Outcome State Fault Refusal :=
  s.concluded (s.requestArrival seq (56 :: args))

/-- COLD_RESET (R186). -/
def execColdReset (seq : Byte) (args : List Byte) (s : State) : Host.Outcome State Fault Refusal :=
  s.concluded (s.requestArrival seq (57 :: args))

end Sys2Proof.Machine
end

