-- ==== Sys2Proof/Machine/Dispatch.lean ====
section
/-! DEFINITION. The table's commands and their meanings, one arm each. -/

namespace Sys2Proof.Machine

def exec (i : Instr) (s : State) : Host.Outcome State Fault Refusal :=
  match i with
  | .powerOnReset straps => Sys2Proof.Machine.execPowerOnReset straps s
  | .configurationLoadEnd answers => Sys2Proof.Machine.execConfigurationLoadEnd answers s
  | .receiveCharacter port value marker stop => Sys2Proof.Machine.execReceiveCharacter port value marker stop s
  | .gapTimeout port => Sys2Proof.Machine.execGapTimeout port s
  | .breakTaken port => Sys2Proof.Machine.execBreakTaken port s
  | .breakEnd port => Sys2Proof.Machine.execBreakEnd port s
  | .quietTimerExpiry port => Sys2Proof.Machine.execQuietTimerExpiry port s
  | .sFrameArrival frame => Sys2Proof.Machine.execSFrameArrival frame s
  | .fFrameArrival frame => Sys2Proof.Machine.execFFrameArrival frame s
  | .fTransmitComplete => Sys2Proof.Machine.execFTransmitComplete s
  | .sTransmitComplete => Sys2Proof.Machine.execSTransmitComplete s
  | .replyTimeout slot => Sys2Proof.Machine.execReplyTimeout slot s
  | .closingDeadlineExpiry slot => Sys2Proof.Machine.execClosingDeadlineExpiry slot s
  | .repollWaitExpiry slot => Sys2Proof.Machine.execRepollWaitExpiry slot s
  | .settleExpiry step => Sys2Proof.Machine.execSettleExpiry step s
  | .sliceExpiry => Sys2Proof.Machine.execSliceExpiry s
  | .silenceTimerExpiry => Sys2Proof.Machine.execSilenceTimerExpiry s
  | .secondTimerExpiry => Sys2Proof.Machine.execSecondTimerExpiry s
  | .spacingTimerExpiry => Sys2Proof.Machine.execSpacingTimerExpiry s
  | .storeComplete agrees => Sys2Proof.Machine.execStoreComplete agrees s
  | .unknownRequest seq payload => Sys2Proof.Machine.execUnknownRequest seq payload s
  | .select seq args => Sys2Proof.Machine.execSelect seq args s
  | .get seq args => Sys2Proof.Machine.execGet seq args s
  | .putStations seq args => Sys2Proof.Machine.execPutStations seq args s
  | .putPlan seq args => Sys2Proof.Machine.execPutPlan seq args s
  | .putPayload seq args => Sys2Proof.Machine.execPutPayload seq args s
  | .putSettings seq args => Sys2Proof.Machine.execPutSettings seq args s
  | .putReadOnly seq args => Sys2Proof.Machine.execPutReadOnly seq args s
  | .pointGet seq args => Sys2Proof.Machine.execPointGet seq args s
  | .pointList seq args => Sys2Proof.Machine.execPointList seq args s
  | .pointPut seq args => Sys2Proof.Machine.execPointPut seq args s
  | .pointDrop seq args => Sys2Proof.Machine.execPointDrop seq args s
  | .holdStation seq args => Sys2Proof.Machine.execHoldStation seq args s
  | .releaseStation seq args => Sys2Proof.Machine.execReleaseStation seq args s
  | .clearStation seq args => Sys2Proof.Machine.execClearStation seq args s
  | .startRun seq args => Sys2Proof.Machine.execStartRun seq args s
  | .suspendRun seq args => Sys2Proof.Machine.execSuspendRun seq args s
  | .resumeRun seq args => Sys2Proof.Machine.execResumeRun seq args s
  | .abortRun seq args => Sys2Proof.Machine.execAbortRun seq args s
  | .runStatus seq args => Sys2Proof.Machine.execRunStatus seq args s
  | .setFeed seq args => Sys2Proof.Machine.execSetFeed seq args s
  | .readLine seq args => Sys2Proof.Machine.execReadLine seq args s
  | .readClearGroup seq args => Sys2Proof.Machine.execReadClearGroup seq args s
  | .readCounters seq args => Sys2Proof.Machine.execReadCounters seq args s
  | .store seq args => Sys2Proof.Machine.execStore seq args s
  | .warmReset seq args => Sys2Proof.Machine.execWarmReset seq args s
  | .coldReset seq args => Sys2Proof.Machine.execColdReset seq args s
  | .bridgeTimeIncrement => Sys2Proof.Machine.execBridgeTimeIncrement s

end Sys2Proof.Machine
end

