-- ==== Sys2Proof/WellFormed.lean ====
section
/-! DEFINITION. Which commands the bridge can meet: the ranges of stations, slots and steps, the length of a payload, and
which frame belongs to which row of the table. -/

namespace Sys2Proof

/-- A frame as a receiver can hand it on: station 0..127 and at most 48 payload bytes (R4, R5). -/
def Frame.wellFormed (f : Frame) : Bool :=
  decide (f.station ≤ 127) && decide (f.payload.length ≤ Config.payloadTop)

/-- The listed request codes (section 1.8). -/
def listedRequestCodes : List Nat :=
  [1, 2, 3, 8, 9, 10, 11, 16, 17, 18, 24, 25, 26, 27, 28, 32, 40, 41, 42, 48, 56, 57]

/-- The arguments of a request fit into a payload after the request code (R5). -/
def argsWellFormed (args : List Byte) : Bool := decide (args.length < Config.payloadTop)

/-- The commands that the bridge can meet. -/
def Instr.wellFormed : Instr → Bool
  | .powerOnReset _ => true
  | .configurationLoadEnd _ => true
  | .receiveCharacter _ _ _ _ => true
  | .gapTimeout _ => true
  | .breakTaken _ => true
  | .breakEnd _ => true
  | .quietTimerExpiry _ => true
  -- a REQUEST for station 0 is one of the request rows
  | .sFrameArrival f => f.wellFormed && !(decide (f.station = 0) && decide (f.kind = 40))
  | .fFrameArrival f => f.wellFormed
  | .fTransmitComplete => true
  | .sTransmitComplete => true
  | .replyTimeout slot => decide (slot < 8)
  | .closingDeadlineExpiry slot => decide (slot < 8)
  | .repollWaitExpiry slot => decide (slot < 8)
  | .settleExpiry step => decide (step < 96)
  | .sliceExpiry => true
  | .silenceTimerExpiry => true
  | .secondTimerExpiry => true
  | .spacingTimerExpiry => true
  | .storeComplete _ => true
  | .unknownRequest _ payload =>
      decide (payload.length ≤ Config.payloadTop) &&
        match payload with
        | [] => true
        | code :: _ => !listedRequestCodes.contains code.toNat
  | .select _ args => argsWellFormed args
  | .get _ args => argsWellFormed args
  | .putStations _ args => argsWellFormed args
  | .putPlan _ args => argsWellFormed args
  | .putPayload _ args => argsWellFormed args
  | .putSettings _ args => argsWellFormed args
  | .putReadOnly _ args => argsWellFormed args
  | .pointGet _ args => argsWellFormed args
  | .pointList _ args => argsWellFormed args
  | .pointPut _ args => argsWellFormed args
  | .pointDrop _ args => argsWellFormed args
  | .holdStation _ args => argsWellFormed args
  | .releaseStation _ args => argsWellFormed args
  | .clearStation _ args => argsWellFormed args
  | .startRun _ args => argsWellFormed args
  | .suspendRun _ args => argsWellFormed args
  | .resumeRun _ args => argsWellFormed args
  | .abortRun _ args => argsWellFormed args
  | .runStatus _ args => argsWellFormed args
  | .setFeed _ args => argsWellFormed args
  | .readLine _ args => argsWellFormed args
  | .readClearGroup _ args => argsWellFormed args
  | .readCounters _ args => argsWellFormed args
  | .store _ args => argsWellFormed args
  | .warmReset _ args => argsWellFormed args
  | .coldReset _ args => argsWellFormed args
  | .bridgeTimeIncrement => true

end Sys2Proof
end

