-- ==== Sys2Proof/Safety.lean ====
section
/-! DEFINITION. What counts as a safe run, and the terms that claims use: when requests are executed, when a transmitter takes
nothing, and the invariants of the machine. -/

namespace Sys2Proof.Machine

/-- A safe outcome: the machine goes on. -/
def Completes (o : Host.Outcome State Fault Refusal) : Prop := ∃ t, o = .next t

/-! ## The moment of an event -/

/-- The F-port transmitter takes nothing: it is sending, or nothing is offered to it. So it stands between events, since a free
transmitter takes the first frame offered (R30). -/
def State.FQuiet (s : State) : Prop := s.wireF.isSome = true ∨ s.fChoice = none

/-- The F-port transmitter is sending a frame. -/
def State.FBusy (s : State) : Prop := s.wireF.isSome = true

/-- The S-port transmitter is sending a frame. -/
def State.SBusy (s : State) : Prop := s.wireS.isSome = true

/-- A REQUEST is executed: no configuration load and no reset pending (R176, tests 1 and 2); the supervisor is not silent, and
its ANSWER finds a place (R34). -/
structure Ready (s : State) : Prop where
  loaded  : s.loading = false
  noReset : s.resetPending = none
  present : s.silence.silent = false
  room    : s.replies.length < Config.replyPlaces

/-- What a frame at the S-port leaves besides its own effect: the assembly of the port in IDLE (R8), and the silence timer reloaded
(R165). -/
def State.heard (s : State) : State := (s.endFrame .s).reloadSilence

/-- What a REQUEST leaves besides its own effect: what each frame at the S-port leaves, and its ANSWER at the tail of the reply queue
(R176). -/
def State.answered (s : State) (seq code : Byte) (status : Status) (wrapped : Bool) (detail : List Byte) : State :=
  { s.heard with
    replies := s.replies ++ [{ frame := answerFrame seq code status wrapped detail, isReset := false }] }

/-- What no frame, request or timer of the Run Engine's kind writes: a command that may start, advance or end a run leaves it
from `s` to `t` as it was, but for the changes a statement names by putting them into `s`. Of a frame's row
the assembly of its port is put in (`State.heard`). -/
structure Untouched (s t : State) : Prop where
  pending       : t.pending = s.pending
  bridgeTime    : t.bridgeTime = s.bridgeTime
  portS         : t.portS = s.portS
  portF         : t.portF = s.portF
  points        : t.points = s.points
  plan          : t.plan = s.plan
  payloads      : t.payloads = s.payloads
  sliceDeadline : t.sliceDeadline = s.sliceDeadline
  silence       : t.silence = s.silence
  cursor        : t.cursor = s.cursor
  resetPending  : t.resetPending = s.resetPending
  settings      : t.settings = s.settings
  spacing       : t.spacing = s.spacing
  straps        : t.straps = s.straps
  loading       : t.loading = s.loading
  imageStatus   : t.imageStatus = s.imageStatus
  storing       : t.storing = s.storing
  configMemory  : t.configMemory = s.configMemory
  configs       : ∀ a, (t.station a).config = (s.station a).config
  histories     : ∀ a, (t.station a).history = (s.station a).history

/-- The number a counter stands at after one increment: raised by 1, staying at 255 (R194). -/
def counted (n : Nat) : Nat := if n < 255 then n + 1 else n

/-- A command whose event ends with the Run Engine's follow-up: a slice, a timer that runs and expires on a step or a record, and a
station frame, neither a HELLO nor a meter reading, that a record absorbs. The requests, HELLOs and readings that move a run have
statements of their own. -/
inductive EngineEvent (s : State) : Instr → Prop
  | slice : EngineEvent s .sliceExpiry
  | settle (n : Nat) (h : (s.entry n).state = .settling) (k : (s.entry n).settle.isSome = true) :
      EngineEvent s (.settleExpiry n)
  | closing (i : Nat) (r : InjectionRecord) (h : s.slot i = some r) (k : r.closing = true) (d : r.deadline.isSome = true) :
      EngineEvent s (.closingDeadlineExpiry i)
  | reply (i : Nat) (r : InjectionRecord) (h : s.slot i = some r) (k : r.closing = false) (w : r.repollWait = false)
      (o : r.outstanding.isSome = true) (d : r.deadline.isSome = true) : EngineEvent s (.replyTimeout i)
  | absorbed (f : Frame) (i : Nat) (v : validStation f.station = true) (k : f.kind ≠ kindHello) (h : s.matchSlot f = some i)
      (m : s.meterReading f = none) : EngineEvent s (.fFrameArrival f)

/-- A record whose step is cancelled or returned to PENDING (R136, R141): OPEN with an attempt outstanding it goes to CLOSING,
OPEN without one it closes at once, CLOSING it stays and makes no further frame. -/
def cancelled : Option InjectionRecord → Option InjectionRecord
  | some r =>
    if r.closing then some { r with further := none }
    else if r.outstanding.isSome then some { r with closing := true, ready := none, further := none }
    else none
  | none => none

/-! ## The moment the Run Engine's follow-up starts from -/

/-- Besides the stations, step entries, injection records, contributions and the run record, which a statement gives each for itself,
`w` holds what `s` holds of all that the Run Engine's follow-up reads. Of a feed the head-of-line fields are left out: they follow the
step entries (R157). -/
structure SameGround (s w : State) : Prop where
  bridgeTime   : w.bridgeTime = s.bridgeTime
  settings     : w.settings = s.settings
  plan         : w.plan = s.plan
  payloads     : w.payloads = s.payloads
  points       : w.points = s.points
  queues       : w.queues = s.queues
  injectionSeq : w.injectionSeq = s.injectionSeq
  feeds        : ∀ f, (w.feed f).budget = (s.feed f).budget ∧ (w.feed f).standing = (s.feed f).standing
    ∧ (w.feed f).measured = (s.feed f).measured ∧ (w.feed f).measuredTime = (s.feed f).measuredTime
    ∧ (w.feed f).stale = (s.feed f).stale ∧ (w.feed f).foldSaturated = (s.feed f).foldSaturated

/-- `t` holds what `v` holds of all that the Run Engine's follow-up writes, but for the feeds' head-of-line fields. -/
structure SameRun (t v : State) : Prop where
  entries       : t.entries = v.entries
  slots         : t.slots = v.slots
  stations      : t.stations = v.stations
  run           : t.run = v.run
  contributions : t.contributions = v.contributions
  injectionSeq  : t.injectionSeq = v.injectionSeq

/-! ## HELLOs -/

/-- The restart history of a HELLO's station with the HELLO's entry appended, at most the 4 newest kept (R47). -/
def helloHistory (s : State) (f : Frame) : List HistoryEntry :=
  let h := (s.station f.station).history ++
    [{ time := s.bridgeTime, cause := f.payload.getD 0 0, kept := decide (f.payload.getD 1 0 ≠ 0) }]
  h.drop (h.length - 4)

/-- A HELLO makes a storm (R48): its station is ONLINE, HELD, RESTORING or DRAINING, and its history with the HELLO's entry holds four
entries, the oldest at most the storm window old. -/
def Storms (s : State) (f : Frame) : Prop :=
  ((s.station f.station).state = .online ∨ (s.station f.station).state = .held ∨ (s.station f.station).state = .restoring
    ∨ (s.station f.station).state = .draining)
    ∧ (helloHistory s f).length = 4
    ∧ ∀ o, (helloHistory s f).head? = some o → (s.bridgeTime - o.time).toNat ≤ s.settings.stormWindow * 100

/-! ## Invariants -/

/-- A cursor within the indexes of its table (R178). -/
def Cursor.InRange (c : Cursor) : Prop := c.table.range.1 ≤ c.index ∧ c.index ≤ c.table.range.2

/-- The capacities of the FIFOs and the reply queue (R27, R33, R34), the range of the guard counts (R30, R35), the error
windows (R13), the silent duration (R166), the counters (R194), the contributions (R146), the restart histories (R47) and the
cursor (R178). -/
structure Capacities (s : State) : Prop where
  passDown      : s.passDown.length ≤ 8
  passUp        : s.passUp.length ≤ 8
  replies       : s.replies.length ≤ 16
  drainGuard    : s.drainGuard ≤ 4
  replyGuard    : s.replyGuard ≤ 4
  windowS       : s.portS.window.length ≤ 7
  windowF       : s.portF.window.length ≤ 7
  duration      : s.silence.duration ≤ 65535
  counters      : ∀ c : Counter, s.counter c ≤ 255
  contributions : s.contributions.length ≤ 96
  histories     : ∀ a, (s.station a).history.length ≤ 4
  cursor        : s.cursor.InRange

/-- The pool of the Retained Point Store (R60, R61): at most 1024 records in strictly ascending order of station and channel,
each within its ranges and holding a value; at most 256 pinned, each with a confirmed value and no pending part. -/
structure PoolKept (s : State) : Prop where
  order   : s.points.Pairwise (fun p q => p.before q = true)
  size    : s.points.length ≤ 1024
  pinned  : s.pinnedCount ≤ 256
  ranges  : ∀ p ∈ s.points, validStation p.station = true ∧ p.channel ≤ 255
  values  : ∀ p ∈ s.points, p.confirmed.getD 0 ≤ 65535 ∧ (∀ x, p.pending = some x → x.value ≤ 65535)
  holds   : ∀ p ∈ s.points, p.holds = true
  fixed   : ∀ p ∈ s.points, p.pinned = true → p.confirmed.isSome = true ∧ p.pending = none

/-- A seq of the injection band, 224..255 (R129). -/
def inBand (b : Byte) : Prop := 224 ≤ b.toNat

/-- The injection seqs (R128, R129): the counter and every seq that a record holds lie in the band, and a record holds at most
4 attempt seqs, the retries of a step being at most 3 (R97). -/
structure BandKept (s : State) : Prop where
  counter : inBand s.injectionSeq
  retries : ∀ n, (s.step n).retries ≤ 3
  records : ∀ i r, s.slot i = some r →
    (∀ b ∈ r.attempts, inBand b) ∧ (∀ b, r.ready = some b → inBand b) ∧ (∀ b, r.outstanding = some b → inBand b)
      ∧ r.attempts.length ≤ 4

/-- The station records (R37 to R39, R44): UNLISTED exactly with role NONE, a member only in a run and only in HELD, RESTORING
or DRAINING, fault-pending only in DRAINING. -/
structure StationsLegal (s : State) : Prop where
  listed  : ∀ a, (s.station a).state = .unlisted ↔ (s.station a).config.role = .none
  members : ∀ a, (s.station a).member = true →
    s.run.inProgress = true ∧
      ((s.station a).state = .held ∨ (s.station a).state = .restoring ∨ (s.station a).state = .draining)
  pending : ∀ a, (s.station a).faultPending = true → (s.station a).state = .draining

/-! ## What an image can hold (R198) -/

/-- A station configuration whose fields lie in their ranges (R37, R57). -/
structure StationStorable (c : StationConfig) : Prop where
  channel   : c.meterChannel ≤ 255
  hold      : c.holdQuota ≤ 32
  retention : c.retentionQuota ≤ 64

/-- A step record as a PUT that passed R99 at step `n` stores it. -/
structure StepStorable (r : StepRecord) (n : Nat) : Prop where
  action  : r.action.isSome = true
  params  : r.params.length = 6
  poll    : r.action = some .await → r.param 5 ≠ 0
  station : r.station ≤ 255
  count   : r.predCount ≤ 255
  four    : r.predecessors.length = 4
  preds   : r.predecessors = storedPredecessors r.predCount (r.predecessors.map byte)
  bytes   : ∀ p ∈ r.predecessors, p ≤ 255
  peak    : r.peak ≤ 16383
  steady  : r.steady ≤ r.peak
  ramp    : 1 ≤ r.ramp ∧ r.ramp ≤ 255
  settle  : r.settle ≤ 600
  timeout : 1 ≤ r.replyTimeout ∧ r.replyTimeout ≤ 255
  retries : r.retries ≤ 3
  tests   : r.badRecord n = false

/-- A payload record within its ranges (R98). -/
structure PayloadStorable (p : PayloadRecord) : Prop where
  length : p.length ≤ 48
  data   : p.data.length = 48

/-- SETTINGS within their ranges, no enable at a position without an event (R182). -/
structure SettingsStorable (t : Settings) : Prop where
  silence : 1 ≤ t.silenceTime ∧ t.silenceTime ≤ 60
  spacing : 1 ≤ t.noticeSpacing ∧ t.noticeSpacing ≤ 255
  storm   : 10 ≤ t.stormWindow ∧ t.stormWindow ≤ 600
  limit   : 1 ≤ t.admissionLimit ∧ t.admissionLimit ≤ 255
  enables : ∀ g, g < 8 → getAt t.eventEnables g 0 &&& getAt Settings.allEvents g 0 = getAt t.eventEnables g 0

/-- A state whose image content can be stored and loaded again (R198). -/
structure Storable (s : State) : Prop where
  settings : SettingsStorable s.settings
  feeds    : ∀ f, (s.feed f).budget ≤ 16383 ∧ (s.feed f).standing ≤ 16383
  stations : ∀ r ∈ s.stations.toList, StationStorable r.config
  plan     : ∀ n, n < 96 → StepStorable (s.step n) n
  payloads : ∀ p ∈ s.payloads.toList, PayloadStorable p
  points   : PoolKept s

end Sys2Proof.Machine
end

