-- ==== Sys2Proof/Certificates/Slice0/Obligations.lean ====
section
/-! DEFINITION. The statements for the provers. -/

section

open Sys2Proof Sys2Proof.Machine

/-! ## Steps and invariants -/

/-- A step takes the command at the front of the queue and runs its meaning with the queue's rest; on an empty queue the block
idles, which is the model's choice (log 3). -/
def Obligations.StepRunsTheFrontCommand : Prop :=
  (∀ (c : Instr) (rest : List Instr) (s : State), s.pending = c :: rest → step s = exec c { s with pending := rest })
    ∧ ∀ s : State, s.pending = [] → step s = .next s

/-- No command stops the machine: from every state the step answers a next state. The manual gives the bridge no state in which it
stops. -/
def Obligations.EveryStepGoesOn : Prop :=
  (∀ s : State, Completes (step s)) ∧ ∀ (c : Instr) (s : State), Completes (exec c s)

/-- Right after reset every invariant holds. -/
def Obligations.ResetMeetsInvariants : Prop :=
  Capacities State.reset ∧ PoolKept State.reset ∧ BandKept State.reset ∧ StationsLegal State.reset

/-- Every step keeps the capacities and ranges of the queues, guards, windows, counters, contributions, histories and the cursor. -/
def Obligations.StepKeepsCapacities : Prop :=
  ∀ s t : State, Capacities s → step s = .next t → Capacities t

/-- Every step keeps the pool of retained points in its order and within its limits. -/
def Obligations.StepKeepsPointPool : Prop :=
  ∀ s t : State, PoolKept s → step s = .next t → PoolKept t

/-- Every step keeps the injection seqs in the band 224..255 and at most 4 attempt seqs in a record. -/
def Obligations.StepKeepsInjectionBand : Prop :=
  ∀ s t : State, BandKept s → step s = .next t → BandKept t

/-- Every step keeps the station records legal: UNLISTED exactly with role NONE, members only in a run and in HELD, RESTORING or
DRAINING, fault-pending only in DRAINING. -/
def Obligations.StepKeepsStationsLegal : Prop :=
  ∀ s t : State, StationsLegal s → step s = .next t → StationsLegal t

/-! ## Bridge time, resets and the image -/

/-- Bridge time rises by 1 and wraps modulo 2^32; it starts at 0 at power-on and cold reset and runs on through a warm reset; a
difference of two bridge times is taken modulo 2^32 (R1). -/
def Obligations.BridgeTimeRuns : Prop :=
  (∀ s : State, exec .bridgeTimeIncrement s = .next { s with bridgeTime := s.bridgeTime + 1 })
    ∧ (∀ s : State, (s.bridgeTime + 1).toNat = (s.bridgeTime.toNat + 1) % 2 ^ 32)
    ∧ (∀ (x : Straps) (s : State), ∃ t, exec (.powerOnReset x) s = .next t ∧ t.bridgeTime = 0)
    ∧ (∀ s : State, s.coldReset.bridgeTime = 0 ∧ s.warmReset.bridgeTime = s.bridgeTime)
    ∧ ∀ a b : BridgeTime, (a - b).toNat = (a.toNat + (2 ^ 32 - b.toNat)) % 2 ^ 32

/-- A power-on reset samples the straps and gives every block its reset values, with the load begun; only what lies outside the part
is kept: the queue of commands, the free values drawn, and the configuration memory, which a STORE in progress leaves bad. That both
transmitters are cut off with the frames on their wires is the model's reading (log 31), that a STORE in its read-back leaves a bad
image too is the model's choice (log 39), that the bad image is held as an empty one is the model's (log 9), the reset values that
the manual leaves open are those of log 7. The other reset values are those of the reset rules cited, with R143 for step execution
and R170 for the silence. The rate straps in force select each port's line rate by the table of R2, and a frame with n payload bytes
is n + 6 characters of 11 bit times. -/
def Obligations.PowerOnTakesResetValues : Prop :=
  (∀ (x : Straps) (s : State), exec (.powerOnReset x) s = .next { State.reset with
    pending := s.pending, freeCount := s.freeCount, straps := x
    configMemory := if s.storing.isSome then [] else s.configMemory })
    ∧ (∀ (x : Straps) (s t : State), exec (.powerOnReset x) s = .next t →
      t.lineRate .s = (if x.sRate1 then (if x.sRate0 then 115200 else 57600) else if x.sRate0 then 38400 else 19200)
      ∧ t.lineRate .f = (if x.fRate1 then (if x.fRate0 then 115200 else 57600) else if x.fRate0 then 38400 else 19200))
    ∧ (∀ (s : State) (p : Port), s.coldReset.lineRate p = s.lineRate p ∧ s.warmReset.lineRate p = s.lineRate p)
    ∧ ∀ f : Frame, (frameCharacters f).length = f.payload.length + 6 ∧ frameBits f = 11 * (frameCharacters f).length

/-- A load whose memory does not answer or whose image fails a test takes the failure defaults and the status FAULT; a load end with
no load in progress leaves them all (the model's choice, log 36). A load whose image passes its tests takes the image's tables; each
station is ONLINE when listed and UNLISTED otherwise. An image fails exactly when its marker differs, its point count is above 256,
its check differs (or the memory ends before it, log 28), a record holds an undefined code, or a used step fails its record tests;
that action 0 counts as an undefined code in an unused step too is the model's reading (log 17). -/
def Obligations.LoadEndTakesImageOrDefaults : Prop :=
  (((∀ (answers : Bool) (s : State), s.loading = true → (answers = false ∨ readImage s.configMemory = none) →
     ∃ t, exec (.configurationLoadEnd answers) s = .next t ∧ t.loading = false ∧ t.imageStatus = .fault
       ∧ t.settings = .default ∧ t.plan = Vector.replicate 96 .default ∧ t.payloads = Vector.replicate 64 .default
       ∧ t.points = [] ∧ (∀ a, (t.station a).config = .default)
       ∧ (∀ f, (t.feed f).budget = 0 ∧ (t.feed f).standing = 0)
       ∧ (s.FBusy → ∀ a, t.station a = .default)
       ∧ t.configMemory = s.configMemory ∧ t.counters = s.counters ∧ t.cursor = s.cursor)
     ∧ ∀ (answers : Bool) (s : State), s.loading = false →
       ∃ t, exec (.configurationLoadEnd answers) s = .next t ∧ Untouched s t ∧ t.counters = s.counters)
    ∧ (∀ (s : State) (m : LoadedImage), s.loading = true → readImage s.configMemory = some m →
       ∃ t, exec (.configurationLoadEnd true) s = .next t ∧ t.loading = false ∧ t.imageStatus = .loaded
         ∧ t.settings = m.settings ∧ t.plan = tableOf 96 m.plan .default ∧ t.payloads = tableOf 64 m.payloads .default
         ∧ t.points = loadPoints m.points
         ∧ (t.feed .a).budget = m.feedA.1 ∧ (t.feed .a).standing = m.feedA.2
         ∧ (t.feed .b).budget = m.feedB.1 ∧ (t.feed .b).standing = m.feedB.2
         ∧ (s.FBusy → ∀ a, validStation a = true → t.station a = (m.stations.map loadStation).getD (a - 1) .default)
         ∧ t.configMemory = s.configMemory ∧ t.counters = s.counters ∧ t.cursor = s.cursor))
    ∧ ∀ m : List Byte,
      let c := (m.getD 6667 0).toNat * 256 + (m.getD 6668 0).toNat
      readImage m = none ↔
        m.take 2 ≠ [0x5A, 0x26] ∨ 256 < c ∨ m.length < 6671 + 4 * c
          ∨ (m.drop (6669 + 4 * c)).take 2 ≠ checkBytes (m.take (6669 + 4 * c))
          ∨ readSettings ((m.drop 2).take 15) = none
          ∨ (∃ k, k < 126 ∧ readStationConfig ((m.drop (25 + 7 * k)).take 7) = none)
          ∨ (∃ k, k < 96 ∧ ∀ r, readStep ((m.drop (907 + 26 * k)).take 26) = some r → r.badRecord k = true)
          ∨ ∃ k, k < 64 ∧ readPayloadImage ((m.drop (3403 + 51 * k)).take 51) = none

/-- The image that a STORE writes, when its content lies within its ranges, passes every test of a load and gives back the SETTINGS,
the feeds' budgets and standing loads, the station configurations, the steps, the payload records and the pinned points. -/
def Obligations.StoredImageLoadsBack : Prop :=
  ∀ s : State, Storable s → readImage s.image = some
    { settings := s.settings
      feedA := (s.feedA.budget, s.feedA.standing)
      feedB := (s.feedB.budget, s.feedB.standing)
      stations := s.stations.toList.map StationRecord.config
      plan := s.plan.toList
      payloads := s.payloads.toList
      points := s.pinnedPoints }

/-- STORE: refused with RUN-ACTIVE while a run is in progress, then with STORING while a STORE is in progress; otherwise store in
progress is set with a copy of the image content, and the answer is DONE with no data. The end of a STORE: the read-back that agrees
leaves the image in the memory and the status STORED, one that disagrees the status FAULT (the memory's content is then a free
value, log 8); with no STORE in progress nothing of it changes (the model's choice, log 36). -/
def Obligations.StoreWritesTheImage : Prop :=
  (∀ (s : State) (seq : Byte), Ready s → s.FQuiet →
       exec (.store seq []) s = .next (State.sArbiter (
         if s.run.inProgress then s.answered seq 48 .refused false [1]
         else if s.storing.isSome then s.answered seq 48 .refused false [4]
         else State.answered { s with storing := some s.image } seq 48 .done false [])))
    ∧ ((∀ (s : State) (image : List Byte), s.storing = some image →
       (∃ t, exec (.storeComplete true) s = .next t ∧
         Untouched { s with storing := none, imageStatus := .stored, configMemory := image } t ∧ t.counters = s.counters)
       ∧ ∃ t, exec (.storeComplete false) s = .next t ∧ t.storing = none ∧ t.imageStatus = .fault
         ∧ Untouched { s with storing := none, imageStatus := .fault, configMemory := t.configMemory } t
         ∧ t.counters = s.counters)
       ∧ ∀ (s : State) (agrees : Bool), s.storing = none →
         ∃ t, exec (.storeComplete agrees) s = .next t ∧ Untouched s t ∧ t.counters = s.counters)

/-- A pending warm reset takes effect when its ANSWER leaves: the run is over with ABORTED-BY-RESET, stations return to ONLINE, held
frames, records, contributions and pending parts are gone, and what the bridge has learned and been given is kept. The values are
stated while a frame is on the F-port's wire, so that no new choice follows at once; that the frame stays on the wire and is sent on
is the model's reading (log 30), and that the reset values apply at once, before it leaves, the model's choice (log 38). -/
def Obligations.WarmResetTakesEffect : Prop :=
  ∀ (s : State) (f : Frame), s.wireS = some (.reply { frame := f, isReset := true }) → s.resetPending = some .warm →
    s.FBusy → ∃ t, exec .sTransmitComplete s = .next t
      ∧ t.run = { s.run with inProgress := false, halting := none, causes := .empty, lastOutcome := .abortedByReset }
      ∧ (∀ a, t.station a = (s.station a).warm) ∧ (∀ a, t.queue a = []) ∧ t.highWaterArmed = true
      ∧ (∀ n, t.entry n = .reset) ∧ (∀ i, t.slot i = none) ∧ t.contributions = []
      ∧ t.points = (s.points.map (fun p => { p with pending := none })).filter PointRecord.holds
      ∧ t.feedA = s.feedA.warm ∧ t.feedB = s.feedB.warm
      ∧ t.silence = { s.silence with
          timer := some (s.later (s.settings.silenceTime * 100)), silent := false, second := none, suppress := false }
      ∧ t.cursor = .reset ∧ t.resetPending = none ∧ t.spacing = none ∧ (∀ g, t.pendingGroup g = 0)
      ∧ t.bridgeTime = s.bridgeTime ∧ t.portS = s.portS ∧ t.portF = s.portF ∧ t.passDown = s.passDown
      ∧ t.alertReserve = s.alertReserve ∧ t.drainGuard = s.drainGuard ∧ t.lastDrain = s.lastDrain
      ∧ t.injectionSeq = s.injectionSeq ∧ t.plan = s.plan ∧ t.payloads = s.payloads ∧ t.settings = s.settings
      ∧ t.counters = s.counters ∧ t.noticeNumber = s.noticeNumber ∧ t.straps = s.straps
      ∧ t.imageStatus = s.imageStatus ∧ t.sliceDeadline = s.sliceDeadline ∧ t.wireF = s.wireF

/-- A pending cold reset takes effect when its ANSWER leaves: the power-on values with the straps as latched. The frame on the
F-port's wire is sent on (R18; how the model holds it, logs 30 and 38), the reset values that the manual leaves open are those of
log 7. -/
def Obligations.ColdResetTakesEffect : Prop :=
  ∀ (s : State) (f : Frame), s.wireS = some (.reply { frame := f, isReset := true }) → s.resetPending = some .cold →
    exec .sTransmitComplete s = .next { State.reset with
      pending := s.pending, freeCount := s.freeCount, straps := s.straps, wireF := s.wireF
      configMemory := s.configMemory }

/-- WARM-RESET and COLD-RESET: refused with STORING while a STORE is in progress; otherwise the reset becomes pending and DONE is
answered; with the reply queue full the ANSWER is lost and the reset takes effect in the request's own event. -/
def Obligations.ResetRequestsBecomePending : Prop :=
  (∀ (s : State) (seq : Byte), Ready s → s.FQuiet → s.storing.isSome = true →
    exec (.warmReset seq []) s = .next (s.answered seq 56 .refused false [4]).sArbiter
      ∧ exec (.coldReset seq []) s = .next (s.answered seq 57 .refused false [4]).sArbiter)
    ∧ (∀ (s : State) (seq : Byte), Ready s → s.FQuiet → s.storing = none →
      exec (.warmReset seq []) s = .next (State.sArbiter { s.heard with
        resetPending := some .warm
        replies := s.replies ++ [{ frame := answerFrame seq 56 .done false [], isReset := true }] })
      ∧ exec (.coldReset seq []) s = .next (State.sArbiter { s.heard with
        resetPending := some .cold
        replies := s.replies ++ [{ frame := answerFrame seq 57 .done false [], isReset := true }] }))
    ∧ ∀ (s : State) (seq : Byte), s.loading = false → s.resetPending = none → s.storing = none →
      Config.replyPlaces ≤ s.replies.length →
      (∃ t, exec (.warmReset seq []) s = .next t ∧ t.resetPending = none ∧ t.run.lastOutcome = .abortedByReset
        ∧ t.counter .repliesLost = counted (s.counter .repliesLost) ∧ t.plan = s.plan ∧ t.settings = s.settings)
      ∧ ∃ t, exec (.coldReset seq []) s = .next t ∧ t.resetPending = none ∧ t.loading = true ∧ t.bridgeTime = 0
        ∧ t.straps = s.straps ∧ t.points = [] ∧ t.configMemory = s.configMemory

/-! ## The lines -/

/-- A receive error is counted, latches its cause, enters the window newest first, and restarts the quiet timer outside a break; 8
errors within 1 s take a GOOD port to NOISY with its LINE event. The other port is left alone. The counting of any counter: it rises
by 1, at 255 it stays, and from 127 to 128, at no other increment, COUNT is raised; nothing else changes. -/
def Obligations.ReceiveErrorEffects : Prop :=
  (∀ (s : State) (p : Port) (e : ReceiveError),
    let x := s.port p
    let t := s.receiveError p e
    (∀ c, t.counter c = if c = e.counter p then counted (s.counter c) else s.counter c)
      ∧ (t.port p).causes = x.causes.latch e
      ∧ (t.port p).window = (s.bridgeTime :: x.window).take 7
      ∧ (x.inBreak = false → (t.port p).quiet = some (s.bridgeTime + 100))
      ∧ (x.inBreak = true → (t.port p).quiet = x.quiet)
      ∧ (t.port p).assembly = x.assembly ∧ (t.port p).inBreak = x.inBreak
      ∧ ((t.port p).quality = .noisy ↔ x.quality = .noisy ∨
          (x.window.length = 7 ∧ ∃ oldest, x.window.getLast? = some oldest ∧ (s.bridgeTime - oldest).toNat ≤ 100))
      ∧ (x.quality = .good → (t.port p).quality = .noisy → t.isPending (noisyEvent p) = true)
      ∧ (t.isPending .counter128 = true ↔ s.counter (e.counter p) = 127 ∨ s.isPending .counter128 = true)
      ∧ ∀ q, q ≠ p → t.port q = s.port q)
  ∧ ∀ (s : State) (c : Counter),
    let t := s.count c
    (∀ d, t.counter d = if d = c then (if s.counter d < 255 then s.counter d + 1 else s.counter d) else s.counter d)
      ∧ (s.counter c = 127 → t.isPending .counter128 = true)
      ∧ (s.counter c ≠ 127 → t.noticePending = s.noticePending)
      ∧ (∀ e, e ≠ .counter128 → t.isPending e = s.isPending e)
      ∧ (255 ≤ s.counter c → t = s)
      ∧ t = { s with counters := t.counters, noticePending := t.noticePending }

/-- The gap limit in ASSEMBLING discards the frame as a framing error and leaves SKIPPING; in IDLE and SKIPPING the gap is not
timed. A break latches BREAK, forces the port NOISY with its event when it was GOOD, stops the quiet timer and leaves SKIPPING,
without a count or an entry in the window; its end restarts the quiet timer; the expiry of the quiet timer takes a NOISY port to
GOOD with its event and leaves the window. That a break leaves SKIPPING from every assembly state is the model's reading (log 19);
that a gap outside ASSEMBLING and the expiry of a stopped quiet timer change nothing is its choice (logs 21 and 4), and so for a
break taken within a break and a break end without one (log 36). -/
def Obligations.GapBreakAndQuietTimer : Prop :=
  ((∀ (s : State) (p : Port) (a : Nat) (d : List Byte), (s.port p).assembly = .assembling a d →
     ∃ t, exec (.gapTimeout p) s = .next t
       ∧ t.port p = PortState.takeError { s.port p with assembly := .skipping } s.bridgeTime .framing
       ∧ (∀ q, q ≠ p → t.port q = s.port q)
       ∧ (∀ c, t.counter c = if c = ReceiveError.framing.counter p then counted (s.counter c) else s.counter c)
       ∧ t.points = s.points ∧ t.settings = s.settings ∧ t.cursor = s.cursor ∧ t.silence = s.silence)
     ∧ ∀ (s : State) (p : Port), (∀ a d, (s.port p).assembly ≠ .assembling a d) →
       ∃ t, exec (.gapTimeout p) s = .next t ∧ Untouched s t ∧ t.counters = s.counters)
    ∧ ((∀ (s : State) (p : Port), (s.port p).inBreak = false → ∃ t, exec (.breakTaken p) s = .next t
         ∧ t.port p = { s.port p with assembly := .skipping, quality := .noisy, quiet := none, inBreak := true
                                      causes := { (s.port p).causes with brk := true } }
         ∧ (∀ q, q ≠ p → t.port q = s.port q) ∧ t.counters = s.counters ∧ t.points = s.points ∧ t.silence = s.silence
         ∧ ((s.port p).quality = .good → s.FQuiet → t.isPending (noisyEvent p) = true))
       ∧ (∀ (s : State) (p : Port), (s.port p).inBreak = true →
         (∃ t, exec (.breakTaken p) s = .next t ∧ Untouched s t ∧ t.counters = s.counters)
         ∧ ∃ t, exec (.breakEnd p) s = .next t
           ∧ t.port p = { s.port p with inBreak := false, quiet := some (s.bridgeTime + 100) }
           ∧ (∀ q, q ≠ p → t.port q = s.port q) ∧ t.counters = s.counters ∧ t.points = s.points ∧ t.silence = s.silence)
       ∧ (∀ (s : State) (p : Port), (s.port p).inBreak = false →
         ∃ t, exec (.breakEnd p) s = .next t ∧ Untouched s t ∧ t.counters = s.counters)
       ∧ (∀ (s : State) (p : Port), (s.port p).quiet.isSome = true → ∃ t, exec (.quietTimerExpiry p) s = .next t
         ∧ t.port p = { s.port p with quiet := none, quality := .good }
         ∧ (∀ q, q ≠ p → t.port q = s.port q) ∧ t.counters = s.counters ∧ t.points = s.points ∧ t.silence = s.silence
         ∧ ((s.port p).quality = .noisy → s.FQuiet → t.isPending (goodEvent p) = true))
       ∧ ∀ (s : State) (p : Port), (s.port p).quiet = none →
         ∃ t, exec (.quietTimerExpiry p) s = .next t ∧ Untouched s t ∧ t.counters = s.counters)

/-- The table of frame assembly: what a character does to the port that takes it, by the assembly state, the marker bit and the
value; a low stop bit is a framing error in every state, and during a break no character is taken. A second check character that
completes a check other than that of the kind, seq, length and payload received discards the frame: one check error, and the
assembly in IDLE. One that completes a frame whose check agrees is left to `FrameCharactersArrive`. -/
def Obligations.CharacterTable : Prop :=
  ∀ (s : State) (p : Port) (v : Byte) (marker stop : Bool),
    let x := s.port p
    let bad (y : PortState) (e : ReceiveError) (t : State) : Prop :=
      t.port p = y.takeError s.bridgeTime e
        ∧ ∀ c, t.counter c = if c = e.counter p then counted (s.counter c) else s.counter c
    let fine (y : PortState) (t : State) : Prop := t.port p = y ∧ t.counters = s.counters
    let begun : Assembly := if v.toNat ≤ 127 then .assembling v.toNat [] else .skipping
    ∃ t, exec (.receiveCharacter p v marker stop) s = .next t
      ∧ (x.inBreak = true → fine x t)
      ∧ (x.inBreak = false → stop = false → bad { x with assembly := .skipping } .framing t)
      ∧ (x.inBreak = false → stop = true → marker = true → x.assembly = .idle → v.toNat ≤ 127 →
          fine { x with assembly := begun } t)
      ∧ (x.inBreak = false → stop = true → marker = true → x.assembly = .idle → 127 < v.toNat →
          bad { x with assembly := .skipping } .framing t)
      ∧ (x.inBreak = false → stop = true → marker = true → (∃ a d, x.assembly = .assembling a d) →
          bad { x with assembly := begun } .framing t)
      ∧ (x.inBreak = false → stop = true → marker = true → x.assembly = .skipping → fine { x with assembly := begun } t)
      ∧ (x.inBreak = false → stop = true → marker = false → x.assembly = .idle → bad x .framing t)
      ∧ (x.inBreak = false → stop = true → marker = false → x.assembly = .skipping → fine x t)
      ∧ (∀ a d, x.inBreak = false → stop = true → marker = false → x.assembly = .assembling a d →
          (d.length = 2 → 48 < v.toNat → bad { x with assembly := .skipping } .overlength t)
          ∧ (d.length < 2 ∨ (d.length = 2 ∧ v.toNat ≤ 48) ∨ (2 < d.length ∧ d.length + 1 < (d.getD 2 0).toNat + 5) →
            fine { x with assembly := .assembling a (d ++ [v]) } t))
      ∧ (∀ a d, x.inBreak = false → stop = true → marker = false → x.assembly = .assembling a d → 3 ≤ d.length →
          let e := d ++ [v]
          let n := 3 + (d.getD 2 0).toNat
          e.length = n + 2 → (e.drop n).take 2 ≠ checkBytes (e.take n) → bad { x with assembly := .idle } .check t)

/-- The characters of a frame, in the layout of section 1.8 with the check of R7, deliver exactly that frame: taken one after
another by a receiver in IDLE or SKIPPING, they end in its arrival, and raise no error. The arrival returns the assembly of the port
to IDLE, by whichever row it comes, a REQUEST among them; during a break, when none can arrive, the assembly is left (log 1). -/
def Obligations.FrameCharactersArrive : Prop :=
  (∀ (s : State) (p : Port) (f : Frame), f.wellFormed = true → (s.port p).inBreak = false →
    ((s.port p).assembly = .idle ∨ (s.port p).assembly = .skipping) →
    (frameCharacters f).foldl (fun s c => s.takeCharacter p c.1 c.2 true) s = s.arrive p f)
    ∧ (∀ (s : State) (f : Frame), exec (.sFrameArrival f) s = .next (s.close (s.arrive .s f))
      ∧ exec (.fFrameArrival f) s = .next (s.close (s.arrive .f f)))
    ∧ (∀ (s : State) (f : Frame),
      (s.portS.inBreak = false → ∃ t, exec (.sFrameArrival f) s = .next t ∧ t.portS.assembly = .idle)
      ∧ (s.portF.inBreak = false → ∃ t, exec (.fFrameArrival f) s = .next t ∧ t.portF.assembly = .idle))
    ∧ ∀ (s : State) (p : Port), s.endFrame p = s.setPort p
      { s.port p with assembly := if (s.port p).inBreak then (s.port p).assembly else .idle }

/-! ## Frames from the supervisor -/

/-- A frame that arrives at the S-port reloads the silence timer with the silence time in force and ends a silence: "back" is raised
and SILENCE leaves the causes of a run in progress, the other causes staying but for what an ALERT adds. So does a REQUEST, by each
request row: any frame that ends a silence does, besides the NOTICE, what it does in the state `u` in which the silence has ended
and the silence timer is reloaded, so that what is said of requests in the presence of the supervisor holds of `u`. -/
def Obligations.ArrivalReloadsSilenceTimer : Prop :=
  (∀ (s : State) (f : Frame), (Instr.sFrameArrival f).wellFormed = true → ∃ t, exec (.sFrameArrival f) s = .next t
    ∧ t.silence.timer = some (s.later (s.settings.silenceTime * 100))
    ∧ t.silence.silent = false ∧ t.silence.duration = s.silence.duration
    ∧ (s.silence.silent = true → t.silence.second = none ∧ t.silence.suppress = false ∧ t.isPending .back = true
      ∧ (s.run.inProgress = true → t.run.causes.silence = false
        ∧ (f.kind ≠ kindAlert → t.run.inProgress = true → t.run.causes = { s.run.causes with silence := false }))))
    ∧ ∀ (s : State) (f : Frame), s.silence.silent = true → s.SBusy →
      ∃ u t v : State, exec (.sFrameArrival f) s = .next t ∧ exec (.sFrameArrival f) u = .next v
        ∧ v = { t with noticeSlot := v.noticeSlot, noticeNumber := v.noticeNumber }
        ∧ u.silence = { timer := some (s.later (s.settings.silenceTime * 100)), silent := false
                        duration := s.silence.duration, second := none, suppress := false }
        ∧ u.isPending .back = true ∧ Untouched { s with silence := u.silence } u
        ∧ u.replies = s.replies ∧ u.counters = s.counters ∧ u.queues = s.queues ∧ u.passDown = s.passDown
        ∧ u.wireF = s.wireF ∧ u.wireS = s.wireS
        ∧ (s.run.inProgress = false → u.run = s.run ∧ u.entries = s.entries ∧ u.slots = s.slots ∧ u.stations = s.stations)
        ∧ (s.run.inProgress = true → u.run.causes.silence = false
          ∧ (u.run.inProgress = true → u.run = { s.run with causes := { s.run.causes with silence := false } }))

/-- A frame decided pass enters the pass-down FIFO at its tail, or at a full FIFO is dropped with a HOLD-REPLY DEFERRED of queue
length 8, a count and the deferral event; a frame of unknown kind is counted either way. -/
def Obligations.PassDownOrDefer : Prop :=
  ∀ (s : State) (f : Frame), s.silence.silent = false → s.FBusy → s.SBusy → 1 ≤ f.station → f.station ≤ 127 →
    f.kind ≠ kindAlert → (f.station = 127 ∨ (f.kind ≠ kindSet ∧ f.kind ≠ kindOrder) ∨ (s.seenState f.station).holds = false) →
    ∃ t, exec (.sFrameArrival f) s = .next t ∧ Untouched s.heard t
      ∧ t.counter .unknownPassed
          = (if knownDown f.kind then s.counter .unknownPassed else counted (s.counter .unknownPassed))
      ∧ t.queues = s.queues ∧ t.run = s.run ∧ t.slots = s.slots ∧ t.entries = s.entries ∧ t.stations = s.stations
      ∧ t.passUp = s.passUp ∧ t.alertReserve = s.alertReserve ∧ t.wireF = s.wireF ∧ t.wireS = s.wireS
      ∧ (s.passDown.length < 8 → t.passDown = s.passDown ++ [f] ∧ t.replies = s.replies
          ∧ t.counter .framesDeferred = s.counter .framesDeferred)
      ∧ (8 ≤ s.passDown.length → t.passDown = s.passDown ∧ t.isPending .deferral = true
          ∧ t.counter .framesDeferred = counted (s.counter .framesDeferred)
          ∧ (s.replies.length < 16 → t.replies = s.replies ++
              [{ frame := { station := f.station, kind := 43, seq := f.seq, payload := [3, f.kind, 8] }, isReset := false }])
          ∧ (16 ≤ s.replies.length → t.replies = s.replies
              ∧ t.counter .repliesLost = counted (s.counter .repliesLost)))

/-- A SET or ORDER for a HELD, RESTORING or DRAINING station enters its hold queue: superseded SETs leave, each with a HOLD-REPLY
SUPERSEDED and a count, newest first; the others keep their order; and the frame is appended when there is room, else it is dropped,
with the reply HELD or DEFERRED and the queue length. An ORDER supersedes nothing. The scan of superseding takes the queue newest
first: the SETs with covered channel sets back to the nearest ORDER leave, and everything else stays in its order. A removal below
160 arms the high-water flag, and an append that brings an armed pool to 192 raises "high water" and spends it. -/
def Obligations.HoldEntryKeepsOrder : Prop :=
  (∀ (chs : List Nat) (newer older : List Frame) (o : Frame), (∀ f ∈ newer, f.kind ≠ kindOrder) → o.kind = kindOrder →
    scanQueue chs (newer ++ o :: older)
      = (newer.filter (fun f => !supersededBy chs f) ++ o :: older, newer.filter (supersededBy chs)))
    ∧ (∀ (chs : List Nat) (q : List Frame), (∀ f ∈ q, f.kind ≠ kindOrder) →
      scanQueue chs q = (q.filter (fun f => !supersededBy chs f), q.filter (supersededBy chs)))
    ∧ (∀ (chs : List Nat) (f : Frame), supersededBy chs f = true ↔
      f.kind = kindSet ∧ f.payload.length ≠ 0 ∧ f.payload.length % 3 = 0 ∧ ∀ c ∈ channelSet f, c ∈ chs)
    ∧ ∀ (s : State) (f : Frame), s.silence.silent = false → s.loading = false → s.FBusy → s.SBusy →
    validStation f.station = true → (f.kind = kindSet ∨ f.kind = kindOrder) → (s.station f.station).state.holds = true →
    let q := s.queue f.station
    let scan := scanQueue (channelSet f) q.reverse
    let kept := if isParsedSet f then scan.1.reverse else q
    let gone := if isParsedSet f then scan.2 else []
    let occupied := (s.setQueue f.station kept).occupancy
    let room := kept.length < (s.station f.station).config.holdQuota ∧ occupied < 256
    let armed := s.highWaterArmed = true ∨ (gone ≠ [] ∧ occupied < 160)
    let superseded := gone.zipIdx.map (fun x =>
      Reply.mk { station := x.1.station, kind := 43, seq := x.1.seq, payload := [2, x.1.kind, byte (q.length - 1 - x.2)] } false)
    ∃ t, exec (.sFrameArrival f) s = .next t ∧ Untouched s.heard t ∧ t.passDown = s.passDown
      ∧ (∀ a, a ≠ f.station → t.queue a = s.queue a)
      ∧ (room → t.queue f.station = kept ++ [f])
      ∧ (¬ room → t.queue f.station = kept ∧ t.isPending .deferral = true
          ∧ t.counter .framesDeferred = counted (s.counter .framesDeferred))
      ∧ t.counter .framesSuperseded = Nat.iterate counted gone.length (s.counter .framesSuperseded)
      ∧ (s.replies.length + gone.length < 16 → t.replies = s.replies ++ superseded ++ [{ frame :=
            { station := f.station, kind := 43, seq := f.seq
              payload := if room then [1, f.kind, byte (kept.length + 1)] else [3, f.kind, byte kept.length] }, isReset := false }])
      ∧ (room → occupied = 191 → armed → t.isPending .highWater = true ∧ t.highWaterArmed = false)
      ∧ (¬ room ∨ occupied ≠ 191 ∨ ¬ armed → (t.highWaterArmed = true ↔ armed))

/-- An ALERT for a listed station overrides it: the station is OVERRIDDEN and no member, "overridden" is raised, ALERT holds a run
that is still in progress, and the frame is placed in the FIFO or, when it is full, in the reserve, or is deferred. Its queue is
discarded oldest first, each frame with a HOLD-REPLY DISCARDED of the length left and a count, after the reply of a deferred ALERT,
and "discard" is raised once. A member's unfinished steps become SKIPPED, and the record of an ISSUED one goes to CLOSING while an
attempt is outstanding. A broadcast ALERT does so for every listed station; one that affects no station is placed and does nothing
else. -/
def Obligations.AlertOverridesItsStation : Prop :=
  let placed (s t : State) (f : Frame) : Prop :=
    (s.passDown.length < 8 → t.passDown = s.passDown ++ [f] ∧ t.alertReserve = s.alertReserve)
      ∧ (8 ≤ s.passDown.length → t.passDown = s.passDown
          ∧ (s.alertReserve = none → t.alertReserve = some f)
          ∧ (s.alertReserve.isSome = true → t.alertReserve = s.alertReserve ∧ t.isPending .deferral = true
              ∧ t.counter .framesDeferred = counted (s.counter .framesDeferred)))
  (∀ (s : State) (f : Frame), s.silence.silent = false → s.FBusy → f.kind = kindAlert → s.seenListed f.station = true →
    (s.station f.station).state ≠ .unlisted →
    ∃ t, exec (.sFrameArrival f) s = .next t ∧ Untouched s.heard t
      ∧ (t.station f.station).state = .overridden
      ∧ ((s.station f.station).state ≠ .overridden → (t.station f.station).member = false ∧ t.queue f.station = []
          ∧ (t.station f.station).faultPending = false
          ∧ (let q := s.queue f.station
             let deferred : List Reply := if s.passDown.length < 8 ∨ s.alertReserve = none then []
               else [{ frame := { station := f.station, kind := 43, seq := f.seq, payload := [3, 13, 9] }, isReset := false }]
             let discarded := q.zipIdx.map (fun x =>
               Reply.mk { station := x.1.station, kind := 43, seq := x.1.seq, payload := [4, x.1.kind, byte (q.length - 1 - x.2)] } false)
             (q ≠ [] → t.isPending .discard = true)
               ∧ t.counter .framesDiscarded = Nat.iterate counted q.length (s.counter .framesDiscarded)
               ∧ (s.SBusy → s.replies.length + deferred.length + q.length ≤ 16 → t.replies = s.replies ++ deferred ++ discarded))
          ∧ ((s.station f.station).member = true → s.run.inProgress = true →
            ∀ n, (s.step n).used = true → (s.step n).station = f.station →
              ((s.entry n).state ≠ .idle → (s.entry n).state.terminal = false → (t.entry n).state = .skipped)
              ∧ ∀ i r, s.slotOf f.station = some i → s.slot i = some r → r.step = n → (s.entry n).state = .issued →
                r.closing = false → r.outstanding.isSome = true →
                t.slot i = some { r with closing := true, ready := none, further := none }))
      ∧ t.isPending .overridden = true
      ∧ (t.run.inProgress = true → t.run.causes.alert = true)
      ∧ placed s t f)
    ∧ (∀ (s : State) (f : Frame), s.silence.silent = false → s.FBusy → f.kind = kindAlert → f.station = 127 →
      ∃ t, exec (.sFrameArrival f) s = .next t ∧ Untouched s.heard t
        ∧ (∀ a, s.seenListed a = true → (s.station a).state ≠ .unlisted → (t.station a).state = .overridden
          ∧ ((s.station a).state ≠ .overridden → (t.station a).member = false ∧ t.queue a = []
            ∧ (t.station a).faultPending = false))
        ∧ (∀ a, s.seenListed a = false → t.queue a = s.queue a
          ∧ ((t.station a).state = .overridden ↔ (s.station a).state = .overridden))
        ∧ ((∃ a, s.seenListed a = true) → t.isPending .overridden = true
          ∧ (t.run.inProgress = true → t.run.causes.alert = true))
        ∧ placed s t f)
    ∧ ∀ (s : State) (f : Frame), s.silence.silent = false → s.FBusy → f.kind = kindAlert → 1 ≤ f.station → f.station ≤ 127 →
      (∀ a, f.station = 127 ∨ f.station = a → s.seenListed a = false) →
      ∃ t, exec (.sFrameArrival f) s = .next t ∧ Untouched s.heard t ∧ t.stations = s.stations
        ∧ t.queues = s.queues ∧ t.run = s.run ∧ t.entries = s.entries ∧ t.slots = s.slots
        ∧ t.isPending .overridden = s.isPending .overridden ∧ placed s t f

/-- A frame for station 0 of a kind other than REQUEST is one S-port framing error, and an F-port frame from station 0 or 127 one
F-port framing error; neither goes any further. -/
def Obligations.MisaddressedFramesAreErrors : Prop :=
  (∀ (s : State) (f : Frame), f.station = 0 → f.kind ≠ kindRequest → ∃ t, exec (.sFrameArrival f) s = .next t
      ∧ t.portS = s.portS.endFrame.takeError s.bridgeTime .framing ∧ t.portF = s.portF
      ∧ t.counter .sFraming = counted (s.counter .sFraming)
      ∧ t.points = s.points ∧ t.settings = s.settings ∧ t.cursor = s.cursor
      ∧ (s.FBusy → t.passDown = s.passDown ∧ t.wireF = s.wireF ∧ t.queues = s.queues))
    ∧ ∀ (s : State) (f : Frame), validStation f.station = false → ∃ t, exec (.fFrameArrival f) s = .next t
      ∧ t.portF = s.portF.endFrame.takeError s.bridgeTime .framing ∧ t.portS = s.portS
      ∧ (∀ c, t.counter c = if c = .fFraming then counted (s.counter c) else s.counter c)
      ∧ t.points = s.points ∧ t.silence = s.silence ∧ (s.SBusy → t.passUp = s.passUp)
      ∧ ∀ a, (t.station a).history = (s.station a).history

/-! ## Frames from the stations -/

/-- A station frame that matches no record is placed at the tail of the pass-up FIFO, or at a full one dropped and counted. -/
def Obligations.PassUpOrDrop : Prop :=
  ∀ (s : State) (f : Frame), s.SBusy → validStation f.station = true → s.matchSlot f = none →
    ∃ t, exec (.fFrameArrival f) s = .next t
      ∧ (s.passUp.length < 8 → t.passUp = s.passUp ++ [f] ∧ t.counter .upstreamDropped = s.counter .upstreamDropped)
      ∧ (8 ≤ s.passUp.length → t.passUp = s.passUp
          ∧ t.counter .upstreamDropped = counted (s.counter .upstreamDropped))
      ∧ t.counter .unknownPassed
          = (if knownUp f.kind then s.counter .unknownPassed else counted (s.counter .unknownPassed))
      ∧ t.settings = s.settings ∧ t.silence = s.silence ∧ t.plan = s.plan ∧ t.cursor = s.cursor

/-- An ACK makes every pending part of its station with its seq the confirmed value; a NAK removes those parts, and the records they
leave empty. Every other record is left, whether the frame is absorbed, passed or dropped. -/
def Obligations.AckConfirmsNakRemoves : Prop :=
  ∀ (s : State) (f : Frame), validStation f.station = true →
    (f.kind = kindAck → ∃ t, exec (.fFrameArrival f) s = .next t ∧ t.points = s.points.map (fun p =>
      if p.station = f.station ∧ p.pending.map PendingPart.seq = some f.seq then
        { p with confirmed := p.pending.map PendingPart.value, pending := none } else p))
    ∧ (f.kind = kindNak → ∃ t, exec (.fFrameArrival f) s = .next t ∧ t.points = s.points.filterMap (fun p =>
      if p.station = f.station ∧ p.pending.map PendingPart.seq = some f.seq then
        if p.confirmed.isSome then some { p with pending := none } else none
      else some p))

/-- A HELLO is counted; for a listed station it appends its entry to the history, the oldest leaving beyond 4, and raises "HELLO";
during the load and for an unlisted station it is only counted. No other history changes. Its absorption or its passage comes before
its tap (log 15), and leaves `b`: a record that absorbs it counts it as a late reply when CLOSING or in its re-poll wait, the
CLOSING one closes, an OPEN one that awaits a reply stays, and the Run Engine goes on. In `b`, a HELLO that makes no storm, from an
ONLINE station with no run in progress and no automatic start, holds the station exactly when its hold policy applies to the
retention flag. -/
def Obligations.HelloIsRecordedThenTested : Prop :=
  (∀ (s : State) (f : Frame), validStation f.station = true → f.kind = kindHello →
       ∃ t, exec (.fFrameArrival f) s = .next t
         ∧ t.counter .hellosSeen = counted (s.counter .hellosSeen)
         ∧ (∀ a, a ≠ f.station → (t.station a).history = (s.station a).history)
         ∧ (s.seenListed f.station = false → (t.station f.station).history = (s.station f.station).history)
         ∧ (s.seenListed f.station = true → t.isPending .hello = true ∧
             (let h := (s.station f.station).history ++
               [{ time := s.bridgeTime, cause := f.payload.getD 0 0, kept := decide (f.payload.getD 1 0 ≠ 0) }]
             (t.station f.station).history = h.drop (h.length - 4))))
    ∧ (∀ (s : State) (f : Frame), f.kind = kindHello →
       let b := s.classifyUp f (s.matchSlot f)
       (s.matchSlot f = none → b = { s with passUp := b.passUp, counters := b.counters, noticePending := b.noticePending })
       ∧ ∀ i r, s.matchSlot f = some i → s.slot i = some r →
         b = s.settleFrom (if r.closing then (s.count .lateReplies).closeRecord i
           else if r.repollWait then s.count .lateReplies else s))
    ∧ ∀ (s : State) (f : Frame), validStation f.station = true → f.kind = kindHello → s.seenListed f.station = true →
       let b := s.classifyUp f (s.matchSlot f)
       (b.station f.station).state = .online → b.run.inProgress = false → b.autoStartAllowed f.station = false →
       s.FBusy → ¬ Storms b f →
       ∃ t, exec (.fFrameArrival f) s = .next t ∧ t.run = b.run
         ∧ (∀ a, a ≠ f.station → t.station a = b.station a)
         ∧ (t.station f.station).config = (s.station f.station).config
         ∧ (t.station f.station).member = (b.station f.station).member
         ∧ (t.station f.station).state =
             match (s.station f.station).config.holdPolicy with
             | .never => .online
             | .onLoss => if f.payload.getD 1 0 = 0 then .held else .online
             | .always => .held

/-- A frame that a record absorbs is not forwarded. A CLOSING record, and one in its re-poll wait, counts it as a late reply, and
the CLOSING record closes: what stands in its slot then is a new OPEN record. For an OPEN record an ACK of a FIXED-SET or ORDER
frame, or a STATE in range of an AWAIT poll, and the ACK of a RESTORE step's last frame finish the step's frames: it settles, or is
DONE with settle 0. A NAK fails the step REFUSED with its reason. An AWAIT answer out of range waits for the next poll, or at the
poll limit fails the step OUT-OF-RANGE. A RESTORE frame with confirmed values left above the highest channel sent is followed by a
record for the next frame in the same slot. Where the frame is resolved, the record goes to CLOSING while a later attempt is
outstanding, and closes otherwise. Any other frame has no effect on the record, and no grant test follows it. -/
def Obligations.AbsorbedRepliesAct : Prop :=
  ∀ (s : State) (f : Frame) (i : Nat) (r : InjectionRecord), s.FBusy → validStation f.station = true → f.kind ≠ kindHello →
    s.matchSlot f = some i → s.slot i = some r → r.step < 96 →
    let x := s.step r.step
    let e := s.entry r.step
    let waits : Prop := r.closing = true ∨ r.repollWait = true
    let finishes : Prop :=
      (f.kind = kindAck ∧ (x.action = some .fixedSet ∨ x.action = some .order))
        ∨ (f.kind = kindState ∧ x.action = some .await ∧ ∃ v, pointValue f.payload x.awaitChannel = some v ∧ x.low ≤ v ∧ v ≤ x.high)
        ∨ (f.kind = kindAck ∧ x.action = some .restore ∧ ∃ h, r.builtHighest = some h
          ∧ (s.confirmPoints f.station f.seq).confirmedIn r.station (h + 1) x.last = [])
    let refused : Prop := f.kind = kindNak ∧ (x.action = some .restore ∨ x.action = some .fixedSet ∨ x.action = some .order)
    let outside : Prop := f.kind = kindState ∧ x.action = some .await
      ∧ ∀ v, pointValue f.payload x.awaitChannel = some v → v < x.low ∨ x.high < v
    let left (h : Nat) : List (Nat × Nat) := (s.confirmPoints f.station f.seq).confirmedIn r.station (h + 1) x.last
    ∃ t, exec (.fFrameArrival f) s = .next t ∧ (s.SBusy → t.passUp = s.passUp)
      ∧ (waits → ∀ c, t.counter c = if c = .lateReplies then counted (s.counter c) else s.counter c)
      ∧ (¬ waits → t.counters = s.counters)
      ∧ (r.closing = true → ∀ y, t.slot i = some y → y.closing = false ∧ y.outstanding = none)
      ∧ (¬ waits → finishes → t.entry r.step = { e with
            state := if x.settle = 0 then .done else .settling
            settle := if x.settle = 0 then none else some (s.later (x.settle * 10)) })
      ∧ (¬ waits → refused →
          (t.entry r.step).state = .failed ∧ (t.entry r.step).cause = .refused
            ∧ (t.entry r.step).nak = f.payload.getD 0 0 ∧ (t.entry r.step).attempts = e.attempts
            ∧ t.isPending .stepFailed = true)
      ∧ (¬ waits → outside →
          (r.pollCount < x.pollLimit → t.slot i = some { r with
            ready := none, outstanding := none, repollWait := true, deadline := some (s.bridgeTime + 50) })
          ∧ (x.pollLimit ≤ r.pollCount → (t.entry r.step).state = .failed ∧ (t.entry r.step).cause = .outOfRange
            ∧ t.isPending .stepFailed = true))
      ∧ (¬ waits → f.kind = kindAck → x.action = some .restore → (r.outstanding = none ∨ r.outstanding = some f.seq) →
          ∀ h, r.builtHighest = some h → left h ≠ [] →
          ∃ y, t.slot i = some y ∧ y.step = r.step ∧ y.frameIndex = r.frameIndex + 1 ∧ y.startChannel = h + 1
            ∧ y.closing = false ∧ y.ready = y.attempts.head? ∧ y.attempts.length = 1)
      ∧ (¬ waits → finishes ∨ refused ∨ (outside ∧ x.pollLimit ≤ r.pollCount) →
          (∀ q, r.outstanding = some q → q ≠ f.seq → t.slot i = some { r with closing := true, ready := none, further := none })
          ∧ (r.outstanding = none ∨ r.outstanding = some f.seq →
            ∀ y, t.slot i = some y → y.closing = false ∧ y.outstanding = none))
      ∧ (¬ waits → f.kind = kindAck → x.action = some .restore → ∀ q, r.outstanding = some q → q ≠ f.seq →
          ∀ h, r.builtHighest = some h → left h ≠ [] →
          t.slot i = some { r with closing := true, ready := none, further := some (h + 1) })
      ∧ (¬ waits → (x.action = some .await ∧ (f.kind = kindAck ∨ f.kind = kindNak))
          ∨ (f.kind ≠ kindAck ∧ f.kind ≠ kindNak ∧ f.kind ≠ kindState) →
          let u := State.followUp false { s with points := t.points }
          SameRun t u ∧ t.feedA = u.feedA ∧ t.feedB = u.feedB)

/-- A HELLO that makes no storm, from a HELD or RESTORING member, restarts its restoration: the station goes back to HELD, each of
its steps that is not SKIPPED returns to PENDING with its failure cause and NAK reason cleared, its settle timer stopped and its
attempt count kept, an ISSUED one's contribution starts its clock, and its OPEN record goes to CLOSING or, with no attempt
outstanding, closes; so stands `w`. Then the steps are evaluated and the Run Engine goes on. Its SKIPPED steps, the finished steps
of other stations and every hold queue stay as they are. `b` is the state after the HELLO's absorption or passage
(`HelloIsRecordedThenTested`). -/
def Obligations.HelloRestartsTheSteps : Prop :=
  ∀ (s : State) (f : Frame), s.FBusy → validStation f.station = true → f.kind = kindHello → s.seenListed f.station = true →
    let b := s.classifyUp f (s.matchSlot f)
    ((b.station f.station).state = .held ∨ (b.station f.station).state = .restoring) →
    (b.station f.station).member = true → b.run.inProgress = true → ¬ Storms b f →
    let own (n : Nat) : Bool := (s.step n).used && decide ((s.step n).station = f.station)
    ∃ w t : State, exec (.fFrameArrival f) s = .next t ∧ t.queues = s.queues ∧ SameGround b w
      ∧ (∀ n, w.entry n = if own n = true ∧ (b.entry n).state ≠ .skipped ∧ (b.entry n).state ≠ .pending then
          { b.entry n with state := .pending, cause := .none, nak := 0, settle := none } else b.entry n)
      ∧ (∀ a, w.station a = if a = f.station then { b.station a with state := .held, history := helloHistory b f }
          else b.station a)
      ∧ (∀ i, w.slot i = if b.slotOf f.station = some i then cancelled (b.slot i) else b.slot i)
      ∧ w.contributions = b.contributions.map (fun c =>
          if own c.step = true ∧ (b.entry c.step).state = .issued then { c with running := true } else c)
      ∧ w.run = b.run ∧ SameRun t (b.settleFrom w)
      ∧ (∀ n, own n = true → (b.entry n).state ≠ .skipped → (b.entry n).state ≠ .pending →
          (t.entry n).cause = .none ∧ (t.entry n).nak = 0 ∧ (t.entry n).attempts = (b.entry n).attempts)
      ∧ (∀ n, (b.entry n).state.terminal = true → own n = false ∨ (b.entry n).state = .skipped → t.entry n = b.entry n)
      ∧ ∀ i r, b.slotOf f.station = some i → b.slot i = some r → r.closing = false → r.outstanding.isSome = true →
          t.slot i = some { r with closing := true, ready := none, further := none }

/-- A HELLO that makes no storm and finds a run in progress: an ONLINE station whose hold policy applies, and a DRAINING one that is
not fault-pending, goes to HELD and joins the run. An ONLINE one's SETs and ORDERs leave the pass-down FIFO for its hold queue; a
drain's queue is kept in its order. Its used steps that are not SKIPPED return to PENDING, and after a DRAINING the SKIPPED ones
too, an ISSUED one's contribution starts its clock; so stands `w`, and then they are evaluated. A DRAINING station that is
fault-pending only takes its history entry. `b` is the state after the HELLO's absorption or passage (`HelloIsRecordedThenTested`).
-/
def Obligations.HelloJoinsTheRun : Prop :=
  ∀ (s : State) (f : Frame), s.FBusy → validStation f.station = true → f.kind = kindHello → s.seenListed f.station = true →
    let b := s.classifyUp f (s.matchSlot f)
    b.run.inProgress = true → ¬ Storms b f →
    let x := b.station f.station
    let own (n : Nat) : Bool := (s.step n).used && decide ((s.step n).station = f.station)
    let applies : Prop := x.config.holdPolicy = .always ∨ (x.config.holdPolicy = .onLoss ∧ f.payload.getD 1 0 = 0)
    let joins : Prop := (x.state = .draining ∧ x.faultPending = false) ∨ (x.state = .online ∧ applies)
    let u := if x.state = .online ∧ applies then b.handOver f.station else b
    ∃ w t : State, exec (.fFrameArrival f) s = .next t
      ∧ (joins →
        SameGround u w ∧ t.queues = u.queues ∧ t.passDown = u.passDown
        ∧ (∀ n, w.entry n =
          if own n = true ∧ (b.entry n).state ≠ .pending ∧ (x.state = .draining ∨ (b.entry n).state ≠ .skipped) then
            { b.entry n with state := .pending, cause := .none, nak := 0, settle := none } else b.entry n)
        ∧ (∀ a, w.station a = if a = f.station then { x with state := .held, member := true, history := helloHistory b f }
            else b.station a)
        ∧ (∀ i, w.slot i = if b.slotOf f.station = some i then cancelled (b.slot i) else b.slot i)
        ∧ w.contributions = b.contributions.map (fun c =>
            if own c.step = true ∧ (b.entry c.step).state = .issued then { c with running := true } else c)
        ∧ w.run = b.run ∧ SameRun t (b.settleFrom w))
      ∧ (x.state = .draining → x.faultPending = true → t.station f.station = { x with history := helloHistory b f }
        ∧ (∀ a, a ≠ f.station → t.station a = b.station a) ∧ t.entries = b.entries ∧ t.slots = b.slots ∧ t.run = b.run
        ∧ t.queues = s.queues)

/-- A HELLO that makes no storm and leaves its station HELD with the run IDLE starts a run exactly when the station's auto-run is
on, the inhibit strap is low, no silence suppresses it and the plan passes validation: every HELD station becomes a member, its used
steps PENDING and all others IDLE, under the next run number; so stands `w`, and "started" is raised. A plan that fails leaves the
run IDLE with "start refused". Else nothing is asked for. `b` is the state after the HELLO's absorption or passage
(`HelloIsRecordedThenTested`). -/
def Obligations.HelloStartsARun : Prop :=
  ∀ (s : State) (f : Frame), s.FBusy → validStation f.station = true → f.kind = kindHello → s.seenListed f.station = true →
    let b := s.classifyUp f (s.matchSlot f)
    b.run.inProgress = false → ¬ Storms b f →
    let x := b.station f.station
    let applies : Prop := x.config.holdPolicy = .always ∨ (x.config.holdPolicy = .onLoss ∧ f.payload.getD 1 0 = 0)
    let holds : Prop := x.state = .held ∨ x.state = .restoring ∨ (x.state = .draining ∧ x.faultPending = false)
      ∨ (x.state = .online ∧ applies)
    let asks : Prop := x.config.autoRun = true ∧ s.straps.inhibit = false ∧ s.silence.suppress = false
    let u := if x.state = .online ∧ applies then b.handOver f.station else b
    ∃ w t : State, exec (.fFrameArrival f) s = .next t ∧ t.queues = u.queues ∧ t.passDown = u.passDown
      ∧ (holds → asks → b.validate = none →
        t.isPending .started = true ∧ t.run.number = b.run.number + 1 ∧ t.run.startTime = s.bridgeTime ∧ SameGround u w
        ∧ w.run = { inProgress := true, number := b.run.number + 1, startTime := s.bridgeTime, halting := none, causes := .empty
                    lastOutcome := b.run.lastOutcome }
        ∧ (∀ a, w.station a = if a = f.station then { x with state := .held, member := true, history := helloHistory b f }
            else if (b.station a).state = .held then { b.station a with member := true } else b.station a)
        ∧ (∀ n, w.entry n = { state := if (s.step n).used = true ∧ (w.station (s.step n).station).member = true then .pending
                                       else .idle
                              cause := .none, nak := 0, attempts := 0, settle := none })
        ∧ w.slots = b.slots ∧ w.contributions = b.contributions ∧ SameRun t w.settle)
      ∧ (holds → asks → b.validate ≠ none → t.isPending .startRefused = true ∧ t.run = b.run ∧ t.entries = b.entries
        ∧ t.station f.station = { x with state := .held, history := helloHistory b f })
      ∧ (holds → ¬ asks → t.run = b.run ∧ t.entries = b.entries
        ∧ t.station f.station = { x with state := .held, history := helloHistory b f })
      ∧ (¬ holds → t.run = b.run ∧ t.entries = b.entries ∧ t.station f.station = { x with history := helloHistory b f })

/-- A HELLO that fills the history to four entries within the storm window, from an ONLINE, HELD, RESTORING or DRAINING station,
raises "storm" and requests the fault STORM: the station is FAULTED with "faulted" when ONLINE or with an empty queue, else it
drains with fault-pending; one that drains so already keeps its cause. A member that leaves the run so has its unfinished steps
SKIPPED. No other HELLO raises "storm", and a FAULTED or OVERRIDDEN station only takes its history entry. `b` is the state after the
HELLO's absorption or passage (`HelloIsRecordedThenTested`). -/
def Obligations.StormFaultsItsStation : Prop :=
  ∀ (s : State) (f : Frame), s.FBusy → validStation f.station = true → f.kind = kindHello → s.seenListed f.station = true →
    let b := s.classifyUp f (s.matchSlot f)
    let x := b.station f.station
    ∃ t, exec (.fFrameArrival f) s = .next t ∧ (t.station f.station).history = helloHistory b f
      ∧ (¬ Storms b f → t.isPending .storm = s.isPending .storm)
      ∧ (x.state = .faulted ∨ x.state = .overridden → t.station f.station = { x with history := helloHistory b f }
        ∧ t.run = b.run ∧ t.entries = b.entries ∧ t.queues = s.queues)
      ∧ (Storms b f → t.isPending .storm = true ∧ t.queues = s.queues
        ∧ (x.state = .online ∨ (x.state ≠ .draining ∧ s.queue f.station = []) → (t.station f.station).state = .faulted
          ∧ (t.station f.station).faultCause = some .storm ∧ t.isPending .faulted = true)
        ∧ ((x.state = .held ∨ x.state = .restoring) ∧ s.queue f.station ≠ [] ∨ (x.state = .draining ∧ x.faultPending = false) →
          (t.station f.station).state = .draining ∧ (t.station f.station).faultPending = true
          ∧ (t.station f.station).faultCause = some .storm)
        ∧ (x.state = .draining → x.faultPending = true → (t.station f.station).state = .draining
          ∧ (t.station f.station).faultPending = true ∧ (t.station f.station).faultCause = x.faultCause)
        ∧ (x.state = .held ∨ x.state = .restoring ∨ (x.state = .draining ∧ x.faultPending = false) →
          (t.station f.station).member = false
          ∧ (x.member = true → b.run.inProgress = true → ∀ n, (s.step n).used = true → (s.step n).station = f.station →
            (b.entry n).state ≠ .idle → (b.entry n).state.terminal = false → (t.entry n).state = .skipped)))

/-- A meter's STATE that carries its channel is taken as a reading whatever the station's state: the measured value, clamped, its
time, and the stale mark cleared; budget, standing load and the other feed's reading keep theirs. Outside a run it removes the
ramp-complete contributions of its feed, without a fold, and no other. -/
def Obligations.MeterReadingIsTaken : Prop :=
  ∀ (s : State) (f : Frame) (feed : Feed) (v : Nat), validStation f.station = true → f.kind = kindState →
    s.loading = false → (s.station f.station).config.role = .meter → (s.station f.station).config.meterFeed.feed = some feed →
    pointValue f.payload (s.station f.station).config.meterChannel = some v →
    ∃ t, exec (.fFrameArrival f) s = .next t
      ∧ (t.feed feed).measured = some (min v 16383) ∧ (t.feed feed).measuredTime = s.bridgeTime ∧ (t.feed feed).stale = false
      ∧ (∀ g, (t.feed g).budget = (s.feed g).budget ∧ (t.feed g).standing = (s.feed g).standing)
      ∧ (∀ g, g ≠ feed → (t.feed g).measured = (s.feed g).measured ∧ (t.feed g).measuredTime = (s.feed g).measuredTime
          ∧ (t.feed g).stale = (s.feed g).stale)
      ∧ (s.run.inProgress = false → s.matchSlot f = none → s.FBusy →
          t.contributions = s.contributions.filter (fun c => !(decide (c.feed = feed) && decide (c.ramp ≤ c.elapsed))))

/-! ## Frames that leave -/

/-- A parsed SET of the supervisor that leaves the F-port for a listed station that is not OVERRIDDEN, with a retention quota above
0, is taken point by point in ascending order of channel, each channel once with its last value. A pinned record is left; an
unpinned one takes value and seq as its pending part and keeps its confirmed value; with no record, a learning record is made where
the station's quota and the pool have room, counting those made before it, and else a retention miss is counted. The records of
other stations and channels are left. -/
def Obligations.SnoopSetsPendingParts : Prop :=
  (∀ (s : State) (w : FWire), s.wireF = some w → (w.source = .pass ∨ w.source = .drain) → isParsedSet w.frame = true →
    validStation w.frame.station = true → s.seenListed w.frame.station = true →
    (s.station w.frame.station).state ≠ .overridden → 0 < (s.station w.frame.station).config.retentionQuota →
    ∃ t, exec .fTransmitComplete s = .next t
      ∧ (let u := (readPoints w.frame.payload).foldl (fun u p => u.snoopPoint w.frame.station w.frame.seq p) s
        t.points = u.points ∧ t.counter .retentionMisses = u.counter .retentionMisses)
      ∧ (PoolKept s →
        (∀ c v r, (c, v) ∈ readPoints w.frame.payload → s.findPoint w.frame.station c = some r → r.pinned = false →
          t.findPoint w.frame.station c = some { r with pending := some { value := v, seq := w.frame.seq } })
        ∧ (∀ c r, s.findPoint w.frame.station c = some r → (r.pinned = true ∨ ∀ v, (c, v) ∉ readPoints w.frame.payload) →
          t.findPoint w.frame.station c = some r)
        ∧ ∀ a c, a ≠ w.frame.station → t.findPoint a c = s.findPoint a c))
    ∧ (∀ payload : List Byte, (readPoints payload).Pairwise (fun p q => p.1 < q.1))
    ∧ ∀ (s : State) (a c v : Nat) (seq : Byte),
      let u := s.snoopPoint a seq (c, v)
      let room : Prop := (s.points.filter (fun p => p.station = a)).length < (s.station a).config.retentionQuota
        ∧ s.points.length < 1024
      let others : Prop := u = { s with points := u.points } ∧ ∀ b d, b ≠ a ∨ d ≠ c → u.findPoint b d = s.findPoint b d
      (∀ r, s.findPoint a c = some r → r.pinned = true → u = s)
      ∧ (∀ r, s.findPoint a c = some r → r.pinned = false →
        u.findPoint a c = some { r with pending := some { value := v, seq := seq } } ∧ others)
      ∧ (s.findPoint a c = none → room → u.findPoint a c = some { station := a, channel := c, confirmed := none
                                                                  pending := some { value := v, seq := seq }, pinned := false }
        ∧ others)
      ∧ (s.findPoint a c = none → ¬ room → u = s.count .retentionMisses)

/-- When an injection frame leaves, the reply timeout of its step runs from that moment for the record whose outstanding attempt it
is, OPEN or CLOSING; nothing else of the record changes. With no frame on the wire none leaves (the model's choice, log 36). -/
def Obligations.ReplyTimeoutRunsFromLeaving : Prop :=
  (∀ (s : State) (f : Frame) (i : Nat) (r : InjectionRecord), s.wireF = some { frame := f, source := .injection } →
    s.slotOf f.station = some i → s.slot i = some r → r.outstanding = some f.seq →
    (State.fLeaves s).FQuiet → ∃ t, exec .fTransmitComplete s = .next t ∧ t.wireF = none
      ∧ t.slot i = some { r with deadline := some (s.later (s.step r.step).replyTimeout) }
      ∧ (∀ j, j ≠ i → t.slot j = s.slot j) ∧ Untouched s t ∧ t.entries = s.entries ∧ t.run = s.run
      ∧ t.counters = s.counters ∧ t.queues = s.queues)
    ∧ ∀ s : State, s.wireF = none → s.FQuiet → exec .fTransmitComplete s = .next s.sArbiter

/-- When a NOTICE leaves the S-port, the spacing timer starts with the notice spacing in force; a reply or a station frame leaves it
as it stands. The spacing timer's expiry stops it and places a NOTICE exactly when the reported set is not empty: the group bytes,
the run state and the run number, numbered by the notice number, which rises by 1. The expiry of a stopped spacing timer changes
nothing (the model's choice, log 4). -/
def Obligations.NoticesAreSpaced : Prop :=
  (∀ (s : State) (w : SWire), s.wireS = some w → s.FQuiet →
     (∀ f, w = .notice f → exec .sTransmitComplete s
       = .next (State.sArbiter { s with wireS := none, spacing := some (s.later (s.settings.noticeSpacing * 10)) }))
     ∧ (∀ f, w = .passUp f → exec .sTransmitComplete s = .next (State.sArbiter { s with wireS := none }))
     ∧ ∀ f, w = .reply { frame := f, isReset := false } →
       exec .sTransmitComplete s = .next (State.sArbiter { s with wireS := none }))
    ∧ (∀ s : State, s.FQuiet →
       (s.spacing.isSome = true → s.reportedEmpty = false → exec .spacingTimerExpiry s = .next (State.sArbiter
         { s with spacing := none, noticeNumber := s.noticeNumber + 1
                  noticeSlot := some { station := 0, kind := 42, seq := s.noticeNumber
                                       payload := s.reported ++ [s.runState.code, s.run.number] } }))
       ∧ (s.spacing.isSome = true → s.reportedEmpty = true →
         exec .spacingTimerExpiry s = .next (State.sArbiter { s with spacing := none }))
       ∧ (s.spacing = none → exec .spacingTimerExpiry s = .next s.sArbiter))

/-- An event that takes the reported set from empty to not empty with the spacing timer stopped places a NOTICE of the set, the run
state and the run number in the slot, under the notice number as it stood, formed with all that the event raised (log 12); an event
with the spacing timer running, and left so, places none. A READ-CLEAR-GROUP that empties the set parts its event in two: when its
ANSWER is lost and that loss raises COUNT, the set has become non-empty again and a NOTICE is placed. -/
def Obligations.NoticeIsPlaced : Prop :=
  (∀ (c : Instr) (s t : State), exec c s = .next t → c ≠ .sTransmitComplete → s.SBusy → s.spacing = none → t.spacing = none →
    s.reportedEmpty = true → t.reportedEmpty = false →
    t.noticeSlot = some { station := 0, kind := 42, seq := t.noticeNumber - 1
                          payload := t.reported ++ [t.runState.code, t.run.number] })
    ∧ (∀ (c : Instr) (s t : State), exec c s = .next t → c ≠ .sTransmitComplete → s.SBusy → s.spacing.isSome = true →
      t.spacing = s.spacing → t.noticeSlot = s.noticeSlot ∧ t.noticeNumber = s.noticeNumber)
    ∧ ∀ (s : State) (seq g : Byte), s.loading = false → s.resetPending = none → s.silence.silent = false → s.FBusy → s.SBusy →
      s.spacing = none → 16 ≤ s.replies.length → s.counter .repliesLost = 127 → g.toNat ≤ 7 →
      s.reportedEmpty = false → (∀ h, h < 8 → h ≠ g.toNat → s.reportedGroup h = 0) →
      s.settings.groupEnables.getLsbD 6 = true → (getAt s.settings.eventEnables 6 0).getLsbD 0 = true →
      ∃ t, exec (.readClearGroup seq [g]) s = .next t ∧ t.isPending .counter128 = true
        ∧ t.noticeNumber = s.noticeNumber + 1
        ∧ t.noticeSlot = some { station := 0, kind := 42, seq := s.noticeNumber
                                payload := t.reported ++ [t.runState.code, t.run.number] }

/-- The F-port arbiter of a free transmitter: an ALERT at the FIFO head, then the reserve, each leaving the guard as it is; with the
guard at 4 a drain frame; then the ready attempt of the lowest step number, built at the choice, which becomes outstanding and is
counted; then the FIFO head; an injection or pass choice raises the guard by 1 to 4 while a drain frame is offered and else sets it
to 0. A RESTORE frame with nothing left to build is not sent: its record closes, the step's frames are finished, and the arbiter
chooses again at once (the model's reading of that moment: log 11). A drain serves the lowest offering station above the last drain
station, else the lowest, and sets the guard to 0. -/
def Obligations.FieldArbiterOrder : Prop :=
  (∀ (s : State) (f : Frame) (rest : List Frame), s.wireF = none → s.passDown = f :: rest → f.kind = kindAlert →
    s.fArbiter = { s with passDown := rest, wireF := some { frame := f, source := .alert } })
    ∧ (∀ (s : State) (f : Frame), s.wireF = none → (∀ g, s.passDown.head? = some g → g.kind ≠ kindAlert) →
      s.alertReserve = some f →
      s.fArbiter = { s with alertReserve := none, wireF := some { frame := f, source := .alert } })
    ∧ (∀ (s : State) (f : Frame) (rest : List Frame), s.wireF = none → s.passDown = f :: rest → f.kind ≠ kindAlert →
      s.alertReserve = none → (s.drainGuard < 4 ∨ s.drainOffers = []) → s.injectionChoice = none →
      s.fArbiter = { s with passDown := rest, wireF := some { frame := f, source := .pass }
                            drainGuard := if s.drainOffers = [] then 0 else min 4 (s.drainGuard + 1) })
    ∧ (∀ (s : State) (i : Nat) (r : InjectionRecord) (q : Byte), s.wireF = none → s.alertReserve = none →
      (∀ g, s.passDown.head? = some g → g.kind ≠ kindAlert) → (s.drainGuard < 4 ∨ s.drainOffers = []) →
      s.injectionChoice = some i → s.slot i = some r → r.ready = some q → r.step < 96 →
      let t := s.step r.step
      let points := s.confirmedIn r.station r.startChannel t.last
      (t.action = some .restore → points ≠ []) →
      s.fArbiter.wireF = some (FWire.mk (Frame.mk r.station
          (if t.action = some .order then 11 else if t.action = some .await then 12 else 10) q
          (if t.action = some .restore then pointBytes (points.take 16)
           else if t.action = some .await then [byte t.awaitChannel]
           else (s.payload t.payloadIndex).data.take (s.payload t.payloadIndex).length)) .injection)
        ∧ s.fArbiter.drainGuard = (if s.drainOffers = [] then 0 else min 4 (s.drainGuard + 1))
        ∧ s.fArbiter.entry r.step = { s.entry r.step with attempts := min 255 ((s.entry r.step).attempts + 1) }
        ∧ ∃ x, s.fArbiter.slot i = some x ∧ x.outstanding = some q ∧ x.ready = none ∧ x.attempts = r.attempts
          ∧ x.closing = r.closing ∧ x.station = r.station ∧ x.step = r.step)
    ∧ (∀ (s : State) (i : Nat) (r : InjectionRecord), s.wireF = none → s.alertReserve = none →
      (∀ g, s.passDown.head? = some g → g.kind ≠ kindAlert) → (s.drainGuard < 4 ∨ s.drainOffers = []) →
      s.injectionChoice = some i → s.slot i = some r → r.ready.isSome = true → r.step < 96 →
      (s.step r.step).action = some .restore → s.confirmedIn r.station r.startChannel (s.step r.step).last = [] →
      ∃ u : State, s.fArbiter = u.settle.fArbiter
        ∧ (∀ j, u.slot j = if j = i then none else s.slot j)
        ∧ (∀ n, u.entry n = if n = r.step then { s.entry n with
            state := if (s.step n).settle = 0 then .done else .settling
            settle := if (s.step n).settle = 0 then none else some (s.later ((s.step n).settle * 10)) } else s.entry n)
        ∧ u.contributions = s.contributions.map (fun c => if c.step = r.step then { c with running := true } else c)
        ∧ u = { s with slots := u.slots, entries := u.entries, contributions := u.contributions
                       feedA := u.feedA, feedB := u.feedB }
        ∧ SameGround s u)
    ∧ (∀ (s : State) (i : Nat), s.injectionChoice = some i →
      s.offersInjection i = true ∧ ∀ j, j < 8 → s.offersInjection j = true → s.slotStep i ≤ s.slotStep j)
    ∧ (∀ (s : State) (a : Nat), s.drainChoice = some a → s.wireF = none → s.alertReserve = none →
      (∀ g, s.passDown.head? = some g → g.kind ≠ kindAlert) →
      (4 ≤ s.drainGuard ∨ (s.injectionChoice = none ∧ s.passDown = [])) →
      ∃ f, (s.queue a).head? = some f ∧ s.fArbiter.wireF = some { frame := f, source := .drain }
        ∧ s.fArbiter.drainGuard = 0 ∧ s.fArbiter.lastDrain = a ∧ s.fArbiter.queue a = (s.queue a).tail)
    ∧ ∀ (s : State) (a : Nat), s.drainChoice = some a →
      ((s.station a).state = .draining ∧ s.queue a ≠ [])
        ∧ ((s.lastDrain < a ∧ ∀ b ∈ s.drainOffers, s.lastDrain < b → a ≤ b)
          ∨ ((∀ b ∈ s.drainOffers, b ≤ s.lastDrain) ∧ ∀ b ∈ s.drainOffers, a ≤ b))

/-- The S-port arbiter of a free transmitter, in the order of R35 with its guard count; a busy transmitter takes nothing. -/
def Obligations.SupervisorArbiterOrder : Prop :=
  ∀ s : State,
    (s.wireS.isSome = true → s.sArbiter = s)
    ∧ (s.wireS = none →
      (∀ r rest, s.replies = r :: rest → (4 ≤ s.replyGuard ∨ s.passUp = []) →
        s.sArbiter = { s with replies := rest, wireS := some (.reply r), replyGuard := 0 })
      ∧ (∀ f rest, s.passUp = f :: rest → (s.replyGuard < 4 ∨ s.replies = []) →
        s.sArbiter = { s with passUp := rest, wireS := some (.passUp f)
                              replyGuard := if s.replies = [] then 0 else min 4 (s.replyGuard + 1) })
      ∧ (∀ f, s.passUp = [] → s.replies = [] → s.noticeSlot = some f →
        s.sArbiter = { s with noticeSlot := none, wireS := some (.notice f), replyGuard := 0 })
      ∧ (s.passUp = [] → s.replies = [] → s.noticeSlot = none → s.sArbiter = s))

/-! ## Steps -/

/-- A PENDING step is evaluated by its predecessors and its cause mask; an AWAITING step is eligible for grant exactly when the run
is RUNNING, its station has no record, a frame is needed, and on a feed it is head and admitted; a grant makes its OPEN record with
one attempt, its contribution, ISSUED, and RESTORING of a HELD station. PENDING steps are evaluated in ascending order. A RELEASE, a
MARK and a RESTORE with nothing to restore are frameless: at their completion they settle, or are DONE with settle 0, and a RELEASE
takes its HELD or RESTORING station to DRAINING, a member still, or with an empty queue at once to ONLINE and out of the run. The
Run Engine completes the lowest frameless step that may (after the whole pass of evaluation: the model's choice, log 37), then, when
a grant test is due, grants the lowest eligible one, until none is left; no test is due without a step becoming AWAITING, a record
closing, the run becoming RUNNING, a change of head, or a slice, a reading or a SET-FEED. The estimate of a feed is its base, the
standing load or a metered feed's larger reading, plus its contributions, each S + (P - S)(R - e)/R rounded upward below its ramp
and S at it. After a slice, a timer's expiry or an absorbed frame no step is left that may complete as frameless, nor, when it held
such a moment, one to be granted (that this follows in the same event: log 20). -/
def Obligations.WaitingStepsAreServed : Prop :=
  (∀ (s : State) (n : Nat), s.stepState n ≠ .pending → s.evaluate n = s)
    ∧ (∀ (s : State) (n : Nat), s.stepState n = .pending →
      let xs := (s.step n).preds.map s.stepState
      ((∃ x ∈ xs, x = .failed ∨ x = .skipped) → s.evaluate n = s.setStepState n .skipped)
      ∧ ((∀ x ∈ xs, x ≠ .failed ∧ x ≠ .skipped) →
        (∃ x ∈ xs, x = .pending ∨ x = .awaiting ∨ x = .issued ∨ x = .settling) → s.evaluate n = s)
      ∧ ((∀ x ∈ xs, x = .idle ∨ x = .done ∨ x = .notApplicable) → s.evaluate n = s.setStepState n
        (if (s.step n).causeMask.getLsbD (s.restartCause (s.step n).station) then .awaiting else .notApplicable)))
    ∧ (∀ (s : State) (n : Nat), s.eligible n = true ↔
      s.stepState n = .awaiting ∧ s.runState = .running ∧ s.hasRecord (s.step n).station = false ∧ s.needsFrame n = true
        ∧ ∀ f, (s.step n).feed.feed = some f → s.headOf f = some n
          ∧ s.estimate f + (s.step n).peak ≤ (s.feed f).budget ∧ s.contributions.length < 96)
    ∧ (∀ (s : State) (i n : Nat), i < 8 → n < 96 →
      let r := s.step n
      let t := s.grant i n
      (t.entry n = { s.entry n with state := .issued })
        ∧ t.slot i = some { station := r.station, step := n, closing := false, frameIndex := 0
                            startChannel := if r.action = some .restore then r.first else 0
                            attempts := [s.injectionSeq], outstanding := none, ready := some s.injectionSeq
                            deadline := none, pollCount := 1, repollWait := false, builtHighest := none, further := none }
        ∧ t.injectionSeq = (if s.injectionSeq = 255 then 224 else s.injectionSeq + 1)
        ∧ t.contributions = (match r.feed.feed with
          | some f => s.contributions ++ [{ step := n, feed := f, peak := r.peak, steady := r.steady, ramp := r.ramp
                                            elapsed := 0, running := false }]
          | none => s.contributions)
        ∧ (∀ a, t.station a = if a = r.station ∧ (s.station a).state = .held then
            { s.station a with state := .restoring } else s.station a)
        ∧ (∀ m, m ≠ n → t.entry m = s.entry m) ∧ (∀ j, j ≠ i → t.slot j = s.slot j) ∧ t.run = s.run)
    ∧ (∀ s : State, s.evaluateAll = (List.range 96).foldl State.evaluate s)
    ∧ (∀ (s : State) (n : Nat), s.nextFrameless = some n ↔
      (n < 96 ∧ s.mayAct n = true ∧ s.frameless n = true ∧ ∀ m, m < n → s.mayAct m = true → s.frameless m = false))
    ∧ (∀ (s : State) (n : Nat),
      (s.mayAct n = true ↔ s.stepState n = .awaiting ∧ s.runState = .running ∧ s.hasRecord (s.step n).station = false)
      ∧ (s.frameless n = true ↔ (s.step n).action = some .release ∨ (s.step n).action = some .mark
        ∨ ((s.step n).action = some .restore ∧ s.confirmedIn (s.step n).station (s.step n).first (s.step n).last = [])))
    ∧ (∀ (s : State) (n : Nat), n < 96 →
      let r := s.step n
      let a := r.station
      let held : Prop := (s.station a).state = .held ∨ (s.station a).state = .restoring
      let t := s.completeFrameless n
      t.entry n = { s.entry n with state := if r.settle = 0 then .done else .settling
                                   settle := if r.settle = 0 then none else some (s.later (r.settle * 10)) }
        ∧ t.run = s.run ∧ t.queues = s.queues ∧ t.points = s.points ∧ (∀ b, b ≠ a → t.station b = s.station b)
        ∧ (r.action ≠ some .release ∨ ¬ held ∨ s.queue a ≠ [] →
          t.slots = s.slots ∧ t.contributions = s.contributions ∧ ∀ m, m ≠ n → t.entry m = s.entry m)
        ∧ (r.action ≠ some .release ∨ ¬ held → t.stations = s.stations)
        ∧ (r.action = some .release → held → s.queue a ≠ [] → t.station a = { s.station a with state := .draining })
        ∧ (r.action = some .release → held → s.queue a = [] → (s.station a).faultPending = false →
          t.station a = { s.station a with state := .online, member := false }
          ∧ ((s.station a).member = true → s.run.inProgress = true → ∀ m, m ≠ n → (s.step m).used = true →
            (s.step m).station = a →
            ((s.entry m).state = .pending ∨ (s.entry m).state = .awaiting ∨ (s.entry m).state = .issued →
              (t.entry m).state = .skipped)
            ∧ ((s.entry m).state = .settling → t.entry m = s.entry m))))
    ∧ (∀ s t : State, s.grantMoment t = true ↔ (∃ n, s.stepState n ≠ .awaiting ∧ t.stepState n = .awaiting)
      ∨ (∃ i r, i < 8 ∧ s.slot i = some r ∧ ∀ r', t.slot i = some r' → r'.step ≠ r.step ∨ r'.frameIndex ≠ r.frameIndex)
      ∨ (s.runState ≠ .running ∧ t.runState = .running) ∨ ∃ f, s.headOf f ≠ t.headOf f)
    ∧ (∀ s t : State, t.settle = State.followUp true t ∧ s.settleFrom t = State.followUp (s.grantMoment t) t)
    ∧ (∀ (due : Bool) (s : State), s.run.inProgress = true →
      let u := s.evaluateAll
      let due' : Bool := due || s.grantMoment u
      (∀ n, u.nextFrameless = some n →
        let w := u.completeFrameless n
        State.followUp due s = State.followUp (due' || u.grantMoment w) w)
      ∧ (u.nextFrameless = none → due' = false → State.followUp due s = u.testRunEnd)
      ∧ (u.nextFrameless = none → due' = true →
        let v := (u.markWait .a).markWait .b
        (∀ i n, v.nextGrant = some (i, n) → State.followUp due s = (v.grant i n).settle)
        ∧ (v.nextGrant = none → State.followUp due s = v.testRunEnd)))
    ∧ (∀ (s : State) (f : Feed),
      (s.metered f = true ↔ ∃ r ∈ s.stations.toList, r.config.role = .meter ∧ r.config.meterFeed.feed = some f)
      ∧ s.estimate f =
        (match (s.feed f).measured with
          | some m => if s.metered f then max (s.feed f).standing m else (s.feed f).standing
          | none => (s.feed f).standing)
        + ((s.contributions.filter (fun c => c.feed = f)).map (fun c =>
            if c.elapsed < c.ramp then c.steady + ((c.peak - c.steady) * (c.ramp - c.elapsed) + c.ramp - 1) / c.ramp
            else c.steady)).sum)
    ∧ (∀ (due : Bool) (s : State), (s.run.inProgress = true → (State.followUp due s).nextFrameless = none)
      ∧ s.settle.nextGrant = none)
    ∧ ∀ (c : Instr) (s t : State), s.FBusy → EngineEvent s c → exec c s = .next t →
      t.nextFrameless = none
      ∧ (s.grantMoment t = true ∨ c = .sliceExpiry ∨ (∃ i, c = .closingDeadlineExpiry i) → t.nextGrant = none)

/-! ## Timers -/

/-- A reply timeout with retries left: the attempt is outstanding no more, a new one of a seq of the band that the record does not
hold is ready, and "step retries" is counted. With no retries left it fails the step NO-REPLY, raises "step failed", counts no
retry, and the record goes to CLOSING for one more reply timeout. The step's PENDING dependents become SKIPPED. A failed ESSENTIAL
step halts the run, with "halted" and its number unless it is halted already, and faults its station, which leaves the run. An
expiry of a slot without an outstanding attempt's deadline changes nothing (the model's choice, log 4). A retry is no moment of a
grant test. -/
def Obligations.ReplyTimeoutRetriesOrFails : Prop :=
  (∀ (s : State) (i : Nat) (r : InjectionRecord), BandKept s → s.slot i = some r → r.closing = false →
     r.repollWait = false → r.outstanding.isSome = true → r.deadline.isSome = true →
     r.attempts.length < 1 + (s.step r.step).retries →
     (∃ q, inBand q ∧ q ∉ r.attempts ∧ (s.timeOut i r).slot i = some
       { r with outstanding := none, deadline := none, attempts := r.attempts ++ [q], ready := some q }
       ∧ (s.FBusy → ∃ t, exec (.replyTimeout i) s = .next t ∧ t.slot i = some
         { r with outstanding := none, deadline := none, attempts := r.attempts ++ [q], ready := some q }
         ∧ (let u := State.followUp false { s.setSlot i (some { r with
              outstanding := none, deadline := none, attempts := r.attempts ++ [q], ready := some q }) with
                injectionSeq := if q = 255 then 224 else q + 1 }
           SameRun t u ∧ t.feedA = u.feedA ∧ t.feedB = u.feedB)))
     ∧ ∃ t, exec (.replyTimeout i) s = .next t ∧ Untouched s t
       ∧ ∀ c, t.counter c = if c = .stepRetries then counted (s.counter c) else s.counter c)
    ∧ ((∀ (s : State) (i : Nat) (r : InjectionRecord), s.FBusy → s.slot i = some r → r.step < 96 → r.closing = false →
       r.repollWait = false → r.outstanding.isSome = true → r.deadline.isSome = true →
       1 + (s.step r.step).retries ≤ r.attempts.length →
       ∃ t, exec (.replyTimeout i) s = .next t ∧ Untouched s t ∧ t.counters = s.counters
         ∧ (t.entry r.step).state = .failed ∧ (t.entry r.step).cause = .noReply
         ∧ (t.entry r.step).attempts = (s.entry r.step).attempts ∧ t.isPending .stepFailed = true
         ∧ t.slot i = some { r with closing := true, outstanding := none, ready := none
                                    deadline := some (s.later (s.step r.step).replyTimeout) }
         ∧ ((s.step r.step).used = true → ∀ m, m ≠ r.step → (s.step m).used = true → (s.entry m).state = .pending →
           r.step ∈ (s.step m).preds → (t.entry m).state = .skipped)
         ∧ ((s.step r.step).criticality = .ordinary → t.run.inProgress = true → t.run.halting = s.run.halting)
         ∧ ((s.step r.step).criticality = .essential →
           let b := (s.step r.step).station
           let x := s.station b
           (s.run.halting = none → t.isPending .halted = true)
           ∧ (t.run.inProgress = true → t.run.halting = some (s.run.halting.getD r.step))
           ∧ ((x.state = .held ∨ x.state = .restoring) → s.queue b = [] → (t.station b).state = .faulted
             ∧ (t.station b).faultCause = some .essentialStep ∧ t.isPending .faulted = true)
           ∧ (((x.state = .held ∨ x.state = .restoring) ∧ s.queue b ≠ []) ∨ (x.state = .draining ∧ x.faultPending = false) →
             (t.station b).state = .draining ∧ (t.station b).faultPending = true
             ∧ (t.station b).faultCause = some .essentialStep)
           ∧ (x.state = .held ∨ x.state = .restoring ∨ (x.state = .draining ∧ x.faultPending = false) →
             (t.station b).member = false
             ∧ (x.member = true → s.run.inProgress = true → ∀ m, m ≠ r.step → (s.step m).used = true → (s.step m).station = b →
               ((s.entry m).state = .awaiting ∨ (s.entry m).state = .issued ∨ (s.entry m).state = .settling →
                 (t.entry m).state = .skipped)
               ∧ ((s.entry m).state = .pending → (t.entry m).state.terminal = true)))))
       ∧ ∀ (s : State) (i : Nat), s.FQuiet →
         (∀ r, s.slot i = some r → r.closing = true ∨ r.repollWait = true ∨ r.outstanding = none ∨ r.deadline = none) →
         exec (.replyTimeout i) s = .next s.sArbiter)

/-- At its deadline a CLOSING record closes without counting: its slot falls free, or, in a run, an OPEN record of its step's
further RESTORE frame takes the slot, with frame index one above, the new starting channel and a first attempt of the next seq of
the band. The Run Engine then goes on from the state so pinned; outside a run nothing else changes. In every case no counter and no
step that is terminal changes. The end of a re-poll wait: the poll count rises by 1 and a new attempt of the band, of a seq that the
record did not hold (log 16), is made with a new list. At its settle timer's expiry a SETTLING step becomes DONE, the rest of its
entry kept, and the Run Engine's follow-up comes. The expiry of a timer that stands stopped changes nothing (the model's choice, log
4). -/
def Obligations.EngineTimersAct : Prop :=
  ((∀ (s : State) (i : Nat) (r : InjectionRecord), s.run.inProgress = false → s.FBusy → s.slot i = some r →
       r.closing = true → r.deadline.isSome = true → r.further = none →
       exec (.closingDeadlineExpiry i) s = .next (s.setSlot i none).sArbiter)
       ∧ (∀ (s : State) (i : Nat) (r : InjectionRecord), s.FBusy → s.slot i = some r → r.closing = true →
         r.deadline.isSome = true → (r.further.isSome = true → s.run.inProgress = true) →
         let w : State := match r.further with
           | none => s.setSlot i none
           | some c =>
             { s.setSlot i (some
                 { station := (s.step r.step).station, step := r.step, closing := false, frameIndex := r.frameIndex + 1
                   startChannel := c, attempts := [s.injectionSeq], outstanding := none, ready := some s.injectionSeq
                   deadline := none, pollCount := 1, repollWait := false, builtHighest := none, further := none }) with
               injectionSeq := if s.injectionSeq = 255 then 224 else s.injectionSeq + 1 }
         ∃ t, exec (.closingDeadlineExpiry i) s = .next t ∧ SameRun t w.settle
           ∧ t.feedA = w.settle.feedA ∧ t.feedB = w.settle.feedB ∧ t.queues = w.settle.queues)
       ∧ (∀ (s : State) (i : Nat), s.FBusy → ∃ t, exec (.closingDeadlineExpiry i) s = .next t ∧ Untouched s t
         ∧ t.counters = s.counters ∧ ∀ n, (s.entry n).state.terminal = true → t.entry n = s.entry n)
       ∧ ∀ (s : State) (i : Nat), s.FQuiet → (∀ r, s.slot i = some r → r.closing = false ∨ r.deadline = none) →
         exec (.closingDeadlineExpiry i) s = .next s.sArbiter)
    ∧ ((∀ (s : State) (i : Nat) (r : InjectionRecord), BandKept s → s.FBusy → s.slot i = some r → r.closing = false →
       r.repollWait = true → ∃ q, inBand q ∧ q ∉ r.attempts ∧
         exec (.repollWaitExpiry i) s = .next (State.sArbiter { s.setSlot i (some
           { r with pollCount := r.pollCount + 1, repollWait := false, deadline := none, attempts := [q], ready := some q }) with
           injectionSeq := if q = 255 then 224 else q + 1 }))
       ∧ ∀ (s : State) (i : Nat), s.FQuiet → (∀ r, s.slot i = some r → r.closing = true ∨ r.repollWait = false) →
         exec (.repollWaitExpiry i) s = .next s.sArbiter)
    ∧ ((∀ (s : State) (n : Nat), s.FBusy → (s.entry n).state = .settling → (s.entry n).settle.isSome = true →
       ∃ t, exec (.settleExpiry n) s = .next t ∧ Untouched s t ∧ t.counters = s.counters
         ∧ t.entry n = { s.entry n with state := .done, settle := none }
         ∧ SameRun t (s.settleFrom (s.setEntry n { s.entry n with state := .done, settle := none }))
         ∧ ∀ m, m ≠ n → (s.entry m).state.terminal = true → t.entry m = s.entry m)
       ∧ ∀ (s : State) (n : Nat), s.FQuiet → ((s.entry n).state ≠ .settling ∨ (s.entry n).settle = none) →
         exec (.settleExpiry n) s = .next s.sArbiter)

/-- The choice of the last held frame of a DRAINING station ends its drain: the station is ONLINE, or FAULTED with "faulted" when a
fault is pending, its cause kept, and no member. A member's PENDING, AWAITING and ISSUED steps become SKIPPED, and a SETTLING one
goes on settling. -/
def Obligations.DrainEndLeavesTheRun : Prop :=
  ∀ (s : State) (a : Nat) (f : Frame), s.wireF.isSome = true → (State.fLeaves s).fChoice = some (.drain a) → s.queue a = [f] →
    let x := s.station a
    ∃ t, exec .fTransmitComplete s = .next t ∧ t.wireF = some { frame := f, source := .drain } ∧ t.queue a = []
      ∧ t.lastDrain = a ∧ t.drainGuard = 0
      ∧ (t.station a).state = (if x.faultPending then .faulted else .online)
      ∧ (x.faultPending = true → t.isPending .faulted = true)
      ∧ (t.station a).member = false ∧ (t.station a).faultPending = false ∧ (t.station a).faultCause = x.faultCause
      ∧ (x.member = true → s.run.inProgress = true → ∀ n, (s.step n).used = true → (s.step n).station = a →
        ((s.entry n).state = .pending ∨ (s.entry n).state = .awaiting ∨ (s.entry n).state = .issued →
          (t.entry n).state = .skipped)
        ∧ ((s.entry n).state = .settling → t.entry n = s.entry n))
      ∧ ∀ b, b ≠ a → t.queue b = s.queue b

/-- After a slice, a timer's expiry or an absorbed frame a run in progress has ended exactly when no used step is AWAITING, ISSUED
or SETTLING, no record is OPEN and every used step of a member is finished. The end raises "ended", clears halt, causes and members,
leaves no member HELD or RESTORING, and gives the outcome: COMPLETE-WITH-FAILURES when a used step is FAILED, else COMPLETE. -/
def Obligations.RunEndsWithItsOutcome : Prop :=
  ∀ (c : Instr) (s t : State), s.FBusy → s.run.inProgress = true → EngineEvent s c → exec c s = .next t →
    (t.run.inProgress = true →
      (∃ n, t.stepState n = .awaiting ∨ t.stepState n = .issued ∨ t.stepState n = .settling)
        ∨ (∃ i r, t.slot i = some r ∧ r.closing = false)
        ∨ ∃ n, (t.step n).used = true ∧ (t.station (t.step n).station).member = true ∧ (t.entry n).state.terminal = false)
    ∧ (t.run.inProgress = false →
      t.run = { s.run with inProgress := false, halting := none, causes := .empty, lastOutcome := t.run.lastOutcome }
      ∧ ((∃ n, t.stepState n = .failed) → t.run.lastOutcome = .completeWithFailures)
      ∧ ((∀ n, t.stepState n ≠ .failed) → t.run.lastOutcome = .complete)
      ∧ (∀ n, t.stepState n ≠ .awaiting ∧ t.stepState n ≠ .issued ∧ t.stepState n ≠ .settling)
      ∧ (∀ i r, t.slot i = some r → r.closing = true)
      ∧ t.isPending .ended = true ∧ (∀ a, (t.station a).member = false)
      ∧ ∀ a, (s.station a).member = true → (t.station a).state ≠ .held ∧ (t.station a).state ≠ .restoring)

/-- A slice, in a run or outside one: running contributions below their ramp rise by 1; the ramp-complete ones on unmetered feeds
are folded into the standing load, which stops at 16383, with the fold-saturated mark and "fold saturated" where it would rise
above; the others stay in their order; a metered feed whose reading is more than 5 s old takes its stale mark, with "meter stale"
when it was not stale; so stands `u`. Then the waits are counted (log 14) and the Run Engine goes on, which outside a run changes
nothing. -/
def Obligations.SliceAdvancesAndFolds : Prop :=
  ∀ s : State, s.FBusy → (∀ f, (s.feed f).standing ≤ 16383) →
    ∃ u t : State, exec .sliceExpiry s = .next t ∧ Untouched { s with sliceDeadline := s.sliceDeadline + 10 } t
      ∧ t.counters = s.counters ∧ t.queues = s.queues
      ∧ u = { s with sliceDeadline := s.sliceDeadline + 10, contributions := u.contributions, feedA := u.feedA, feedB := u.feedB
                     noticePending := u.noticePending }
      ∧ SameRun t u.countWaits.settle ∧ t.feedA = u.countWaits.settle.feedA ∧ t.feedB = u.countWaits.settle.feedB
      ∧ (s.run.inProgress = false → SameRun t u ∧ t.feedA = u.feedA ∧ t.feedB = u.feedB)
      ∧ (let moved := s.contributions.map (fun c =>
          if c.running = true ∧ c.elapsed < c.ramp then { c with elapsed := c.elapsed + 1 } else c)
        let folded (c : Contribution) : Bool := decide (c.ramp ≤ c.elapsed) && !s.metered c.feed
        u.contributions = moved.filter (fun c => !folded c)
          ∧ ∀ f,
            let sum := (s.feed f).standing + ((moved.filter (fun c => folded c && decide (c.feed = f))).map Contribution.steady).sum
            let late : Prop := s.metered f = true ∧ (s.feed f).measured.isSome = true
              ∧ 500 < (s.bridgeTime - (s.feed f).measuredTime).toNat
            u.feed f = { s.feed f with standing := min 16383 sum, foldSaturated := (s.feed f).foldSaturated || decide (16383 < sum)
                                       stale := (u.feed f).stale }
            ∧ ((u.feed f).stale = true ↔ (s.feed f).stale = true ∨ late)
            ∧ (16383 < sum → t.isPending .foldSaturated = true)
            ∧ (late → (s.feed f).stale = false → t.isPending .meterStale = true))

/-- At a slice expiry the wait of a feed's head whose test is made and fails rises by 1, its wait start set at the first failure;
above the admission wait limit the head fails OVER-BUDGET with "admission timeout". A head that passes, or whose test is not made,
does not wait. With heads on both feeds the lower step is taken first: `v` is the state after it, its failure taken with all its
effects, and the higher step is tested, counted or failed in `v`, where an ESSENTIAL failure has halted the run and no test is made.
That a step no longer head in `v` is passed over is the reading of log 14. -/
def Obligations.AdmissionWaitIsCounted : Prop :=
  ∀ (s : State) (f : Feed) (n : Nat), s.FBusy →
    let u := ((State.foldContributions (State.advanceContributions
      { s with sliceDeadline := s.sliceDeadline + 10 })).testStale .a).testStale .b
    let tested (x : State) (k : Nat) : Prop :=
      x.runState = .running ∧ x.hasRecord (x.step k).station = false ∧ x.needsFrame k = true
    let room (x : State) (h : Feed) (k : Nat) : Prop :=
      x.estimate h + (x.step k).peak ≤ (x.feed h).budget ∧ x.contributions.length < 96
    let beyond (x : State) (h : Feed) : Prop := x.settings.admissionLimit * 10 < (x.feed h).waitCount + 1
    let raised (x : State) (h : Feed) : State := x.setFeedRecord h { x.feed h with
      waitStart := some ((x.feed h).waitStart.getD x.bridgeTime), waitCount := (x.feed h).waitCount + 1 }
    let timedOut (x : State) (k : Nat) : Prop :=
      (x.entry k).state = .failed ∧ (x.entry k).cause = .overBudget ∧ (x.entry k).attempts = (s.entry k).attempts
        ∧ x.isPending .admissionTimeout = true ∧ x.counters = s.counters
    s.headOf f = some n →
    ((∀ g, g ≠ f → s.headOf g = none) →
      (tested s n → ¬ room u f n → beyond s f → ∃ t, exec .sliceExpiry s = .next t ∧ timedOut t n)
      ∧ (tested s n → ¬ room u f n → ¬ beyond s f → u.countWaits = raised u f)
      ∧ ((¬ tested s n ∨ room u f n) → u.countWaits = u))
    ∧ ∀ (g : Feed) (m : Nat), g ≠ f → s.headOf g = some m → n < m →
      (tested s n → ¬ room u f n → beyond s f → ∃ t, exec .sliceExpiry s = .next t ∧ timedOut t n)
      ∧ ∃ v : State,
        ((¬ tested s n ∨ room u f n) → v = u)
        ∧ (tested s n → ¬ room u f n → ¬ beyond s f → v = raised u f)
        ∧ (tested s n → ¬ room u f n → beyond s f → timedOut v n
          ∧ ((s.step n).criticality = .ordinary → (∀ c ∈ s.contributions, c.step ≠ n) →
            v = (((raised u f).setEntry n { s.entry n with
              state := .failed, cause := .overBudget, nak := 0 }).raise .admissionTimeout).evaluateAll.settle)
          ∧ ((s.step n).criticality = .essential → v.runState ≠ .running ∧ v.isPending .halted = true))
        ∧ ((v.headOf g ≠ some m ∨ ¬ tested v m ∨ room v g m) → u.countWaits = v)
        ∧ (v.headOf g = some m → tested v m → ¬ room v g m → ¬ beyond v g → u.countWaits = raised v g)
        ∧ (v.headOf g = some m → tested v m → ¬ room v g m → beyond v g → timedOut u.countWaits m
          ∧ ∃ t, exec .sliceExpiry s = .next t ∧ timedOut t m)

/-- The silence timer's expiry makes the monitor silent and starts the second timer from 0; FREEZE adds SILENCE to a run in progress
and suppresses the automatic start, CONTINUE does not. The second timer counts the duration to 65535. The expiry of a timer that
stands stopped changes nothing (the model's choice, log 4). -/
def Obligations.SilenceIsCounted : Prop :=
  (∀ s : State, s.silence.timer.isSome = true → s.FBusy → ∃ t, exec .silenceTimerExpiry s = .next t
      ∧ t.silence.timer = none ∧ t.silence.silent = true ∧ t.silence.duration = 0
      ∧ t.silence.second = some (s.bridgeTime + 100) ∧ t.isPending .silent = true
      ∧ t.stations = s.stations ∧ t.entries = s.entries ∧ t.slots = s.slots ∧ t.points = s.points
      ∧ t.counters = s.counters ∧ t.settings = s.settings
      ∧ (s.settings.silenceResponse = .freeze → t.silence.suppress = true
        ∧ (s.run.inProgress = true → t.run = { s.run with causes := { s.run.causes with silence := true } }
          ∧ (s.run.causes = .empty → t.isPending .suspended = true))
        ∧ (s.run.inProgress = false → t.run = s.run))
      ∧ (s.settings.silenceResponse = .cont → t.run = s.run ∧ t.silence.suppress = s.silence.suppress))
    ∧ (∀ s : State, s.silence.silent = true → s.silence.second.isSome = true → s.FQuiet →
      exec .secondTimerExpiry s = .next (State.sArbiter { s with silence := { s.silence with
        duration := if s.silence.duration < 65535 then s.silence.duration + 1 else 65535
        second := some (s.bridgeTime + 100) } }))
    ∧ (∀ s : State, (s.silence.silent = false ∨ s.silence.second = none) → s.FQuiet →
      exec .secondTimerExpiry s = .next s.sArbiter)
    ∧ ∀ s : State, s.silence.timer = none → s.FQuiet → exec .silenceTimerExpiry s = .next s.sArbiter

/-! ## Requests -/

/-- Each request row is the arrival of the REQUEST frame with its request code before its arguments; that the five PUT rows are all
code 3 is the model's choice (log 2). A REQUEST that arrives during the load or while a reset is pending is answered BUSY, with its
code echoed (0 for an empty one: the model's reading, log 27). A REQUEST that is empty, or whose code is not listed, is answered
UNKNOWN; a listed request of the wrong length is answered BAD-RECORD. None changes anything else than the silence timer. -/
def Obligations.TurnedAwayRequestsChangeNothing : Prop :=
  ((∀ (q : Byte) (a : List Byte) (s : State),
       [exec (.select q a) s, exec (.get q a) s, exec (.putStations q a) s, exec (.putPlan q a) s, exec (.putPayload q a) s,
        exec (.putSettings q a) s, exec (.putReadOnly q a) s, exec (.pointGet q a) s, exec (.pointList q a) s,
        exec (.pointPut q a) s, exec (.pointDrop q a) s, exec (.holdStation q a) s, exec (.releaseStation q a) s,
        exec (.clearStation q a) s, exec (.startRun q a) s, exec (.suspendRun q a) s, exec (.resumeRun q a) s,
        exec (.abortRun q a) s, exec (.runStatus q a) s, exec (.setFeed q a) s, exec (.readLine q a) s,
        exec (.readClearGroup q a) s, exec (.readCounters q a) s, exec (.store q a) s, exec (.warmReset q a) s,
        exec (.coldReset q a) s]
       = ([1, 2, 3, 3, 3, 3, 3, 8, 9, 10, 11, 16, 17, 18, 24, 25, 26, 27, 28, 32, 40, 41, 42, 48, 56, 57] : List Byte).map
         (fun code => exec (.sFrameArrival { station := 0, kind := 40, seq := q, payload := code :: a }) s))
       ∧ ∀ (s : State) (seq : Byte) (payload : List Byte), (s.loading = true ∨ s.resetPending.isSome = true) →
         s.silence.silent = false → s.replies.length < 16 → s.FQuiet →
         exec (.sFrameArrival { station := 0, kind := 40, seq := seq, payload := payload }) s
           = .next (s.answered seq (payload.headD 0) .busy false []).sArbiter)
    ∧ ((∀ (s : State) (seq : Byte), Ready s → s.FQuiet →
       exec (.unknownRequest seq []) s = .next (s.answered seq 0 .unknown false []).sArbiter)
       ∧ (∀ (s : State) (seq code : Byte) (args : List Byte), Ready s → s.FQuiet → code.toNat ∉ listedRequestCodes →
         exec (.unknownRequest seq (code :: args)) s = .next (s.answered seq code .unknown false []).sArbiter)
       ∧ ∀ (s : State) (seq : Byte) (args : List Byte), Ready s → s.FQuiet →
         (args ≠ [] →
           exec (.suspendRun seq args) s = .next (s.answered seq 25 .badRecord false []).sArbiter
           ∧ exec (.resumeRun seq args) s = .next (s.answered seq 26 .badRecord false []).sArbiter
           ∧ exec (.abortRun seq args) s = .next (s.answered seq 27 .badRecord false []).sArbiter
           ∧ exec (.runStatus seq args) s = .next (s.answered seq 28 .badRecord false []).sArbiter
           ∧ exec (.readLine seq args) s = .next (s.answered seq 40 .badRecord false []).sArbiter
           ∧ exec (.readCounters seq args) s = .next (s.answered seq 42 .badRecord false []).sArbiter
           ∧ exec (.store seq args) s = .next (s.answered seq 48 .badRecord false []).sArbiter
           ∧ exec (.warmReset seq args) s = .next (s.answered seq 56 .badRecord false []).sArbiter
           ∧ exec (.coldReset seq args) s = .next (s.answered seq 57 .badRecord false []).sArbiter)
         ∧ (args.length ≠ 1 →
           exec (.holdStation seq args) s = .next (s.answered seq 16 .badRecord false []).sArbiter
           ∧ exec (.releaseStation seq args) s = .next (s.answered seq 17 .badRecord false []).sArbiter
           ∧ exec (.clearStation seq args) s = .next (s.answered seq 18 .badRecord false []).sArbiter
           ∧ exec (.readClearGroup seq args) s = .next (s.answered seq 41 .badRecord false []).sArbiter)
         ∧ (args.length ≠ 2 →
           exec (.pointGet seq args) s = .next (s.answered seq 8 .badRecord false []).sArbiter
           ∧ exec (.pointList seq args) s = .next (s.answered seq 9 .badRecord false []).sArbiter
           ∧ exec (.pointDrop seq args) s = .next (s.answered seq 11 .badRecord false []).sArbiter)
         ∧ (args.length ≠ 3 → exec (.select seq args) s = .next (s.answered seq 1 .badRecord false []).sArbiter)
         ∧ (args.length ≠ 5 →
           exec (.pointPut seq args) s = .next (s.answered seq 10 .badRecord false []).sArbiter
           ∧ exec (.setFeed seq args) s = .next (s.answered seq 32 .badRecord false []).sArbiter))

/-- SELECT: an undefined table or mode code is BAD-RECORD, an index outside the table BAD-INDEX, either with the cursor unchanged;
otherwise the cursor takes table, index and mode, in every run state and while a STORE is in progress. The cursor so placed, and one
that advances, stays within its table's indexes (R178). -/
def Obligations.SelectPlacesTheCursor : Prop :=
  (∀ (s : State) (seq table index mode : Byte), Ready s → s.FQuiet →
    exec (.select seq [table, index, mode]) s = .next (State.sArbiter (
      match readTable table, readAdvanceMode mode with
      | some t, some m =>
        if t.range.1 ≤ index.toNat ∧ index.toNat ≤ t.range.2 then
          State.answered { s with cursor := { table := t, index := index.toNat, mode := m } } seq 1 .done false [table, index]
        else s.answered seq 1 .badIndex false []
      | _, _ => s.answered seq 1 .badRecord false [])))
    ∧ (∀ (s t : State) (seq : Byte) (args : List Byte), s.cursor.InRange → exec (.select seq args) s = .next t →
      t.cursor.InRange)
    ∧ ∀ c : Cursor, c.InRange → c.advance.1.InRange

/-- The reads change nothing but the cursor and the silence timer: GET answers the table, the index and the record and moves the
cursor in mode EVERY (on PAYLOAD only after part 1, or part 0 of at most 24 bytes), with the mark at a wrap; POINT-GET and
POINT-LIST answer the records of their station; RUN-STATUS answers its block. The read encodings of every table, of a point and of
the run status block are those of section 1.8, numbers high byte first, absent values 0 (an absent head or halting step 255). -/
def Obligations.ReadsAnswerTheRecord : Prop :=
  ∀ (s : State) (seq : Byte), Ready s → s.FQuiet →
    (∀ args data, s.getData args = some data → exec (.get seq args) s = .next (State.sArbiter (
      let moves := s.cursor.mode = .every ∧
        (s.cursor.table = .payload → args = [1] ∨ (s.payload s.cursor.index).length ≤ 24)
      let wraps := moves ∧ s.cursor.table.range.2 ≤ s.cursor.index
      State.answered { s with cursor := { s.cursor with index :=
          if wraps then s.cursor.table.range.1 else if moves then s.cursor.index + 1 else s.cursor.index } }
        seq 2 .done (decide wraps) (s.cursor.table.code :: byte s.cursor.index :: data))))
    ∧ (∀ args, s.getData args = none → exec (.get seq args) s = .next (s.answered seq 2 .badRecord false []).sArbiter)
    ∧ (∀ a c : Byte, exec (.pointGet seq [a, c]) s = .next (State.sArbiter (
      if 1 ≤ a.toNat ∧ a.toNat ≤ 126 then
        s.answered seq 8 .done false (match s.findPoint a.toNat c.toNat with
          | some p => 1 :: p.encode
          | none => [0])
      else s.answered seq 8 .badIndex false [])))
    ∧ (∀ a c : Byte, exec (.pointList seq [a, c]) s = .next (State.sArbiter (
      if 1 ≤ a.toNat ∧ a.toNat ≤ 126 then
        let ps := s.confirmedIn a.toNat c.toNat 255
        s.answered seq 9 .done false
          ([byte (min 14 ps.length), if 14 < ps.length then 1 else 0] ++ pointBytes (ps.take 14))
      else s.answered seq 9 .badIndex false [])))
    ∧ exec (.runStatus seq []) s = .next (s.answered seq 28 .done false s.runStatusBlock).sArbiter
    ∧ s.runStatusBlock =
      [if s.run.inProgress then (if s.run.halting.isSome then 3 else if s.run.causes = .empty then 1 else 2) else 0, s.run.number,
        (match s.run.halting with | some n => byte n | none => 255),
        flag s.run.causes.management + 2 * flag s.run.causes.alert + 4 * flag s.run.causes.silence]
        ++ bytes4 s.run.startTime
        ++ ([.done, .failed, .skipped, .notApplicable] : List StepState).map (fun x =>
            byte (((List.range 96).filter (fun n => (s.step n).used && decide ((s.entry n).state = x))).length))
        ++ [s.run.lastOutcome.code, s.imageStatus.code, flag s.storing.isSome,
            byte ((s.stations.toList.filter (fun r => r.member)).length)]
    ∧ (let i := s.cursor.index
      (s.cursor.table = .stations → s.getData [] = some (
        let r := s.station i
        [r.config.role.code, r.config.meterFeed.code, byte r.config.meterChannel, r.config.holdPolicy.code,
          byte r.config.holdQuota, byte r.config.retentionQuota, flag r.config.autoRun, r.state.code, flag r.member,
          (match r.faultCause with | none => 0 | some .storm => 1 | some .essentialStep => 2), flag r.faultPending,
          byte (s.queue i).length, byte (min 255 (s.points.filter (fun p => p.station = i)).length)]))
      ∧ (s.cursor.table = .plan → s.getData [] = some (
        let r := s.step i
        [flag r.used, byte r.station, actionCode r.action] ++ r.params ++ [byte r.predCount] ++ r.predecessors.map byte
          ++ [r.feed.code] ++ bytes2 r.peak ++ bytes2 r.steady ++ [byte r.ramp] ++ bytes2 r.settle
          ++ [byte r.replyTimeout, byte r.retries, r.criticality.code, r.causeMask]))
      ∧ (s.cursor.table = .payload →
        let p := s.payload i
        s.getData [0] = some ([0, flag p.used, p.kind.code, byte p.length] ++ p.data.take 24)
        ∧ s.getData [1] = some (1 :: p.data.drop 24))
      ∧ (s.cursor.table = .feeds → s.getData [] = some (
        let f : Feed := if i = 0 then .a else .b
        let r := s.feed f
        bytes2 r.budget ++ bytes2 r.standing
          ++ (match r.measured with | some m => 1 :: bytes2 m | none => [0, 0, 0]) ++ bytes4 r.measuredTime
          ++ [flag (s.metered f), (match r.head with | some n => byte n | none => 255)]
          ++ (match r.waitStart with | some x => bytes4 x | none => [0, 0, 0, 0]) ++ [flag r.foldSaturated]
          ++ [byte ((s.contributions.filter (fun c => c.feed = f)).length)] ++ bytes2 (min 65535 (s.estimate f))))
      ∧ (s.cursor.table = .history → s.getData [] = some (
        let h := (s.station i).history
        byte h.length :: (h.flatMap (fun e => bytes4 e.time ++ [e.cause, flag e.kept])
          ++ List.replicate (6 * (4 - h.length)) 0)))
      ∧ (s.cursor.table = .stepState → s.getData [] = some (
        if (s.step i).used then [(s.entry i).state.code, (s.entry i).cause.code, (s.entry i).nak, byte (s.entry i).attempts]
        else [0, 0, 0, byte (s.entry i).attempts]))
      ∧ (s.cursor.table = .settings → s.getData [] = some (
        let x := s.settings
        [byte x.silenceTime, x.silenceResponse.code, byte x.noticeSpacing] ++ bytes2 x.stormWindow
          ++ [byte x.admissionLimit, x.groupEnables] ++ (List.range 8).map (fun g => getAt x.eventEnables g 0))))
    ∧ (∀ p : PointRecord, p.encode =
      [byte p.channel, flag p.confirmed.isSome + 2 * flag p.pending.isSome + 4 * flag p.pinned] ++ bytes2 (p.confirmed.getD 0)
        ++ (match p.pending with | some x => bytes2 x.value ++ [x.seq] | none => [0, 0, 0]))
    ∧ (∀ n : Nat, bytes2 n = [byte (n / 256), byte n])
    ∧ (∀ b : BridgeTime, bytes4 b = [byte (b.toNat / 16777216), byte (b.toNat / 65536), byte (b.toNat / 256), byte b.toNat])
    ∧ ([.none, .vent, .light, .meter, .other] : List Role).map Role.code = [0, 1, 2, 3, 4]
    ∧ ([.none, .a, .b] : List FeedChoice).map FeedChoice.code = [0, 1, 2]
    ∧ ([.never, .onLoss, .always] : List HoldPolicy).map HoldPolicy.code = [0, 1, 2]
    ∧ ([.unlisted, .online, .held, .restoring, .draining, .faulted, .overridden] : List StationState).map StationState.code
      = [0, 1, 2, 3, 4, 5, 6]
    ∧ ([none, some .restore, some .fixedSet, some .order, some .await, some .release, some .mark] : List (Option Action)).map
      actionCode = [0, 1, 2, 3, 4, 5, 6]
    ∧ ([.ordinary, .essential] : List Criticality).map Criticality.code = [0, 1]
    ∧ ([.set, .order] : List PayloadKind).map PayloadKind.code = [10, 11]
    ∧ ([.idle, .pending, .awaiting, .issued, .settling, .done, .failed, .skipped, .notApplicable] : List StepState).map
      StepState.code = [0, 1, 2, 3, 4, 5, 6, 7, 8]
    ∧ ([.none, .noReply, .refused, .outOfRange, .overBudget] : List FailureCause).map FailureCause.code = [0, 1, 2, 3, 4]
    ∧ ([.none, .complete, .completeWithFailures, .aborted, .abortedByReset] : List RunOutcome).map RunOutcome.code
      = [0, 1, 2, 3, 4]
    ∧ ([.loaded, .fault, .stored] : List ImageStatus).map ImageStatus.code = [0, 1, 2]
    ∧ ([.freeze, .cont] : List SilenceResponse).map SilenceResponse.code = [0, 1]

/-- READ-LINE returns the line quality and the latched causes of both ports, and the silent duration, and clears the causes;
READ-CLEAR-GROUP returns every pending flag of its group and clears exactly those, BAD-INDEX above 7; READ-COUNTERS returns the 16
counters and sets each to 0. Nothing else changes, in every run state and while a STORE is in progress (R17, R193, R195). -/
def Obligations.ReadAndClearIsOneEvent : Prop :=
  ∀ (s : State) (seq : Byte), Ready s → s.FQuiet →
    exec (.readLine seq []) s = .next (State.sArbiter (State.answered
      { s with portS := { s.portS with causes := .clear }, portF := { s.portF with causes := .clear } } seq 40 .done false
      ([s.portS.quality.code, s.portS.causes.code, s.portF.quality.code, s.portF.causes.code]
        ++ bytes2 s.silence.duration)))
    ∧ (∀ g : Byte, 7 < g.toNat →
      exec (.readClearGroup seq [g]) s = .next (s.answered seq 41 .badIndex false []).sArbiter)
    ∧ (∀ g : Byte, g.toNat ≤ 7 → ∃ t : State, exec (.readClearGroup seq [g]) s = .next (State.sArbiter t)
      ∧ t = State.answered { s with noticePending := t.noticePending } seq 41 .done false [g, s.pendingGroup g.toNat]
      ∧ ∀ h, t.pendingGroup h = if h = g.toNat then 0 else s.pendingGroup h)
    ∧ exec (.readCounters seq []) s = .next (State.sArbiter (State.answered
      { s with counters := Vector.replicate 16 0 } seq 42 .done false (s.counters.toList.map byte)))

/-- A PUT at STATIONS: BAD-RECORD for a bad format (a length other than 7, an undefined code), STORING while a STORE is in progress,
STATION-BUSY for a role change of a station neither ONLINE nor UNLISTED; otherwise the clamped configuration is written, a station
of role NONE goes from ONLINE to UNLISTED and a listed one from UNLISTED to ONLINE, and the cursor moves unless the mode is NONE. A
PUT at SETTINGS: BAD-RECORD for a bad format, STORING while a STORE is in progress; otherwise every value is written together after
clamping, in every run state. A PUT at a read-only table is answered BAD-RECORD. -/
def Obligations.PutWritesStationsAndSettings : Prop :=
  (∀ (s : State) (seq : Byte) (args : List Byte), Ready s → s.FBusy → s.cursor.table = .stations → s.cursor.InRange →
       (readStationConfig args = none →
         exec (.putStations seq args) s = .next (s.answered seq 3 .badRecord false []).sArbiter)
       ∧ ∀ c, readStationConfig args = some c →
         let a := s.cursor.index
         let r := s.station a
         let moved := if s.cursor.mode = .none then a else if a = 126 then 1 else a + 1
         (s.storing.isSome = true → exec (.putStations seq args) s = .next (s.answered seq 3 .refused false [4]).sArbiter)
         ∧ (s.storing = none → c.role ≠ r.config.role → r.state ≠ .online → r.state ≠ .unlisted →
           exec (.putStations seq args) s = .next (s.answered seq 3 .refused false [3]).sArbiter)
         ∧ (s.storing = none → (c.role = r.config.role ∨ r.state = .online ∨ r.state = .unlisted) →
           ∃ t, exec (.putStations seq args) s = .next t
             ∧ t.station a = { r with
                 config := { c with holdQuota := min c.holdQuota 32, retentionQuota := min c.retentionQuota 64 }
                 state := if c.role = .none then (if r.state = .online then .unlisted else r.state)
                          else if r.state = .unlisted then .online else r.state }
             ∧ (∀ b, b ≠ a → t.station b = s.station b)
             ∧ t.cursor = { s.cursor with index := moved } ∧ t.points = s.points ∧ t.queues = s.queues ∧ t.plan = s.plan
             ∧ t.run = s.run ∧ t.settings = s.settings ∧ t.counters = s.counters
             ∧ (s.SBusy → t.replies = s.replies ++ [{ isReset := false, frame := (answerFrame seq 3 .done
                 (decide (s.cursor.mode ≠ .none ∧ a = 126)) [1, byte a]) }])))
    ∧ (∀ (s : State) (seq : Byte) (args : List Byte), Ready s → s.FQuiet →
       (s.cursor.table = .settings →
         (readSettings args = none → exec (.putSettings seq args) s = .next (s.answered seq 3 .badRecord false []).sArbiter)
         ∧ ∀ x, readSettings args = some x →
           (s.storing.isSome = true → exec (.putSettings seq args) s = .next (s.answered seq 3 .refused false [4]).sArbiter)
           ∧ (s.storing = none → ∃ t, exec (.putSettings seq args) s = .next t
             ∧ t.settings.silenceTime = max 1 (min x.silenceTime 60) ∧ t.settings.silenceResponse = x.silenceResponse
             ∧ t.settings.noticeSpacing = max x.noticeSpacing 1 ∧ t.settings.stormWindow = max 10 (min x.stormWindow 600)
             ∧ t.settings.admissionLimit = max x.admissionLimit 1 ∧ t.settings.groupEnables = x.groupEnables
             ∧ (∀ g, g < 8 → getAt t.settings.eventEnables g 0 = getAt x.eventEnables g 0 &&& getAt Settings.allEvents g 0)
             ∧ t.silence = s.heard.silence ∧ t.counters = s.counters ∧ t.noticePending = s.noticePending
             ∧ t.stations = s.stations ∧ t.points = s.points ∧ t.plan = s.plan ∧ t.run = s.run ∧ t.spacing = s.spacing))
       ∧ (s.cursor.table = .feeds ∨ s.cursor.table = .history ∨ s.cursor.table = .stepState →
         exec (.putReadOnly seq args) s = .next (s.answered seq 3 .badRecord false []).sArbiter))
    ∧ (∀ args : List Byte, readStationConfig args = none ↔
      args.length ≠ 7 ∨ 4 < (args.getD 0 0).toNat ∨ 2 < (args.getD 1 0).toNat ∨ 2 < (args.getD 3 0).toNat
        ∨ 1 < (args.getD 6 0).toNat)
    ∧ ∀ args : List Byte, readSettings args = none ↔ args.length ≠ 15 ∨ 1 < (args.getD 1 0).toNat

/-- A PUT at PLAN: BAD-RECORD for a bad format, then STORING, then RUN-ACTIVE, then BAD-RECORD for a used step that fails its record
tests (station, predecessors and payload index in range, no feed on a frameless action); otherwise the step is written with P and S
to at most 16383 and S to at most P, a ramp, reply timeout or poll limit of 0 as 1, settle to at most 600, retries to at most 3, the
rest as given (the poll limit clamped for AWAIT alone: log 18), and its state entry reset. A PUT at PAYLOAD: BAD-RECORD, STORING,
RUN-ACTIVE, and otherwise one part is written, a length above 48 as 48. Either moves the cursor by its mode. -/
def Obligations.PutWritesPlanAndPayload : Prop :=
  (∀ (s : State) (seq : Byte) (args : List Byte), Ready s → s.FBusy → s.cursor.InRange →
     (s.cursor.table = .plan →
       (readStep args = none → exec (.putPlan seq args) s = .next (s.answered seq 3 .badRecord false []).sArbiter)
       ∧ ∀ r, readStep args = some r →
         (s.storing.isSome = true → exec (.putPlan seq args) s = .next (s.answered seq 3 .refused false [4]).sArbiter)
         ∧ (s.storing = none → s.run.inProgress = true →
           exec (.putPlan seq args) s = .next (s.answered seq 3 .refused false [1]).sArbiter)
         ∧ (s.storing = none → s.run.inProgress = false → r.badRecord s.cursor.index = true →
           exec (.putPlan seq args) s = .next (s.answered seq 3 .badRecord false []).sArbiter)
         ∧ (s.storing = none → s.run.inProgress = false → r.badRecord s.cursor.index = false →
           ∃ t, exec (.putPlan seq args) s = .next t ∧ t.step s.cursor.index = r.clamp
             ∧ (∀ m, m ≠ s.cursor.index → t.step m = s.step m ∧ t.entry m = s.entry m)
             ∧ t.entry s.cursor.index = .reset ∧ t.payloads = s.payloads ∧ t.stations = s.stations ∧ t.points = s.points
             ∧ t.counters = s.counters ∧ t.run = s.run ∧ t.slots = s.slots
             ∧ t.cursor.index = (if s.cursor.mode = .none then s.cursor.index
                 else if s.cursor.index = 95 then 0 else s.cursor.index + 1)))
     ∧ (s.cursor.table = .payload →
       let old := s.payload s.cursor.index
       (writePayload old args = none →
         exec (.putPayload seq args) s = .next (s.answered seq 3 .badRecord false []).sArbiter)
       ∧ ∀ p, writePayload old args = some p →
         (s.storing.isSome = true → exec (.putPayload seq args) s = .next (s.answered seq 3 .refused false [4]).sArbiter)
         ∧ (s.storing = none → s.run.inProgress = true →
           exec (.putPayload seq args) s = .next (s.answered seq 3 .refused false [1]).sArbiter)
         ∧ (s.storing = none → s.run.inProgress = false →
           ∃ t, exec (.putPayload seq args) s = .next t ∧ t.payload s.cursor.index = p
             ∧ (∀ m, m ≠ s.cursor.index → t.payload m = s.payload m) ∧ t.plan = s.plan ∧ t.entries = s.entries
             ∧ t.stations = s.stations ∧ t.points = s.points ∧ t.counters = s.counters ∧ t.run = s.run
             ∧ t.cursor.index = (if s.cursor.mode ≠ .none ∧ (args.headD 0 = 1 ∨ p.length ≤ 24) then
                 (if s.cursor.index = 63 then 0 else s.cursor.index + 1) else s.cursor.index))))
    ∧ (∀ r : StepRecord, r.clamp = { r with
      params := if r.action = some .await ∧ r.params.length = 6 ∧ r.params.getD 5 0 = 0 then r.params.take 5 ++ [1] else r.params
      peak := min r.peak 16383
      steady := min r.steady (min r.peak 16383)
      ramp := max r.ramp 1
      settle := min r.settle 600
      replyTimeout := max r.replyTimeout 1
      retries := min r.retries 3 })
    ∧ (∀ (r : StepRecord) (n : Nat), r.badRecord n = true ↔ r.used = true ∧
      (r.station = 0 ∨ 126 < r.station ∨ 4 < r.predCount ∨ (∃ p ∈ r.predecessors.take r.predCount, n ≤ p)
        ∨ ((r.action = some .release ∨ r.action = some .mark) ∧ r.feed ≠ .none)
        ∨ ((r.action = some .fixedSet ∨ r.action = some .order) ∧ 63 < (r.params.getD 0 0).toNat)))
    ∧ (∀ args : List Byte, readStep args = none ↔
      args.length ≠ 26 ∨ 1 < (args.getD 0 0).toNat ∨ (args.getD 2 0).toNat = 0 ∨ 6 < (args.getD 2 0).toNat
        ∨ 2 < (args.getD 14 0).toNat ∨ 1 < (args.getD 24 0).toNat)
    ∧ (∀ (args : List Byte) (r : StepRecord), readStep args = some r →
      let b (i : Nat) : Nat := (args.getD i 0).toNat
      flag r.used = args.getD 0 0 ∧ r.station = b 1 ∧ actionCode r.action = args.getD 2 0 ∧ r.params = (args.drop 3).take 6
        ∧ r.predCount = b 9 ∧ r.predecessors.take r.predCount = (((args.drop 10).take 4).map BitVec.toNat).take (b 9)
        ∧ r.feed.code = args.getD 14 0 ∧ r.peak = b 15 * 256 + b 16 ∧ r.steady = b 17 * 256 + b 18 ∧ r.ramp = b 19
        ∧ r.settle = b 20 * 256 + b 21 ∧ r.replyTimeout = b 22 ∧ r.retries = b 23 ∧ r.criticality.code = args.getD 24 0
        ∧ r.causeMask = args.getD 25 0)
    ∧ ∀ (old : PayloadRecord) (args : List Byte) (p : PayloadRecord), writePayload old args = some p ↔
      (args.length = 28 ∧ args.getD 0 0 = 0 ∧ flag p.used = args.getD 1 0 ∧ p.kind.code = args.getD 2 0
        ∧ p.length = min (args.getD 3 0).toNat 48 ∧ p.data = args.drop 4 ++ old.data.drop 24)
      ∨ (args.length = 25 ∧ args.getD 0 0 = 1 ∧ p = { old with data := old.data.take 24 ++ args.drop 1 })

/-- POINT-PUT: BAD-RECORD when the pinned field is neither 0 nor 1, whatever the station; then BAD-INDEX, STORING, FULL without room
for a new record, FULL when the record would become pinned beyond 256, in this order; otherwise the record holds the value given as
confirmed, no pending part and the pinned flag given, and no other record changes. POINT-DROP: BAD-INDEX, STORING; otherwise the
record, if any, is removed, and the Run Engine's follow-up comes in the same event, in which a waiting RESTORE step that has nothing
left to restore completes as frameless (the model's reading, log 32); the drop is no moment of a grant test. -/
def Obligations.PointWritesAct : Prop :=
  (∀ (s : State) (seq a c hi lo pin : Byte) (pinned : Bool), Ready s → s.FQuiet → PoolKept s → readFlag pin = some pinned →
    let old := s.findPoint a.toNat c.toNat
    let full := (old = none ∧ ¬ ((s.points.filter (fun p => p.station = a.toNat)).length
        < (s.station a.toNat).config.retentionQuota ∧ s.points.length < 1024))
      ∨ (pinned = true ∧ (∀ p, old = some p → p.pinned = false) ∧ 256 ≤ s.pinnedCount)
    ((a.toNat = 0 ∨ 126 < a.toNat) →
      exec (.pointPut seq [a, c, hi, lo, pin]) s = .next (s.answered seq 10 .badIndex false []).sArbiter)
    ∧ (validStation a.toNat = true → s.storing.isSome = true →
      exec (.pointPut seq [a, c, hi, lo, pin]) s = .next (s.answered seq 10 .refused false [4]).sArbiter)
    ∧ (validStation a.toNat = true → s.storing = none → full →
      exec (.pointPut seq [a, c, hi, lo, pin]) s = .next (s.answered seq 10 .refused false [5]).sArbiter)
    ∧ (validStation a.toNat = true → s.storing = none → ¬ full → ∃ t : State,
      exec (.pointPut seq [a, c, hi, lo, pin]) s = .next (State.sArbiter t)
        ∧ t = State.answered { s with points := t.points } seq 10 .done false []
        ∧ t.findPoint a.toNat c.toNat = some (PointRecord.mk a.toNat c.toNat
            (some (hi.toNat * 256 + lo.toNat)) none pinned)
        ∧ ∀ b d, (b ≠ a.toNat ∨ d ≠ c.toNat) → t.findPoint b d = s.findPoint b d))
    ∧ (∀ (s : State) (seq a c hi lo pin : Byte), Ready s → s.FQuiet → 1 < pin.toNat →
      exec (.pointPut seq [a, c, hi, lo, pin]) s = .next (s.answered seq 10 .badRecord false []).sArbiter)
    ∧ ∀ (s : State) (seq a c : Byte), Ready s → s.FBusy →
      ((a.toNat = 0 ∨ 126 < a.toNat) →
        exec (.pointDrop seq [a, c]) s = .next (s.answered seq 11 .badIndex false []).sArbiter)
      ∧ (validStation a.toNat = true → s.storing.isSome = true →
        exec (.pointDrop seq [a, c]) s = .next (s.answered seq 11 .refused false [4]).sArbiter)
      ∧ (validStation a.toNat = true → s.storing = none → s.findPoint a.toNat c.toNat = none →
        exec (.pointDrop seq [a, c]) s = .next (s.answered seq 11 .done false [0]).sArbiter)
      ∧ (validStation a.toNat = true → s.storing = none → (s.findPoint a.toNat c.toNat).isSome = true →
        ∃ t, exec (.pointDrop seq [a, c]) s = .next t
          ∧ t.points = s.points.filter (fun p => !(p.station = a.toNat && p.channel = c.toNat))
          ∧ Untouched { s.heard with points := t.points } t ∧ t.counters = s.counters ∧ t.queues = s.queues
          ∧ (let u := State.followUp false { s with points := t.points }
            SameRun t u ∧ t.feedA = u.feedA ∧ t.feedB = u.feedB)
          ∧ (s.SBusy → t.replies = s.replies ++ [{ frame := answerFrame seq 11 .done false [1], isReset := false }]))

/-- HOLD-STATION: BAD-INDEX, STATION-BUSY unless ONLINE; otherwise the station enters HELD, its SET and ORDER frames leave the
pass-down FIFO for its hold queue, oldest first, each entered as if it arrived (`HoldEntryKeepsOrder`), its replies before the
ANSWER, and all others keep their places; so stands `u`. With the run IDLE it stays HELD and joins nothing. With a run in progress
it becomes a member and its IDLE steps PENDING; so stands `w`, and then they are evaluated. -/
def Obligations.HoldStationTakesToHeld : Prop :=
  ∀ (s : State) (seq a : Byte), Ready s → s.FBusy →
    ((a.toNat = 0 ∨ 126 < a.toNat) →
      exec (.holdStation seq [a]) s = .next (s.answered seq 16 .badIndex false []).sArbiter)
    ∧ (validStation a.toNat = true → (s.station a.toNat).state ≠ .online →
      exec (.holdStation seq [a]) s = .next (s.answered seq 16 .refused false [3]).sArbiter)
    ∧ (validStation a.toNat = true → (s.station a.toNat).state = .online →
      let moves (f : Frame) : Bool := decide (f.station = a.toNat) && (decide (f.kind = kindSet) || decide (f.kind = kindOrder))
      let u := (s.passDown.filter moves).foldl (State.holdEntry a.toNat) s
      ∃ t, exec (.holdStation seq [a]) s = .next t ∧ Untouched s.heard t
        ∧ t.passDown = s.passDown.filter (fun f => !moves f)
        ∧ t.queues = u.queues ∧ (∀ b, b ≠ a.toNat → u.queue b = s.queue b) ∧ t.highWaterArmed = u.highWaterArmed
        ∧ (s.SBusy → u.replies.length < 16 → t.counters = u.counters ∧ t.replies = u.replies ++
            [{ frame := answerFrame seq 16 .done false [(t.station a.toNat).state.code], isReset := false }])
        ∧ (s.run.inProgress = false → t.run = s.run
          ∧ t.station a.toNat = { s.station a.toNat with state := .held }
          ∧ ∀ b, b ≠ a.toNat → t.station b = s.station b)
        ∧ (s.run.inProgress = true → ∃ w : State, SameGround u w
          ∧ (∀ n, w.entry n = if (s.step n).used = true ∧ (s.step n).station = a.toNat ∧ (s.entry n).state = .idle then
            { s.entry n with state := .pending, cause := .none, nak := 0, settle := none } else s.entry n)
          ∧ (∀ b, w.station b = if b = a.toNat then { s.station b with state := .held, member := true } else s.station b)
          ∧ (∀ i, w.slot i = if s.slotOf a.toNat = some i then cancelled (s.slot i) else s.slot i)
          ∧ w.run = s.run ∧ w.contributions = s.contributions ∧ SameRun t (s.settleFrom w)))

/-- RELEASE-STATION: BAD-INDEX, STATION-BUSY unless HELD or RESTORING; otherwise the station is no member and DRAINING, or ONLINE
when its queue is empty, and its queue is kept for the drain; a member's unfinished steps become SKIPPED, and the record of an
ISSUED one goes to CLOSING while an attempt is outstanding. CLEAR-STATION: BAD-INDEX, STATION-BUSY unless FAULTED or OVERRIDDEN;
otherwise the station is ONLINE, its fault cause cleared, its history emptied after a storm, the run's causes are left, and no event
is raised (the model's reading, log 35). -/
def Obligations.ReleaseAndClearStation : Prop :=
  ∀ (s : State) (seq a : Byte), Ready s → s.FBusy →
    ((a.toNat = 0 ∨ 126 < a.toNat) →
      exec (.releaseStation seq [a]) s = .next (s.answered seq 17 .badIndex false []).sArbiter
      ∧ exec (.clearStation seq [a]) s = .next (s.answered seq 18 .badIndex false []).sArbiter)
    ∧ (validStation a.toNat = true →
      ((s.station a.toNat).state ≠ .held → (s.station a.toNat).state ≠ .restoring →
        exec (.releaseStation seq [a]) s = .next (s.answered seq 17 .refused false [3]).sArbiter)
      ∧ ((s.station a.toNat).state ≠ .faulted → (s.station a.toNat).state ≠ .overridden →
        exec (.clearStation seq [a]) s = .next (s.answered seq 18 .refused false [3]).sArbiter)
      ∧ ((s.station a.toNat).state = .held ∨ (s.station a.toNat).state = .restoring →
        (s.station a.toNat).faultPending = false →
        ∃ t, exec (.releaseStation seq [a]) s = .next t ∧ Untouched s.heard t ∧ t.counters = s.counters
          ∧ t.queues = s.queues ∧ t.passDown = s.passDown
          ∧ (t.station a.toNat).member = false
          ∧ (t.station a.toNat).state = (if s.queue a.toNat = [] then .online else .draining)
          ∧ (t.station a.toNat).faultCause = (s.station a.toNat).faultCause
          ∧ (s.SBusy → t.replies = s.replies ++ [{ isReset := false, frame := (answerFrame seq 17 .done false
              [if s.queue a.toNat = [] then 1 else 4]) }])
          ∧ ((s.station a.toNat).member = true → s.run.inProgress = true →
            ∀ n, (s.step n).used = true → (s.step n).station = a.toNat →
              ((s.entry n).state ≠ .idle → (s.entry n).state.terminal = false → (t.entry n).state = .skipped)
              ∧ ∀ i r, s.slotOf a.toNat = some i → s.slot i = some r → r.step = n → (s.entry n).state = .issued →
                r.closing = false → r.outstanding.isSome = true →
                t.slot i = some { r with closing := true, ready := none, further := none }))
      ∧ ((s.station a.toNat).state = .faulted ∨ (s.station a.toNat).state = .overridden →
        ∃ t : State, exec (.clearStation seq [a]) s = .next (State.sArbiter t)
          ∧ t = State.answered { s with stations := t.stations } seq 18 .done false [1]
          ∧ t.station a.toNat = { s.station a.toNat with
              state := .online, faultCause := none
              history := if (s.station a.toNat).faultCause = some .storm then [] else (s.station a.toNat).history }
          ∧ ∀ b, b ≠ a.toNat → t.station b = s.station b))

/-- START-RUN: BAD-RECORD for a selection that fails R19, BAD-INDEX for a listed station outside 1..126, RUN-ACTIVE while a run is
in progress, INVALID-PLAN with the reason and step of the first failing test of R101; otherwise the listed ONLINE stations go to
HELD, their SETs and ORDERs enter their hold queues (so stands `u`; the order among the stations is the model's, log 34), every HELD
station becomes a member, its used steps PENDING and all others IDLE, under the next run number with the present time; so stands
`w`, and "started" is raised. The ANSWER gives the run number, the member count and the distinct listed stations left out; that the
count is that at the end of the event, 0 when the run has ended in it, is the model's reading of R189 (log 13). -/
def Obligations.StartRunValidatesThenStarts : Prop :=
  (∀ (s : State) (seq : Byte) (args : List Byte), Ready s → s.FBusy →
    (readSelection args = none → exec (.startRun seq args) s = .next (s.answered seq 24 .badRecord false []).sArbiter)
    ∧ ∀ l, readSelection args = some l →
      ((∃ a ∈ l, a = 0 ∨ 126 < a) →
        exec (.startRun seq args) s = .next (s.answered seq 24 .badIndex false []).sArbiter)
      ∧ ((∀ a ∈ l, validStation a = true) → s.run.inProgress = true →
        exec (.startRun seq args) s = .next (s.answered seq 24 .refused false [1]).sArbiter)
      ∧ (∀ reason n, (∀ a ∈ l, validStation a = true) → s.run.inProgress = false → s.validate = some (reason, n) →
        exec (.startRun seq args) s = .next (s.answered seq 24 .refused false [6, byte reason, byte n]).sArbiter)
      ∧ ((∀ a ∈ l, validStation a = true) → s.run.inProgress = false → s.validate = none →
        let u := l.foldl (fun u a => if (s.station a).state = .online then u.handOver a else u) s
        ∃ w t : State, exec (.startRun seq args) s = .next t ∧ Untouched s.heard t ∧ SameGround u w
          ∧ t.queues = u.queues ∧ t.passDown = u.passDown
          ∧ w.run = { inProgress := true, number := s.run.number + 1, startTime := s.bridgeTime, halting := none
                      causes := .empty, lastOutcome := s.run.lastOutcome }
          ∧ (∀ a, w.station a = if a ∈ l ∧ (s.station a).state = .online then { s.station a with state := .held, member := true }
              else if (s.station a).state = .held then { s.station a with member := true } else s.station a)
          ∧ (∀ n, w.entry n = { state := if (s.step n).used = true ∧ (w.station (s.step n).station).member = true then .pending
                                         else .idle
                                cause := .none, nak := 0, attempts := 0, settle := none })
          ∧ w.slots = s.slots ∧ w.contributions = s.contributions ∧ SameRun t w.settle
          ∧ t.run.number = s.run.number + 1 ∧ t.run.startTime = s.bridgeTime ∧ t.run.halting = none
          ∧ t.run.causes = .empty ∧ t.isPending .started = true
          ∧ (t.run.inProgress = false → t.isPending .ended = true ∧ ∀ a, (t.station a).member = false)
          ∧ (s.SBusy → u.replies.length < 16 → t.replies = u.replies ++ [{ isReset := false, frame := (answerFrame seq 24 .done false
              [t.run.number, byte t.memberCount, byte (l.dedup.filter (fun a =>
                decide ((s.station a).state ≠ .online) && decide ((s.station a).state ≠ .held))).length]) }])))
    ∧ (∀ (s : State) (n : Nat),
      let r := s.step n
      let p := s.payload (r.params.getD 0 0).toNat
      s.stepFault n =
        if (s.station r.station).config.role = .none then some 1
        else if r.action = some .fixedSet ∧ ¬ (p.used = true ∧ p.kind = .set ∧ p.length ≠ 0 ∧ p.length % 3 = 0) then some 2
        else if r.action = some .order ∧ ¬ (p.used = true ∧ p.kind = .order) then some 2
        else if r.action = some .restore ∧ (r.params.getD 1 0).toNat < (r.params.getD 0 0).toNat then some 3
        else if r.action = some .await ∧ (r.params.getD 3 0).toNat * 256 + (r.params.getD 4 0).toNat
          < (r.params.getD 1 0).toNat * 256 + (r.params.getD 2 0).toNat then some 4
        else if (r.feed = .a ∧ s.feedA.budget < r.peak) ∨ (r.feed = .b ∧ s.feedB.budget < r.peak) then some 5
        else none)
    ∧ (∀ s : State, s.validate = none ↔ ∀ n, (s.step n).used = true → s.stepFault n = none)
    ∧ (∀ (s : State) (reason n : Nat), s.validate = some (reason, n) ↔
      (s.step n).used = true ∧ s.stepFault n = some reason ∧ ∀ m, m < n → (s.step m).used = true → s.stepFault m = none)
    ∧ ∀ (args : List Byte) (l : List Nat), readSelection args = some l ↔
      (args = [0] ∧ l = []) ∨ (∃ stations : List Byte, 1 ≤ stations.length ∧ stations.length ≤ 16
        ∧ args = 1 :: byte stations.length :: stations ∧ l = stations.map BitVec.toNat)

/-- SUSPEND-RUN adds MANAGEMENT to a run in progress, raises "suspended" from an empty set, and changes nothing with the run IDLE.
RESUME-RUN removes MANAGEMENT and ALERT and clears the halt, and is refused with NOT-SUSPENDED when there is none of them. That its
ANSWER gives the run state at the end of the event, IDLE when the run has ended in it, is the model's reading of R189 against the
plain words of R113 (log 13). -/
def Obligations.SuspendAndResumeRun : Prop :=
  ∀ (s : State) (seq : Byte), Ready s → s.FBusy →
    (s.run.inProgress = true → ∃ t, exec (.suspendRun seq []) s = .next t ∧ Untouched s.heard t
      ∧ t.run = { s.run with causes := { s.run.causes with management := true } }
      ∧ (s.run.causes = .empty → t.isPending .suspended = true)
      ∧ t.stations = s.stations ∧ t.entries = s.entries ∧ t.slots = s.slots ∧ t.contributions = s.contributions
      ∧ t.counters = s.counters
      ∧ (s.SBusy → t.replies = s.replies ++ [{ isReset := false, frame := (answerFrame seq 25 .done false
          [if s.run.halting.isSome then 3 else 2]) }]))
    ∧ (s.run.inProgress = false →
      exec (.suspendRun seq []) s = .next (s.answered seq 25 .done false [0]).sArbiter)
    ∧ ((s.run.inProgress = false ∨
        (s.run.halting = none ∧ s.run.causes.management = false ∧ s.run.causes.alert = false)) →
      exec (.resumeRun seq []) s = .next (s.answered seq 26 .refused false [2]).sArbiter)
    ∧ (s.run.inProgress = true → (s.run.halting.isSome = true ∨ s.run.causes.management = true ∨ s.run.causes.alert = true) →
      ∃ t, exec (.resumeRun seq []) s = .next t ∧ Untouched s.heard t
        ∧ t.run.halting = none ∧ t.run.causes.management = false ∧ t.run.causes.alert = false
        ∧ t.run.number = s.run.number ∧ t.run.startTime = s.run.startTime ∧ t.counters = s.counters
        ∧ t.queues = s.queues
        ∧ (∀ n, (s.entry n).state.terminal = true → t.entry n = s.entry n)
        ∧ (s.SBusy → t.replies = s.replies ++
          [{ frame := answerFrame seq 26 .done false [t.runState.code], isReset := false }]))

/-- ABORT-RUN with the run IDLE changes nothing. Otherwise every used step in PENDING, AWAITING, ISSUED or SETTLING becomes SKIPPED,
the clocks of those ISSUED start, no record stays OPEN, a HELD or RESTORING member goes to DRAINING, or with an empty queue to
ONLINE, and no other station changes its state, every member flag is cleared, and the run is over with ABORTED and "ended". -/
def Obligations.AbortEndsTheRun : Prop :=
  ∀ (s : State) (seq : Byte), Ready s → s.FBusy →
    (s.run.inProgress = false →
      exec (.abortRun seq []) s = .next (s.answered seq 27 .done false [0, s.run.lastOutcome.code]).sArbiter)
    ∧ (s.run.inProgress = true → ∃ t, exec (.abortRun seq []) s = .next t ∧ Untouched s.heard t
      ∧ t.run = { s.run with inProgress := false, halting := none, causes := .empty, lastOutcome := .aborted }
      ∧ (∀ n, (s.step n).used = true → (s.entry n).state ≠ .idle → (s.entry n).state.terminal = false →
        (t.entry n).state = .skipped ∧ (t.entry n).cause = (s.entry n).cause ∧ (t.entry n).attempts = (s.entry n).attempts)
      ∧ (∀ n, (s.entry n).state.terminal = true → t.entry n = s.entry n)
      ∧ t.contributions = s.contributions.map (fun c =>
          if (s.step c.step).used = true ∧ (s.entry c.step).state = .issued then { c with running := true } else c)
      ∧ (∀ i r, t.slot i = some r → r.closing = true)
      ∧ (∀ a, (t.station a).member = false)
      ∧ (∀ a, let x := s.station a
        (x.member = true → (x.state = .held ∨ x.state = .restoring) → s.queue a ≠ [] → (t.station a).state = .draining)
        ∧ (x.member = true → (x.state = .held ∨ x.state = .restoring) → s.queue a = [] → x.faultPending = false →
          (t.station a).state = .online)
        ∧ (x.member = false ∨ (x.state ≠ .held ∧ x.state ≠ .restoring) → (t.station a).state = x.state))
      ∧ t.isPending .ended = true ∧ t.counters = s.counters ∧ t.queues = s.queues
      ∧ (s.SBusy → t.replies = s.replies ++ [{ frame := answerFrame seq 27 .done false [0, 3], isReset := false }]))

/-- SET-FEED: BAD-INDEX above 1, STORING while a STORE is in progress; otherwise the budget and the standing load are written, each
clamped to 16383, and the fold-saturated mark is cleared; the measured value and the other feed keep theirs. -/
def Obligations.SetFeedWritesTheFeed : Prop :=
  ∀ (s : State) (seq i bh bl sh sl : Byte), Ready s → s.FBusy →
    (1 < i.toNat → exec (.setFeed seq [i, bh, bl, sh, sl]) s = .next (s.answered seq 32 .badIndex false []).sArbiter)
    ∧ (i.toNat ≤ 1 → s.storing.isSome = true →
      exec (.setFeed seq [i, bh, bl, sh, sl]) s = .next (s.answered seq 32 .refused false [4]).sArbiter)
    ∧ (i.toNat ≤ 1 → s.storing = none →
      let f : Feed := if i.toNat = 0 then .a else .b
      ∃ t, exec (.setFeed seq [i, bh, bl, sh, sl]) s = .next t ∧ Untouched s.heard t ∧ t.counters = s.counters
        ∧ (t.feed f).budget = min (bh.toNat * 256 + bl.toNat) 16383
        ∧ (t.feed f).standing = min (sh.toNat * 256 + sl.toNat) 16383
        ∧ (t.feed f).foldSaturated = false ∧ (t.feed f).measured = (s.feed f).measured
        ∧ (∀ g, g ≠ f → (t.feed g).budget = (s.feed g).budget ∧ (t.feed g).standing = (s.feed g).standing)
        ∧ (s.run.inProgress = false → t.entries = s.entries ∧ t.slots = s.slots ∧ t.contributions = s.contributions)
        ∧ (s.SBusy → t.replies = s.replies ++ [{ frame := answerFrame seq 32 .done false [], isReset := false }]))

end
end

