-- ==== Sys2Proof/Laws/Tables.lean ====
section
/-! SUPPORT. Reading after writing for the tables of State, and the fold of an operation that keeps a view. -/

namespace Sys2Proof.Machine

theorem getAt_putAt {α : Type} {n : Nat} (v : Vector α n) (i j : Nat) (x d : α) :
    getAt (putAt v i x) j d = if i = j ∧ j < n then x else getAt v j d := by
  unfold getAt putAt
  by_cases hj : j < n
  · by_cases hij : i = j
    · subst hij; simp [hj]
    · simp [hj, hij]
  · simp [hj]

@[simp] theorem getAt_putAt_self {α : Type} {n : Nat} (v : Vector α n) (i : Nat) (x d : α) (h : i < n) :
    getAt (putAt v i x) i d = x := by simp [getAt_putAt, h]

theorem getAt_putAt_ne {α : Type} {n : Nat} (v : Vector α n) (i j : Nat) (x d : α) (h : i ≠ j) :
    getAt (putAt v i x) j d = getAt v j d := by simp [getAt_putAt, h]

theorem getAt_mem {α : Type} {n : Nat} (v : Vector α n) (i : Nat) (d : α) (h : i < n) : getAt v i d ∈ v.toList := by
  simp [getAt, h]

@[simp] theorem getAt_mapTable {α β : Type} {n : Nat} (v : Vector α n) (g : α → β) (i : Nat) (d : α) :
    getAt (mapTable v g) i (g d) = g (getAt v i d) := by
  unfold getAt mapTable
  by_cases h : i < n
  · simp [h]
  · simp [h]

theorem mapTable_putAt {α β : Type} {n : Nat} (v : Vector α n) (g : α → β) (i : Nat) (x : α) :
    mapTable (putAt v i x) g = putAt (mapTable v g) i (g x) := by
  apply Vector.ext
  intro k hk
  simp only [mapTable, putAt]
  by_cases hik : i = k
  · subst hik; simp
  · simp [hik]

/-- Writing a record whose view is the old one's leaves the viewed table. -/
theorem mapTable_putAt_same {α β : Type} {n : Nat} (v : Vector α n) (g : α → β) (i : Nat) (x d : α)
    (h : g x = g (getAt v i d)) : mapTable (putAt v i x) g = mapTable v g := by
  apply Vector.ext
  intro k hk
  simp only [mapTable, putAt]
  by_cases hik : i = k
  · subst hik; simp [h, getAt, hk]
  · simp [hik]

theorem mapTable_mapTable_same {α β : Type} {n : Nat} (v : Vector α n) (f : α → α) (g : α → β)
    (h : ∀ x, g (f x) = g x) : mapTable (mapTable v f) g = mapTable v g := by
  apply Vector.ext
  intro k hk
  simp [mapTable, h]

/-- An operation that keeps a view keeps it over a list. -/
theorem foldl_keeps {σ α β : Type} (view : σ → β) (f : σ → α → σ) (h : ∀ s a, view (f s a) = view s) (l : List α) (s : σ) :
    view (l.foldl f s) = view s := by
  induction l generalizing s with
  | nil => rfl
  | cons a l ih => rw [List.foldl_cons, ih, h]

/-- An operation that keeps a property keeps it over a list. -/
theorem foldl_kept {σ α : Type} (P : σ → Prop) (f : σ → α → σ) (l : List α) (h : ∀ s, ∀ a ∈ l, P s → P (f s a)) (s : σ)
    (hs : P s) : P (l.foldl f s) := by
  induction l generalizing s with
  | nil => exact hs
  | cons a l ih =>
    exact ih (fun s b hb => h s b (List.mem_cons_of_mem _ hb)) _ (h s a (List.mem_cons_self ..) hs)

end Sys2Proof.Machine
end

