-- ==== Sys2Proof/Laws/State.lean ====
section
/-! SUPPORT. The field lemmas of the named updates, true by `rfl`, so that no later proof unfolds a record update. -/

namespace Sys2Proof.Machine

variable (s : State)

/-! ## Raising an event -/

section
variable (e : NoticeEvent)
@[simp] theorem raise_pending : (s.raise e).pending = s.pending := rfl
@[simp] theorem raise_freeCount : (s.raise e).freeCount = s.freeCount := rfl
@[simp] theorem raise_bridgeTime : (s.raise e).bridgeTime = s.bridgeTime := rfl
@[simp] theorem raise_portS : (s.raise e).portS = s.portS := rfl
@[simp] theorem raise_portF : (s.raise e).portF = s.portF := rfl
@[simp] theorem raise_passDown : (s.raise e).passDown = s.passDown := rfl
@[simp] theorem raise_alertReserve : (s.raise e).alertReserve = s.alertReserve := rfl
@[simp] theorem raise_passUp : (s.raise e).passUp = s.passUp := rfl
@[simp] theorem raise_replies : (s.raise e).replies = s.replies := rfl
@[simp] theorem raise_wireF : (s.raise e).wireF = s.wireF := rfl
@[simp] theorem raise_wireS : (s.raise e).wireS = s.wireS := rfl
@[simp] theorem raise_stations : (s.raise e).stations = s.stations := rfl
@[simp] theorem raise_points : (s.raise e).points = s.points := rfl
@[simp] theorem raise_queues : (s.raise e).queues = s.queues := rfl
@[simp] theorem raise_plan : (s.raise e).plan = s.plan := rfl
@[simp] theorem raise_run : (s.raise e).run = s.run := rfl
@[simp] theorem raise_entries : (s.raise e).entries = s.entries := rfl
@[simp] theorem raise_slots : (s.raise e).slots = s.slots := rfl
@[simp] theorem raise_contributions : (s.raise e).contributions = s.contributions := rfl
@[simp] theorem raise_silence : (s.raise e).silence = s.silence := rfl
@[simp] theorem raise_settings : (s.raise e).settings = s.settings := rfl
@[simp] theorem raise_counters : (s.raise e).counters = s.counters := rfl
@[simp] theorem raise_loading : (s.raise e).loading = s.loading := rfl
@[simp] theorem raise_station (a : Nat) : (s.raise e).station a = s.station a := by cases a <;> rfl
@[simp] theorem raise_queue (a : Nat) : (s.raise e).queue a = s.queue a := by cases a <;> rfl
@[simp] theorem raise_step (n : Nat) : (s.raise e).step n = s.step n := rfl
@[simp] theorem raise_entry (n : Nat) : (s.raise e).entry n = s.entry n := rfl
@[simp] theorem raise_slot (i : Nat) : (s.raise e).slot i = s.slot i := rfl
@[simp] theorem raise_counter (c : Counter) : (s.raise e).counter c = s.counter c := rfl
end

/-! ## Slots -/

section
variable (i : Nat) (r : Option InjectionRecord)
@[simp] theorem setSlot_stations : (s.setSlot i r).stations = s.stations := rfl
@[simp] theorem setSlot_run : (s.setSlot i r).run = s.run := rfl
@[simp] theorem setSlot_entries : (s.setSlot i r).entries = s.entries := rfl
@[simp] theorem setSlot_plan : (s.setSlot i r).plan = s.plan := rfl
@[simp] theorem setSlot_points : (s.setSlot i r).points = s.points := rfl
@[simp] theorem setSlot_wireF : (s.setSlot i r).wireF = s.wireF := rfl
@[simp] theorem setSlot_injectionSeq : (s.setSlot i r).injectionSeq = s.injectionSeq := rfl
@[simp] theorem setSlot_counters : (s.setSlot i r).counters = s.counters := rfl
@[simp] theorem setSlot_slot (j : Nat) : (s.setSlot i r).slot j = if i = j ∧ j < 8 then r else s.slot j := by
  simp [State.setSlot, State.slot, getAt_putAt]
end

/-! ## Ports -/

section
variable (p : Port) (x : PortState)
@[simp] theorem setPort_port : (s.setPort p x).port p = x := by cases p <;> rfl
@[simp] theorem setPort_counters : (s.setPort p x).counters = s.counters := by cases p <;> rfl
@[simp] theorem setPort_bridgeTime : (s.setPort p x).bridgeTime = s.bridgeTime := by cases p <;> rfl
@[simp] theorem setPort_loading : (s.setPort p x).loading = s.loading := by cases p <;> rfl
@[simp] theorem setPort_settings : (s.setPort p x).settings = s.settings := by cases p <;> rfl
@[simp] theorem setPort_noticePending : (s.setPort p x).noticePending = s.noticePending := by cases p <;> rfl
@[simp] theorem setPort_setPort (y : PortState) : (s.setPort p y).setPort p x = s.setPort p x := by cases p <;> rfl
@[simp] theorem setPort_self : s.setPort p (s.port p) = s := by cases p <;> rfl
@[simp] theorem setPort_port_s_f : (s.setPort .s x).port .f = s.port .f := rfl
@[simp] theorem setPort_port_f_s : (s.setPort .f x).port .s = s.port .s := rfl
@[simp] theorem raise_port (e : NoticeEvent) : (s.raise e).port p = s.port p := by cases p <;> rfl
end

/-! ## Stations, queues, entries, feeds -/

theorem setStation_station (a b : Nat) (r : StationRecord) :
    (s.setStation a r).station b = if a = b ∧ validStation b = true then r else s.station b := by
  cases a with
  | zero =>
    cases b with
    | zero => simp [State.station, validStation]
    | succ b => simp [State.setStation]
  | succ a =>
    cases b with
    | zero => simp [State.station]
    | succ b =>
      simp only [State.setStation, State.station, getAt_putAt]
      have : (validStation (b + 1) = true) ↔ b < 126 := by simp [validStation]
      simp [this]

theorem updateStation_station (a b : Nat) (g : StationRecord → StationRecord) :
    (s.updateStation a g).station b = if a = b ∧ validStation b = true then g (s.station b) else s.station b := by
  unfold State.updateStation
  rw [setStation_station]
  split
  · next h => rw [h.1]
  · rfl

theorem setQueue_queue (a b : Nat) (q : List Frame) :
    (s.setQueue a q).queue b = if a = b ∧ validStation b = true then q else s.queue b := by
  cases a with
  | zero =>
    cases b with
    | zero => simp [State.queue, validStation]
    | succ b => simp [State.setQueue]
  | succ a =>
    cases b with
    | zero => simp [State.queue]
    | succ b =>
      simp only [State.setQueue, State.queue, getAt_putAt]
      have : (validStation (b + 1) = true) ↔ b < 126 := by simp [validStation]
      simp [this]

theorem syncHead_entries (f : Feed) : (s.syncHead f).entries = s.entries := by
  unfold State.syncHead; dsimp only; split
  · rfl
  · cases f <;> rfl

section
variable (f : Feed)
@[simp] theorem syncHead_slots : (s.syncHead f).slots = s.slots := by
  unfold State.syncHead; dsimp only; split
  · rfl
  · cases f <;> rfl
@[simp] theorem syncHead_stations : (s.syncHead f).stations = s.stations := by
  unfold State.syncHead; dsimp only; split
  · rfl
  · cases f <;> rfl
@[simp] theorem syncHead_contributions : (s.syncHead f).contributions = s.contributions := by
  unfold State.syncHead; dsimp only; split
  · rfl
  · cases f <;> rfl
@[simp] theorem syncHead_run : (s.syncHead f).run = s.run := by
  unfold State.syncHead; dsimp only; split
  · rfl
  · cases f <;> rfl
@[simp] theorem syncHead_plan : (s.syncHead f).plan = s.plan := by
  unfold State.syncHead; dsimp only; split
  · rfl
  · cases f <;> rfl
@[simp] theorem syncHead_noticePending : (s.syncHead f).noticePending = s.noticePending := by
  unfold State.syncHead; dsimp only; split
  · rfl
  · cases f <;> rfl
@[simp] theorem syncHead_injectionSeq : (s.syncHead f).injectionSeq = s.injectionSeq := by
  unfold State.syncHead; dsimp only; split
  · rfl
  · cases f <;> rfl
end

section
variable (n : Nat) (e : StepEntry)
@[simp] theorem setEntry_slots : (s.setEntry n e).slots = s.slots := by simp [State.setEntry, State.syncHeads]
@[simp] theorem setEntry_stations : (s.setEntry n e).stations = s.stations := by simp [State.setEntry, State.syncHeads]
@[simp] theorem setEntry_contributions : (s.setEntry n e).contributions = s.contributions := by
  simp [State.setEntry, State.syncHeads]
@[simp] theorem setEntry_run : (s.setEntry n e).run = s.run := by simp [State.setEntry, State.syncHeads]
@[simp] theorem setEntry_plan : (s.setEntry n e).plan = s.plan := by simp [State.setEntry, State.syncHeads]
@[simp] theorem setEntry_noticePending : (s.setEntry n e).noticePending = s.noticePending := by
  simp [State.setEntry, State.syncHeads]
@[simp] theorem setEntry_injectionSeq : (s.setEntry n e).injectionSeq = s.injectionSeq := by
  simp [State.setEntry, State.syncHeads]
end

section
variable (a : Nat) (g : StationRecord → StationRecord)
@[simp] theorem updateStation_entries : (s.updateStation a g).entries = s.entries := by cases a <;> rfl
@[simp] theorem updateStation_slots : (s.updateStation a g).slots = s.slots := by cases a <;> rfl
@[simp] theorem updateStation_contributions : (s.updateStation a g).contributions = s.contributions := by cases a <;> rfl
@[simp] theorem updateStation_run : (s.updateStation a g).run = s.run := by cases a <;> rfl
@[simp] theorem updateStation_plan : (s.updateStation a g).plan = s.plan := by cases a <;> rfl
@[simp] theorem updateStation_queues : (s.updateStation a g).queues = s.queues := by cases a <;> rfl
@[simp] theorem updateStation_noticePending : (s.updateStation a g).noticePending = s.noticePending := by cases a <;> rfl
@[simp] theorem updateStation_injectionSeq : (s.updateStation a g).injectionSeq = s.injectionSeq := by cases a <;> rfl
end

theorem setEntry_entry (n m : Nat) (e : StepEntry) :
    (s.setEntry n e).entry m = if n = m ∧ m < 96 then e else s.entry m := by
  simp [State.entry, State.setEntry, State.syncHeads, syncHead_entries, getAt_putAt]

@[simp] theorem setFeedRecord_feed (f : Feed) (r : FeedRecord) : (s.setFeedRecord f r).feed f = r := by cases f <;> rfl
@[simp] theorem setFeedRecord_feed_a_b (r : FeedRecord) : (s.setFeedRecord .a r).feed .b = s.feed .b := rfl
@[simp] theorem setFeedRecord_feed_b_a (r : FeedRecord) : (s.setFeedRecord .b r).feed .a = s.feed .a := rfl

/-! ## Counters -/

theorem count_counter (c d : Counter) :
    (s.count c).counter d = if c = d ∧ s.counter d < 255 then s.counter d + 1 else s.counter d := by
  have hidx : ∀ c d : Counter, c.index = d.index ↔ c = d := by intro c d; cases c <;> cases d <;> decide
  have hlt : ∀ d : Counter, d.index < 16 := by intro d; cases d <;> decide
  have hval : (State.counter { s with counters := putAt s.counters c.index (s.counter c + 1) } d)
      = if c = d then s.counter c + 1 else s.counter d := by
    simp only [State.counter, getAt_putAt, hidx, hlt, and_true]
  unfold State.count
  dsimp only
  by_cases hcd : c = d
  · subst hcd
    by_cases hfull : 255 ≤ s.counter c
    · simp [hfull]
    · rw [if_neg hfull]
      have : s.counter c < 255 := by omega
      split <;> simp [hval, this]
  · by_cases hfull : 255 ≤ s.counter c
    · simp [hfull, hcd]
    · rw [if_neg hfull]
      split <;> simp [hval, hcd]

end Sys2Proof.Machine
end

