-- ==== Sys2Proof/Laws/Engine.lean ====
section
/-! SUPPORT. What the Run Engine's follow-up (`State.settle`) can touch, said once: everything that `State.core` keeps is left
as it was. -/

namespace Sys2Proof.Machine

/-- The part of a station record that the Run Engine and the station state machine never write: its configuration and its
history. -/
def StationRecord.fixed (r : StationRecord) : StationRecord :=
  { r with state := .unlisted, member := false, faultCause := none, faultPending := false }

/-- The part of a feed record that the Run Engine never writes: all but its head-of-line fields. -/
def FeedRecord.fixed (r : FeedRecord) : FeedRecord := { r with head := none, waitStart := none, waitCount := 0 }

/-- The part of the run record that the follow-up never writes: the run number and the start time. -/
def RunRecord.fixed (r : RunRecord) : RunRecord :=
  { r with inProgress := false, halting := none, causes := .empty, lastOutcome := .none }

/-- The state with all that the Run Engine's follow-up may write taken out. -/
def State.core (s : State) : State :=
  { s with
    stations := mapTable s.stations StationRecord.fixed
    run := s.run.fixed
    entries := Vector.replicate 96 .reset
    slots := Vector.replicate 8 none
    injectionSeq := 0
    feedA := s.feedA.fixed
    feedB := s.feedB.fixed
    contributions := []
    noticePending := Vector.replicate 8 0 }

@[simp] theorem raise_core (s : State) (e : NoticeEvent) : (s.raise e).core = s.core := rfl
@[simp] theorem setSlot_core (s : State) (i : Nat) (r : Option InjectionRecord) : (s.setSlot i r).core = s.core := rfl

theorem setStation_core (s : State) (a : Nat) (r : StationRecord) (h : r.fixed = (s.station a).fixed) :
    (s.setStation a r).core = s.core := by
  cases a with
  | zero => rfl
  | succ k =>
    have := mapTable_putAt_same s.stations StationRecord.fixed k r .default h
    simp only [State.core, State.setStation, this]

theorem updateStation_core (s : State) (a : Nat) (g : StationRecord → StationRecord) (h : ∀ r, (g r).fixed = r.fixed) :
    (s.updateStation a g).core = s.core := setStation_core s a _ (h _)

@[simp] theorem syncHead_core (s : State) (f : Feed) : (s.syncHead f).core = s.core := by
  unfold State.syncHead; dsimp only; split
  · rfl
  · cases f <;> rfl

@[simp] theorem setEntry_core (s : State) (n : Nat) (e : StepEntry) : (s.setEntry n e).core = s.core := by
  simp [State.setEntry, State.syncHeads]; rfl

@[simp] theorem setStepState_core (s : State) (n : Nat) (x : StepState) : (s.setStepState n x).core = s.core := by
  simp [State.setStepState]

@[simp] theorem startClock_core (s : State) (n : Nat) : (s.startClock n).core = s.core := rfl
@[simp] theorem createContribution_core (s : State) (f : Feed) (n : Nat) : (s.createContribution f n).core = s.core := rfl

@[simp] theorem evaluate_core (s : State) (n : Nat) : (s.evaluate n).core = s.core := by
  unfold State.evaluate; repeat' split
  all_goals simp

@[simp] theorem evaluateAll_core (s : State) : s.evaluateAll.core = s.core := foldl_keeps State.core _ evaluate_core _ s

@[simp] theorem makeAttempt_core (s : State) (i : Nat) : (s.makeAttempt i).core = s.core := by
  unfold State.makeAttempt; split <;> rfl

@[simp] theorem openRecord_core (s : State) (i n k c : Nat) : (s.openRecord i n k c).core = s.core := by
  simp [State.openRecord]

@[simp] theorem closeRecord_core (s : State) (i : Nat) : (s.closeRecord i).core = s.core := by
  unfold State.closeRecord; repeat' split
  all_goals simp

@[simp] theorem cancelRecord_core (s : State) (i : Nat) : (s.cancelRecord i).core = s.core := by
  unfold State.cancelRecord; repeat' split
  all_goals simp

@[simp] theorem cancelRecordOf_core (s : State) (a n : Nat) : (s.cancelRecordOf a n).core = s.core := by
  unfold State.cancelRecordOf; repeat' split
  all_goals simp

@[simp] theorem settleStep_core (s : State) (n : Nat) : (s.settleStep n).core = s.core := by
  unfold State.settleStep; split <;> simp

@[simp] theorem finishFrames_core (s : State) (n : Nat) : (s.finishFrames n).core = s.core := by
  simp [State.finishFrames]

@[simp] theorem leaveStep_core (a : Nat) (b : Bool) (s : State) (n : Nat) : (State.leaveStep a b s n).core = s.core := by
  unfold State.leaveStep; repeat' split
  all_goals simp

@[simp] theorem leaveSteps_core (s : State) (a : Nat) (b : Bool) : (s.leaveSteps a b).core = s.core :=
  foldl_keeps State.core _ (leaveStep_core a b) _ s

@[simp] theorem leaveRun_core (s : State) (a : Nat) (b : Bool) : (s.leaveRun a b).core = s.core := by
  unfold State.leaveRun; dsimp only; split
  · rw [leaveSteps_core, updateStation_core]; intro _; rfl
  · rw [updateStation_core]; intro _; rfl

@[simp] theorem drainEnd_core (s : State) (a : Nat) : (s.drainEnd a).core = s.core := by
  unfold State.drainEnd; dsimp only; rw [leaveRun_core]; split
  · rw [raise_core, updateStation_core]; intro _; rfl
  · rw [updateStation_core]; intro _; rfl

@[simp] theorem checkDrain_core (s : State) (a : Nat) : (s.checkDrain a).core = s.core := by
  unfold State.checkDrain; split <;> simp

@[simp] theorem enterDraining_core (s : State) (a : Nat) : (s.enterDraining a).core = s.core := by
  unfold State.enterDraining; split
  · rw [checkDrain_core, updateStation_core]; intro _; rfl
  · rfl

@[simp] theorem faultRequest_core (s : State) (a : Nat) (c : FaultCause) : (s.faultRequest a c).core = s.core := by
  unfold State.faultRequest; repeat' split
  all_goals simp
  all_goals (rw [updateStation_core]; intro _; rfl)

@[simp] theorem completeFrameless_core (s : State) (n : Nat) : (s.completeFrameless n).core = s.core := by
  unfold State.completeFrameless; dsimp only; split <;> simp

@[simp] theorem markWait_core (s : State) (f : Feed) : (s.markWait f).core = s.core := by
  unfold State.markWait; repeat' split
  all_goals first | rfl | (cases f <;> rfl)

@[simp] theorem grant_core (s : State) (i n : Nat) : (s.grant i n).core = s.core := by
  have restore : ∀ (t : State) (a : Nat),
      (if (t.station a).state = .held then t.updateStation a (fun x => { x with state := .restoring }) else t).core
        = t.core := by
    intro t a
    split
    · rw [updateStation_core]; intro _; rfl
    · rfl
  unfold State.grant; dsimp only
  rw [restore, setStepState_core, openRecord_core]
  split <;> simp

@[simp] theorem settleLoop_core (fuel : Nat) (due : Bool) (s : State) : (State.settleLoop fuel due s).core = s.core := by
  induction fuel generalizing due s with
  | zero => simp only [State.settleLoop]
  | succ k ih =>
    simp only [State.settleLoop]
    repeat' split
    all_goals first | (rw [ih]; simp) | simp

@[simp] theorem clearMembers_core (s : State) : s.clearMembers.core = s.core := by
  have h := mapTable_mapTable_same s.stations (fun r => { r with member := false }) StationRecord.fixed (fun _ => rfl)
  simp only [State.core, State.clearMembers, h]

@[simp] theorem drainMembers_core (s : State) : s.drainMembers.core = s.core := by
  unfold State.drainMembers
  rw [clearMembers_core, foldl_keeps State.core _ enterDraining_core]

@[simp] theorem closeRun_core (s : State) (o : RunOutcome) : (s.closeRun o).core = s.core := rfl

@[simp] theorem endRun_core (s : State) : s.endRun.core = s.core := by simp [State.endRun]

@[simp] theorem testRunEnd_core (s : State) : s.testRunEnd.core = s.core := by
  unfold State.testRunEnd; split <;> simp

/-- The Run Engine's follow-up leaves all that `State.core` keeps. -/
@[simp] theorem followUp_core (due : Bool) (s : State) : (State.followUp due s).core = s.core := by
  unfold State.followUp; split <;> simp

@[simp] theorem settle_core (s : State) : s.settle.core = s.core := followUp_core true s

@[simp] theorem settleFrom_core (s t : State) : (s.settleFrom t).core = t.core := followUp_core _ t

@[simp] theorem haltRun_core (s : State) (n : Nat) : (s.haltRun n).core = s.core := by
  unfold State.haltRun; split <;> rfl

@[simp] theorem failStep_core (s : State) (n : Nat) (c : FailureCause) (b : Byte) : (s.failStep n c b).core = s.core := by
  unfold State.failStep State.propagate; dsimp only; split <;> simp

@[simp] theorem abortStep_core (s : State) (n : Nat) : (s.abortStep n).core = s.core := by
  unfold State.abortStep; split <;> simp

@[simp] theorem abortRun_core (s : State) : s.abortRun.core = s.core := by
  unfold State.abortRun; dsimp only
  rw [closeRun_core, drainMembers_core, foldl_keeps State.core _ cancelRecord_core, foldl_keeps State.core _ abortStep_core]

/-- With no run in progress the follow-up does nothing. -/
theorem followUp_idle (due : Bool) (s : State) (h : s.run.inProgress = false) : State.followUp due s = s := by
  simp [State.followUp, h]

theorem settle_idle (s : State) (h : s.run.inProgress = false) : s.settle = s := followUp_idle true s h

theorem settleFrom_idle (s t : State) (h : t.run.inProgress = false) : s.settleFrom t = t := followUp_idle _ t h

end Sys2Proof.Machine
end

