-- ==== Sys2Proof/Laws/Arbiter.lean ====
section
/-! SUPPORT. What the closing of an event can touch, said once: everything that `State.base` keeps is left as it was; and a
busy transmitter takes nothing. -/

namespace Sys2Proof.Machine

/-- `State.core` with all that the F-port arbiter may write taken out. -/
def State.downBase (s : State) : State :=
  { s.core with
    passDown := [], alertReserve := none, queues := Vector.replicate 126 [], highWaterArmed := true, wireF := none
    drainGuard := 0, lastDrain := 0 }

/-- `State.downBase` with all that the placement of a NOTICE and the S-port arbiter may write taken out. -/
def State.base (s : State) : State :=
  { s.downBase with
    passUp := [], replies := [], replyGuard := 0, noticeSlot := none, noticeNumber := 0, wireS := none }

theorem downBase_of_core {s t : State} (h : t.core = s.core) : t.downBase = s.downBase := by
  unfold State.downBase; rw [h]

theorem base_of_downBase {s t : State} (h : t.downBase = s.downBase) : t.base = s.base := by
  unfold State.base; rw [h]

theorem base_of_core {s t : State} (h : t.core = s.core) : t.base = s.base := base_of_downBase (downBase_of_core h)

/-! ## The F-port arbiter -/

@[simp] theorem rearm_downBase (s : State) : s.rearm.downBase = s.downBase := by unfold State.rearm; split <;> rfl

@[simp] theorem setQueue_downBase (s : State) (a : Nat) (q : List Frame) : (s.setQueue a q).downBase = s.downBase := by
  cases a <;> rfl

theorem sendHead_downBase (s : State) (x : FSource) (g : Nat) : (s.sendHead x g).downBase = s.downBase := by
  unfold State.sendHead; split <;> rfl

theorem sendReserve_downBase (s : State) : s.sendReserve.downBase = s.downBase := by
  unfold State.sendReserve; split <;> rfl

theorem sendDrain_downBase (s : State) (a : Nat) : (s.sendDrain a).downBase = s.downBase := by
  unfold State.sendDrain
  split
  · rfl
  · next f rest _ =>
    have h : ∀ t : State, t.downBase = s.downBase →
        (if rest.isEmpty then t.settleFrom (t.checkDrain a) else t).downBase = s.downBase := by
      intro t ht
      split
      · rw [downBase_of_core (settleFrom_core _ _), downBase_of_core (checkDrain_core _ _), ht]
      · exact ht
    apply h
    exact (rearm_downBase (s.setQueue a rest)).trans (setQueue_downBase s a rest)

theorem sendInjection_core (s : State) (i : Nat) (r : InjectionRecord) (q : Byte) :
    (s.sendInjection i r q).downBase = s.downBase := by
  unfold State.sendInjection
  refine (?_ : State.downBase (State.setEntry (s.setSlot i _) _ _) = s.downBase)
  rw [downBase_of_core (setEntry_core _ _ _), downBase_of_core (setSlot_core _ _ _)]

theorem finishEmpty_core (s : State) (i : Nat) (r : InjectionRecord) : (s.finishEmpty i r).core = s.core := by
  simp [State.finishEmpty]

theorem fChoose_downBase (fuel : Nat) (s : State) : (s.fChoose fuel).downBase = s.downBase := by
  induction fuel generalizing s with
  | zero => rfl
  | succ k ih =>
    unfold State.fChoose
    split
    · rfl
    · exact sendHead_downBase _ _ _
    · exact sendReserve_downBase _
    · exact sendHead_downBase _ _ _
    · exact sendDrain_downBase _ _
    · split
      · rfl
      · split
        · rfl
        · split
          · rw [ih, downBase_of_core (finishEmpty_core _ _ _)]
          · exact sendInjection_core _ _ _ _

theorem fArbiter_downBase (s : State) : s.fArbiter.downBase = s.downBase := by
  unfold State.fArbiter; split
  · exact fChoose_downBase _ _
  · rfl

/-- A busy F-port transmitter takes nothing, nor does a free one to which nothing is offered. -/
theorem fArbiter_quiet (s : State) (h : s.FQuiet) : s.fArbiter = s := by
  unfold State.fArbiter
  rcases h with h | h
  · simp [Option.isNone_iff_eq_none, Option.isSome_iff_ne_none] at *; intro h'; exact absurd h' h
  · split
    · unfold State.fChoose; rw [h]
    · rfl

/-! ## The NOTICE and the S-port arbiter -/

theorem testNotice_base (s : State) (b : Bool) : (s.testNotice b).base = s.base := by
  unfold State.testNotice; split <;> rfl

theorem sArbiter_base (s : State) : s.sArbiter.base = s.base := by
  unfold State.sArbiter State.sChoose State.sendReply State.sendPassUp State.sendNotice
  repeat' split
  all_goals rfl

/-- A busy S-port transmitter takes nothing. -/
theorem sArbiter_busy (s : State) (h : s.SBusy) : s.sArbiter = s := by
  unfold State.sArbiter
  split
  · next h' => rw [Option.isNone_iff_eq_none] at h'; rw [State.SBusy, h'] at h; exact absurd h (by simp)
  · rfl

/-- The S-port arbiter leaves the downward side and the Run Engine alone. -/
theorem sArbiter_up (s : State) : s.sArbiter =
    { s with passUp := s.sArbiter.passUp, replies := s.sArbiter.replies, replyGuard := s.sArbiter.replyGuard
             noticeSlot := s.sArbiter.noticeSlot, wireS := s.sArbiter.wireS } := by
  unfold State.sArbiter State.sChoose State.sendReply State.sendPassUp State.sendNotice
  repeat' split
  all_goals rfl

/-- No NOTICE is placed by an event that leaves the reported set as it was. -/
theorem testNotice_same (s t : State) (h : t.reportedEmpty = s.reportedEmpty) : t.testNotice s.reportedEmpty = t := by
  unfold State.testNotice; rw [h]; cases s.reportedEmpty <;> simp

/-- The closing of an event leaves all that `State.base` keeps. -/
theorem close_base (s t : State) : (s.close t).base = t.base := by
  unfold State.close
  rw [sArbiter_base, testNotice_base, base_of_downBase (fArbiter_downBase t)]

/-- The closing of an event that leaves the reported set as it was, with nothing for a quiet F-port transmitter: only the S-port
arbiter is left to choose. -/
theorem close_quiet (s t : State) (hf : t.FQuiet) (hr : t.reportedEmpty = s.reportedEmpty) : s.close t = t.sArbiter := by
  unfold State.close; rw [fArbiter_quiet t hf, testNotice_same s t hr]

/-! ## The fields that the closing and the follow-up keep -/

theorem base_pending (s : State) : s.base.pending = s.pending := rfl
theorem base_freeCount (s : State) : s.base.freeCount = s.freeCount := rfl
theorem base_bridgeTime (s : State) : s.base.bridgeTime = s.bridgeTime := rfl
theorem base_portS (s : State) : s.base.portS = s.portS := rfl
theorem base_portF (s : State) : s.base.portF = s.portF := rfl
theorem base_points (s : State) : s.base.points = s.points := rfl
theorem base_plan (s : State) : s.base.plan = s.plan := rfl
theorem base_payloads (s : State) : s.base.payloads = s.payloads := rfl
theorem base_sliceDeadline (s : State) : s.base.sliceDeadline = s.sliceDeadline := rfl
theorem base_silence (s : State) : s.base.silence = s.silence := rfl
theorem base_cursor (s : State) : s.base.cursor = s.cursor := rfl
theorem base_resetPending (s : State) : s.base.resetPending = s.resetPending := rfl
theorem base_settings (s : State) : s.base.settings = s.settings := rfl
theorem base_spacing (s : State) : s.base.spacing = s.spacing := rfl
theorem base_counters (s : State) : s.base.counters = s.counters := rfl
theorem base_straps (s : State) : s.base.straps = s.straps := rfl
theorem base_loading (s : State) : s.base.loading = s.loading := rfl
theorem base_imageStatus (s : State) : s.base.imageStatus = s.imageStatus := rfl
theorem base_storing (s : State) : s.base.storing = s.storing := rfl
theorem base_configMemory (s : State) : s.base.configMemory = s.configMemory := rfl

theorem base_history (s : State) (a : Nat) : (s.base.station a).history = (s.station a).history := by
  cases a with
  | zero => rfl
  | succ k =>
    have h := congrArg StationRecord.history (getAt_mapTable s.stations StationRecord.fixed k .default)
    exact h

theorem base_config (s : State) (a : Nat) : (s.base.station a).config = (s.station a).config := by
  cases a with
  | zero => rfl
  | succ k =>
    have h := congrArg StationRecord.config (getAt_mapTable s.stations StationRecord.fixed k .default)
    exact h

section
variable (s t : State)
@[simp] theorem close_pending : (s.close t).pending = t.pending := by
  rw [← base_pending, close_base, base_pending]
@[simp] theorem close_freeCount : (s.close t).freeCount = t.freeCount := by
  rw [← base_freeCount, close_base, base_freeCount]
@[simp] theorem close_bridgeTime : (s.close t).bridgeTime = t.bridgeTime := by
  rw [← base_bridgeTime, close_base, base_bridgeTime]
@[simp] theorem close_portS : (s.close t).portS = t.portS := by
  rw [← base_portS, close_base, base_portS]
@[simp] theorem close_portF : (s.close t).portF = t.portF := by
  rw [← base_portF, close_base, base_portF]
@[simp] theorem close_points : (s.close t).points = t.points := by
  rw [← base_points, close_base, base_points]
@[simp] theorem close_plan : (s.close t).plan = t.plan := by
  rw [← base_plan, close_base, base_plan]
@[simp] theorem close_payloads : (s.close t).payloads = t.payloads := by
  rw [← base_payloads, close_base, base_payloads]
@[simp] theorem close_sliceDeadline : (s.close t).sliceDeadline = t.sliceDeadline := by
  rw [← base_sliceDeadline, close_base, base_sliceDeadline]
@[simp] theorem close_silence : (s.close t).silence = t.silence := by
  rw [← base_silence, close_base, base_silence]
@[simp] theorem close_cursor : (s.close t).cursor = t.cursor := by
  rw [← base_cursor, close_base, base_cursor]
@[simp] theorem close_resetPending : (s.close t).resetPending = t.resetPending := by
  rw [← base_resetPending, close_base, base_resetPending]
@[simp] theorem close_settings : (s.close t).settings = t.settings := by
  rw [← base_settings, close_base, base_settings]
@[simp] theorem close_spacing : (s.close t).spacing = t.spacing := by
  rw [← base_spacing, close_base, base_spacing]
@[simp] theorem close_counters : (s.close t).counters = t.counters := by
  rw [← base_counters, close_base, base_counters]
@[simp] theorem close_straps : (s.close t).straps = t.straps := by
  rw [← base_straps, close_base, base_straps]
@[simp] theorem close_loading : (s.close t).loading = t.loading := by
  rw [← base_loading, close_base, base_loading]
@[simp] theorem close_imageStatus : (s.close t).imageStatus = t.imageStatus := by
  rw [← base_imageStatus, close_base, base_imageStatus]
@[simp] theorem close_storing : (s.close t).storing = t.storing := by
  rw [← base_storing, close_base, base_storing]
@[simp] theorem close_configMemory : (s.close t).configMemory = t.configMemory := by
  rw [← base_configMemory, close_base, base_configMemory]
@[simp] theorem close_history (a : Nat) : ((s.close t).station a).history = (t.station a).history := by
  rw [← base_history, close_base, base_history]
@[simp] theorem close_config (a : Nat) : ((s.close t).station a).config = (t.station a).config := by
  rw [← base_config, close_base, base_config]
end

section
variable (due : Bool) (r s : State)
theorem core_pending : s.core.pending = s.pending := rfl
theorem core_freeCount : s.core.freeCount = s.freeCount := rfl
theorem core_bridgeTime : s.core.bridgeTime = s.bridgeTime := rfl
theorem core_portS : s.core.portS = s.portS := rfl
theorem core_portF : s.core.portF = s.portF := rfl
theorem core_points : s.core.points = s.points := rfl
theorem core_plan : s.core.plan = s.plan := rfl
theorem core_payloads : s.core.payloads = s.payloads := rfl
theorem core_sliceDeadline : s.core.sliceDeadline = s.sliceDeadline := rfl
theorem core_silence : s.core.silence = s.silence := rfl
theorem core_cursor : s.core.cursor = s.cursor := rfl
theorem core_resetPending : s.core.resetPending = s.resetPending := rfl
theorem core_settings : s.core.settings = s.settings := rfl
theorem core_spacing : s.core.spacing = s.spacing := rfl
theorem core_counters : s.core.counters = s.counters := rfl
theorem core_straps : s.core.straps = s.straps := rfl
theorem core_loading : s.core.loading = s.loading := rfl
theorem core_imageStatus : s.core.imageStatus = s.imageStatus := rfl
theorem core_storing : s.core.storing = s.storing := rfl
theorem core_configMemory : s.core.configMemory = s.configMemory := rfl
theorem core_passDown : s.core.passDown = s.passDown := rfl
theorem core_alertReserve : s.core.alertReserve = s.alertReserve := rfl
theorem core_passUp : s.core.passUp = s.passUp := rfl
theorem core_replies : s.core.replies = s.replies := rfl
theorem core_noticeSlot : s.core.noticeSlot = s.noticeSlot := rfl
theorem core_drainGuard : s.core.drainGuard = s.drainGuard := rfl
theorem core_lastDrain : s.core.lastDrain = s.lastDrain := rfl
theorem core_replyGuard : s.core.replyGuard = s.replyGuard := rfl
theorem core_wireF : s.core.wireF = s.wireF := rfl
theorem core_wireS : s.core.wireS = s.wireS := rfl
theorem core_queues : s.core.queues = s.queues := rfl
theorem core_highWaterArmed : s.core.highWaterArmed = s.highWaterArmed := rfl
theorem core_noticeNumber : s.core.noticeNumber = s.noticeNumber := rfl

@[simp] theorem followUp_pending : (State.followUp due s).pending = s.pending := by
  rw [← core_pending, followUp_core, core_pending]
@[simp] theorem followUp_freeCount : (State.followUp due s).freeCount = s.freeCount := by
  rw [← core_freeCount, followUp_core, core_freeCount]
@[simp] theorem followUp_bridgeTime : (State.followUp due s).bridgeTime = s.bridgeTime := by
  rw [← core_bridgeTime, followUp_core, core_bridgeTime]
@[simp] theorem followUp_portS : (State.followUp due s).portS = s.portS := by
  rw [← core_portS, followUp_core, core_portS]
@[simp] theorem followUp_portF : (State.followUp due s).portF = s.portF := by
  rw [← core_portF, followUp_core, core_portF]
@[simp] theorem followUp_points : (State.followUp due s).points = s.points := by
  rw [← core_points, followUp_core, core_points]
@[simp] theorem followUp_plan : (State.followUp due s).plan = s.plan := by
  rw [← core_plan, followUp_core, core_plan]
@[simp] theorem followUp_payloads : (State.followUp due s).payloads = s.payloads := by
  rw [← core_payloads, followUp_core, core_payloads]
@[simp] theorem followUp_sliceDeadline : (State.followUp due s).sliceDeadline = s.sliceDeadline := by
  rw [← core_sliceDeadline, followUp_core, core_sliceDeadline]
@[simp] theorem followUp_silence : (State.followUp due s).silence = s.silence := by
  rw [← core_silence, followUp_core, core_silence]
@[simp] theorem followUp_cursor : (State.followUp due s).cursor = s.cursor := by
  rw [← core_cursor, followUp_core, core_cursor]
@[simp] theorem followUp_resetPending : (State.followUp due s).resetPending = s.resetPending := by
  rw [← core_resetPending, followUp_core, core_resetPending]
@[simp] theorem followUp_settings : (State.followUp due s).settings = s.settings := by
  rw [← core_settings, followUp_core, core_settings]
@[simp] theorem followUp_spacing : (State.followUp due s).spacing = s.spacing := by
  rw [← core_spacing, followUp_core, core_spacing]
@[simp] theorem followUp_counters : (State.followUp due s).counters = s.counters := by
  rw [← core_counters, followUp_core, core_counters]
@[simp] theorem followUp_straps : (State.followUp due s).straps = s.straps := by
  rw [← core_straps, followUp_core, core_straps]
@[simp] theorem followUp_loading : (State.followUp due s).loading = s.loading := by
  rw [← core_loading, followUp_core, core_loading]
@[simp] theorem followUp_imageStatus : (State.followUp due s).imageStatus = s.imageStatus := by
  rw [← core_imageStatus, followUp_core, core_imageStatus]
@[simp] theorem followUp_storing : (State.followUp due s).storing = s.storing := by
  rw [← core_storing, followUp_core, core_storing]
@[simp] theorem followUp_configMemory : (State.followUp due s).configMemory = s.configMemory := by
  rw [← core_configMemory, followUp_core, core_configMemory]
@[simp] theorem followUp_passDown : (State.followUp due s).passDown = s.passDown := by
  rw [← core_passDown, followUp_core, core_passDown]
@[simp] theorem followUp_alertReserve : (State.followUp due s).alertReserve = s.alertReserve := by
  rw [← core_alertReserve, followUp_core, core_alertReserve]
@[simp] theorem followUp_passUp : (State.followUp due s).passUp = s.passUp := by
  rw [← core_passUp, followUp_core, core_passUp]
@[simp] theorem followUp_replies : (State.followUp due s).replies = s.replies := by
  rw [← core_replies, followUp_core, core_replies]
@[simp] theorem followUp_noticeSlot : (State.followUp due s).noticeSlot = s.noticeSlot := by
  rw [← core_noticeSlot, followUp_core, core_noticeSlot]
@[simp] theorem followUp_drainGuard : (State.followUp due s).drainGuard = s.drainGuard := by
  rw [← core_drainGuard, followUp_core, core_drainGuard]
@[simp] theorem followUp_lastDrain : (State.followUp due s).lastDrain = s.lastDrain := by
  rw [← core_lastDrain, followUp_core, core_lastDrain]
@[simp] theorem followUp_replyGuard : (State.followUp due s).replyGuard = s.replyGuard := by
  rw [← core_replyGuard, followUp_core, core_replyGuard]
@[simp] theorem followUp_wireF : (State.followUp due s).wireF = s.wireF := by
  rw [← core_wireF, followUp_core, core_wireF]
@[simp] theorem followUp_wireS : (State.followUp due s).wireS = s.wireS := by
  rw [← core_wireS, followUp_core, core_wireS]
@[simp] theorem followUp_queues : (State.followUp due s).queues = s.queues := by
  rw [← core_queues, followUp_core, core_queues]
@[simp] theorem followUp_highWaterArmed : (State.followUp due s).highWaterArmed = s.highWaterArmed := by
  rw [← core_highWaterArmed, followUp_core, core_highWaterArmed]
@[simp] theorem followUp_noticeNumber : (State.followUp due s).noticeNumber = s.noticeNumber := by
  rw [← core_noticeNumber, followUp_core, core_noticeNumber]
@[simp] theorem settle_pending : s.settle.pending = s.pending := followUp_pending true s
@[simp] theorem settle_freeCount : s.settle.freeCount = s.freeCount := followUp_freeCount true s
@[simp] theorem settle_bridgeTime : s.settle.bridgeTime = s.bridgeTime := followUp_bridgeTime true s
@[simp] theorem settle_portS : s.settle.portS = s.portS := followUp_portS true s
@[simp] theorem settle_portF : s.settle.portF = s.portF := followUp_portF true s
@[simp] theorem settle_points : s.settle.points = s.points := followUp_points true s
@[simp] theorem settle_plan : s.settle.plan = s.plan := followUp_plan true s
@[simp] theorem settle_payloads : s.settle.payloads = s.payloads := followUp_payloads true s
@[simp] theorem settle_sliceDeadline : s.settle.sliceDeadline = s.sliceDeadline := followUp_sliceDeadline true s
@[simp] theorem settle_silence : s.settle.silence = s.silence := followUp_silence true s
@[simp] theorem settle_cursor : s.settle.cursor = s.cursor := followUp_cursor true s
@[simp] theorem settle_resetPending : s.settle.resetPending = s.resetPending := followUp_resetPending true s
@[simp] theorem settle_settings : s.settle.settings = s.settings := followUp_settings true s
@[simp] theorem settle_spacing : s.settle.spacing = s.spacing := followUp_spacing true s
@[simp] theorem settle_counters : s.settle.counters = s.counters := followUp_counters true s
@[simp] theorem settle_straps : s.settle.straps = s.straps := followUp_straps true s
@[simp] theorem settle_loading : s.settle.loading = s.loading := followUp_loading true s
@[simp] theorem settle_imageStatus : s.settle.imageStatus = s.imageStatus := followUp_imageStatus true s
@[simp] theorem settle_storing : s.settle.storing = s.storing := followUp_storing true s
@[simp] theorem settle_configMemory : s.settle.configMemory = s.configMemory := followUp_configMemory true s
@[simp] theorem settle_passDown : s.settle.passDown = s.passDown := followUp_passDown true s
@[simp] theorem settle_alertReserve : s.settle.alertReserve = s.alertReserve := followUp_alertReserve true s
@[simp] theorem settle_passUp : s.settle.passUp = s.passUp := followUp_passUp true s
@[simp] theorem settle_replies : s.settle.replies = s.replies := followUp_replies true s
@[simp] theorem settle_noticeSlot : s.settle.noticeSlot = s.noticeSlot := followUp_noticeSlot true s
@[simp] theorem settle_drainGuard : s.settle.drainGuard = s.drainGuard := followUp_drainGuard true s
@[simp] theorem settle_lastDrain : s.settle.lastDrain = s.lastDrain := followUp_lastDrain true s
@[simp] theorem settle_replyGuard : s.settle.replyGuard = s.replyGuard := followUp_replyGuard true s
@[simp] theorem settle_wireF : s.settle.wireF = s.wireF := followUp_wireF true s
@[simp] theorem settle_wireS : s.settle.wireS = s.wireS := followUp_wireS true s
@[simp] theorem settle_queues : s.settle.queues = s.queues := followUp_queues true s
@[simp] theorem settle_highWaterArmed : s.settle.highWaterArmed = s.highWaterArmed := followUp_highWaterArmed true s
@[simp] theorem settle_noticeNumber : s.settle.noticeNumber = s.noticeNumber := followUp_noticeNumber true s

@[simp] theorem settleFrom_pending : (r.settleFrom s).pending = s.pending := followUp_pending _ s
@[simp] theorem settleFrom_freeCount : (r.settleFrom s).freeCount = s.freeCount := followUp_freeCount _ s
@[simp] theorem settleFrom_bridgeTime : (r.settleFrom s).bridgeTime = s.bridgeTime := followUp_bridgeTime _ s
@[simp] theorem settleFrom_portS : (r.settleFrom s).portS = s.portS := followUp_portS _ s
@[simp] theorem settleFrom_portF : (r.settleFrom s).portF = s.portF := followUp_portF _ s
@[simp] theorem settleFrom_points : (r.settleFrom s).points = s.points := followUp_points _ s
@[simp] theorem settleFrom_plan : (r.settleFrom s).plan = s.plan := followUp_plan _ s
@[simp] theorem settleFrom_payloads : (r.settleFrom s).payloads = s.payloads := followUp_payloads _ s
@[simp] theorem settleFrom_sliceDeadline : (r.settleFrom s).sliceDeadline = s.sliceDeadline := followUp_sliceDeadline _ s
@[simp] theorem settleFrom_silence : (r.settleFrom s).silence = s.silence := followUp_silence _ s
@[simp] theorem settleFrom_cursor : (r.settleFrom s).cursor = s.cursor := followUp_cursor _ s
@[simp] theorem settleFrom_resetPending : (r.settleFrom s).resetPending = s.resetPending := followUp_resetPending _ s
@[simp] theorem settleFrom_settings : (r.settleFrom s).settings = s.settings := followUp_settings _ s
@[simp] theorem settleFrom_spacing : (r.settleFrom s).spacing = s.spacing := followUp_spacing _ s
@[simp] theorem settleFrom_counters : (r.settleFrom s).counters = s.counters := followUp_counters _ s
@[simp] theorem settleFrom_straps : (r.settleFrom s).straps = s.straps := followUp_straps _ s
@[simp] theorem settleFrom_loading : (r.settleFrom s).loading = s.loading := followUp_loading _ s
@[simp] theorem settleFrom_imageStatus : (r.settleFrom s).imageStatus = s.imageStatus := followUp_imageStatus _ s
@[simp] theorem settleFrom_storing : (r.settleFrom s).storing = s.storing := followUp_storing _ s
@[simp] theorem settleFrom_configMemory : (r.settleFrom s).configMemory = s.configMemory := followUp_configMemory _ s
@[simp] theorem settleFrom_passDown : (r.settleFrom s).passDown = s.passDown := followUp_passDown _ s
@[simp] theorem settleFrom_alertReserve : (r.settleFrom s).alertReserve = s.alertReserve := followUp_alertReserve _ s
@[simp] theorem settleFrom_passUp : (r.settleFrom s).passUp = s.passUp := followUp_passUp _ s
@[simp] theorem settleFrom_replies : (r.settleFrom s).replies = s.replies := followUp_replies _ s
@[simp] theorem settleFrom_noticeSlot : (r.settleFrom s).noticeSlot = s.noticeSlot := followUp_noticeSlot _ s
@[simp] theorem settleFrom_drainGuard : (r.settleFrom s).drainGuard = s.drainGuard := followUp_drainGuard _ s
@[simp] theorem settleFrom_lastDrain : (r.settleFrom s).lastDrain = s.lastDrain := followUp_lastDrain _ s
@[simp] theorem settleFrom_replyGuard : (r.settleFrom s).replyGuard = s.replyGuard := followUp_replyGuard _ s
@[simp] theorem settleFrom_wireF : (r.settleFrom s).wireF = s.wireF := followUp_wireF _ s
@[simp] theorem settleFrom_wireS : (r.settleFrom s).wireS = s.wireS := followUp_wireS _ s
@[simp] theorem settleFrom_queues : (r.settleFrom s).queues = s.queues := followUp_queues _ s
@[simp] theorem settleFrom_highWaterArmed : (r.settleFrom s).highWaterArmed = s.highWaterArmed := followUp_highWaterArmed _ s
@[simp] theorem settleFrom_noticeNumber : (r.settleFrom s).noticeNumber = s.noticeNumber := followUp_noticeNumber _ s
end

end Sys2Proof.Machine
end

