-- ==== Sys2Proof/Laws/Follow.lean ====
section
/-! SUPPORT. What the Run Engine's follow-up never takes back, said once: a pending flag stays pending, and the entry of a
terminal step stays as it is. -/

namespace Sys2Proof.Machine

/-- From `s` to `t` no pending flag is cleared and no terminal step's entry is changed. -/
structure Follows (s t : State) : Prop where
  pending  : ∀ e, s.isPending e = true → t.isPending e = true
  terminal : ∀ n, (s.entry n).state.terminal = true → t.entry n = s.entry n

theorem Follows.rfl' (s : State) : Follows s s := ⟨fun _ h => h, fun _ _ => rfl⟩

theorem Follows.trans {s t u : State} (h : Follows s t) (k : Follows t u) : Follows s u :=
  ⟨fun e he => k.pending e (h.pending e he), fun n hn => by
    have := h.terminal n hn
    rw [k.terminal n (by rw [this]; exact hn), this]⟩

theorem follows_of_same {s t : State} (h1 : t.noticePending = s.noticePending) (h2 : t.entries = s.entries) : Follows s t :=
  ⟨fun e he => by simpa [State.isPending, State.pendingGroup, h1] using he, fun n _ => by simp [State.entry, h2]⟩

theorem follows_foldl {α : Type} (f : State → α → State) (h : ∀ s a, Follows s (f s a)) (l : List α) (s : State) :
    Follows s (l.foldl f s) := by
  induction l generalizing s with
  | nil => exact .rfl' s
  | cons a l ih => exact (h s a).trans (ih _)

theorem group_lt (e : NoticeEvent) : e.group < 8 := by cases e <;> decide

/-- A raised event is pending. -/
theorem raise_isPending (s : State) (e : NoticeEvent) : (s.raise e).isPending e = true := by
  simp only [State.isPending, State.pendingGroup, State.raise]
  rw [getAt_putAt_self _ _ _ _ (group_lt e), BitVec.getLsbD_or]
  have : e.mask.getLsbD e.bit = true := by cases e <;> decide
  simp [this]

theorem follows_raise (s : State) (e : NoticeEvent) : Follows s (s.raise e) := by
  refine ⟨fun d hd => ?_, fun _ _ => rfl⟩
  simp only [State.isPending, State.pendingGroup, State.raise] at hd ⊢
  rw [getAt_putAt]
  split
  · next h => rw [BitVec.getLsbD_or, h.1, hd]; rfl
  · exact hd

theorem follows_setEntry (s : State) (n : Nat) (e : StepEntry) (h : (s.entry n).state.terminal = false) :
    Follows s (s.setEntry n e) := by
  refine ⟨fun d hd => by simpa [State.isPending, State.pendingGroup] using hd, fun m hm => ?_⟩
  rw [setEntry_entry, if_neg]
  rintro ⟨rfl, _⟩
  rw [h] at hm; exact absurd hm (by simp)

theorem follows_setSlot (s : State) (i : Nat) (r : Option InjectionRecord) : Follows s (s.setSlot i r) :=
  follows_of_same rfl rfl

theorem follows_updateStation (s : State) (a : Nat) (g : StationRecord → StationRecord) : Follows s (s.updateStation a g) :=
  follows_of_same (by simp) (by simp)

theorem follows_startClock (s : State) (n : Nat) : Follows s (s.startClock n) := follows_of_same rfl rfl

theorem stepState_entry {s : State} {n : Nat} {x : StepState} (h : s.stepState n = x) (hx : x ≠ .idle) :
    (s.entry n).state = x := by
  unfold State.stepState at h
  split at h
  · exact h
  · exact absurd h.symm hx

theorem follows_evaluate (s : State) (n : Nat) : Follows s (s.evaluate n) := by
  unfold State.evaluate
  split
  · next h =>
    have : (s.entry n).state.terminal = false := by rw [stepState_entry h (by decide)]; rfl
    split
    · exact follows_setEntry s n _ this
    · exact .rfl' s
    · split <;> exact follows_setEntry s n _ this
  · exact .rfl' s

theorem follows_evaluateAll (s : State) : Follows s s.evaluateAll := follows_foldl _ follows_evaluate _ s

theorem follows_makeAttempt (s : State) (i : Nat) : Follows s (s.makeAttempt i) := by
  unfold State.makeAttempt; split <;> exact follows_of_same rfl rfl

theorem follows_openRecord (s : State) (i n k c : Nat) : Follows s (s.openRecord i n k c) :=
  (follows_setSlot s i _).trans (follows_makeAttempt _ i)

theorem follows_closeRecord (s : State) (i : Nat) : Follows s (s.closeRecord i) := by
  unfold State.closeRecord
  repeat' split
  · exact follows_openRecord s i _ _ _
  · exact follows_setSlot s i _
  · exact .rfl' s

theorem follows_cancelRecord (s : State) (i : Nat) : Follows s (s.cancelRecord i) := by
  unfold State.cancelRecord
  repeat' split
  all_goals first | exact follows_setSlot s i _ | exact .rfl' s

theorem follows_cancelRecordOf (s : State) (a n : Nat) : Follows s (s.cancelRecordOf a n) := by
  unfold State.cancelRecordOf
  repeat' split
  all_goals first | exact follows_cancelRecord s _ | exact .rfl' s

theorem follows_settleStep (s : State) (n : Nat) (h : (s.entry n).state.terminal = false) : Follows s (s.settleStep n) := by
  unfold State.settleStep; split <;> exact follows_setEntry s n _ h

theorem follows_leaveStep (a : Nat) (b : Bool) (s : State) (n : Nat) : Follows s (State.leaveStep a b s n) := by
  unfold State.leaveStep
  split
  · next h => exact follows_setEntry s n _ (by rw [h]; rfl)
  · next h => exact follows_setEntry s n _ (by rw [h]; rfl)
  · next h =>
    exact ((follows_setEntry s n _ (by rw [h]; rfl)).trans (follows_cancelRecordOf _ a n)).trans (follows_startClock _ n)
  · next h =>
    split
    · exact .rfl' s
    · exact follows_setEntry s n _ (by rw [h]; rfl)
  · exact .rfl' s

theorem follows_leaveRun (s : State) (a : Nat) (b : Bool) : Follows s (s.leaveRun a b) := by
  unfold State.leaveRun
  dsimp only
  split
  · exact (follows_updateStation s a _).trans (follows_foldl _ (follows_leaveStep a b) _ _)
  · exact follows_updateStation s a _

theorem follows_drainEnd (s : State) (a : Nat) : Follows s (s.drainEnd a) := by
  unfold State.drainEnd
  dsimp only
  refine Follows.trans ?_ (follows_leaveRun _ a true)
  split
  · exact (follows_updateStation s a _).trans (follows_raise _ _)
  · exact follows_updateStation s a _

theorem follows_checkDrain (s : State) (a : Nat) : Follows s (s.checkDrain a) := by
  unfold State.checkDrain
  split
  · exact follows_drainEnd s a
  · exact .rfl' s

theorem follows_enterDraining (s : State) (a : Nat) : Follows s (s.enterDraining a) := by
  unfold State.enterDraining
  split
  · exact (follows_updateStation s a _).trans (follows_checkDrain _ a)
  · exact .rfl' s

theorem follows_faultRequest (s : State) (a : Nat) (c : FaultCause) : Follows s (s.faultRequest a c) := by
  unfold State.faultRequest
  repeat' split
  · exact (follows_updateStation s a _).trans (follows_raise _ _)
  all_goals first
    | exact ((follows_updateStation s a _).trans (follows_leaveRun _ a _)).trans (follows_raise _ _)
    | exact (follows_updateStation s a _).trans (follows_leaveRun _ a _)
    | exact .rfl' s

theorem mayAct_entry {s : State} {n : Nat} (h : s.mayAct n = true) : (s.entry n).state.terminal = false := by
  simp only [State.mayAct, Bool.and_eq_true, decide_eq_true_eq] at h
  rw [stepState_entry h.1.1 (by decide)]; rfl

theorem follows_completeFrameless (s : State) (n : Nat) (h : s.mayAct n = true) : Follows s (s.completeFrameless n) := by
  unfold State.completeFrameless
  dsimp only
  split
  · exact (follows_settleStep s n (mayAct_entry h)).trans (follows_enterDraining _ _)
  · exact follows_settleStep s n (mayAct_entry h)

theorem follows_setFeedRecord (s : State) (f : Feed) (r : FeedRecord) : Follows s (s.setFeedRecord f r) := by
  cases f <;> exact follows_of_same rfl rfl

theorem follows_markWait (s : State) (f : Feed) : Follows s (s.markWait f) := by
  unfold State.markWait
  repeat' split
  all_goals first | exact follows_setFeedRecord s f _ | exact .rfl' s

theorem follows_grant (s : State) (i n : Nat) (h : s.mayAct n = true) : Follows s (s.grant i n) := by
  have restore : ∀ (t : State) (a : Nat), Follows t
      (if (t.station a).state = .held then t.updateStation a (fun x => { x with state := .restoring }) else t) := by
    intro t a
    split
    · exact follows_updateStation t a _
    · exact .rfl' t
  unfold State.grant
  dsimp only
  refine Follows.trans ?_ (restore _ _)
  have h1 : Follows s (match (s.step n).feed.feed with | some f => s.createContribution f n | none => s) := by
    split
    · exact follows_of_same rfl rfl
    · exact .rfl' s
  have h2 := h1.trans (follows_openRecord _ i n 0 (if (s.step n).action = some .restore then (s.step n).first else 0))
  refine h2.trans (follows_setEntry _ n _ ?_)
  have hs : ∀ t u : State, u.entries = t.entries → u.entry n = t.entry n := by intro t u hu; simp [State.entry, hu]
  have h3 : ∀ (t : State) (k c : Nat), (t.openRecord i n k c).entries = t.entries := by
    intro t k c
    unfold State.openRecord State.makeAttempt
    split <;> rfl
  rw [hs _ _ (h3 _ _ _)]
  split
  · exact mayAct_entry h
  · exact mayAct_entry h

theorem eligible_mayAct {s : State} {n : Nat} (h : s.eligible n = true) : s.mayAct n = true := by
  simp only [State.eligible, Bool.and_eq_true] at h
  exact h.1.1

theorem follows_settleLoop (fuel : Nat) (due : Bool) (s : State) : Follows s (State.settleLoop fuel due s) := by
  induction fuel generalizing due s with
  | zero => exact .rfl' s
  | succ k ih =>
    simp only [State.settleLoop]
    split
    · next n h =>
      have hn := List.find?_some h
      simp only [Bool.and_eq_true] at hn
      exact ((follows_evaluateAll s).trans (follows_completeFrameless _ n hn.1)).trans (ih _ _)
    · have hw := (follows_evaluateAll s).trans ((follows_markWait _ .a).trans (follows_markWait _ .b))
      split
      · split
        · next i n h =>
          have hn : (((s.evaluateAll.markWait .a).markWait .b).eligible n) = true := by
            unfold State.nextGrant at h
            split at h
            · rw [Option.map_eq_some_iff] at h
              obtain ⟨m, hm, he⟩ := h
              cases he
              exact List.find?_some hm
            · cases h
          exact (hw.trans (follows_grant _ i n (eligible_mayAct hn))).trans (ih _ _)
        · exact hw
      · exact follows_evaluateAll s

theorem follows_clearMembers (s : State) : Follows s s.clearMembers := follows_of_same rfl rfl

theorem follows_drainMembers (s : State) : Follows s s.drainMembers :=
  (follows_foldl _ follows_enterDraining _ s).trans (follows_clearMembers _)

theorem follows_closeRun (s : State) (o : RunOutcome) : Follows s (s.closeRun o) := by
  unfold State.closeRun
  refine Follows.trans (follows_of_same ?_ ?_) (follows_raise _ _) <;> rfl

/-- The Run Engine's follow-up clears no pending flag and leaves the entries of terminal steps. -/
theorem follows_followUp (due : Bool) (s : State) : Follows s (State.followUp due s) := by
  unfold State.followUp State.testRunEnd
  split
  · split
    · exact (follows_settleLoop 200 due s).trans ((follows_drainMembers _).trans (follows_closeRun _ _))
    · exact follows_settleLoop 200 due s
  · exact .rfl' s

theorem follows_settle (s : State) : Follows s s.settle := follows_followUp true s

theorem follows_settleFrom (s t : State) : Follows t (s.settleFrom t) := follows_followUp _ t

end Sys2Proof.Machine
end

