-- ==== Sys2Proof/Laws/Image.lean ====
section
/-! SUPPORT. Reading back what was written in order: a section of records, and the check at the end of an image. -/

namespace Sys2Proof.Machine

/-- A section of records of one size, each read back as `g` of what was written, is read in order. -/
theorem readRecords_flatMap {α β : Type} (size : Nat) (read : List Byte → Option β) (write : α → List Byte) (g : α → β)
    (rs : List α) (rest : List Byte) (h : ∀ r ∈ rs, (write r).length = size ∧ read (write r) = some (g r)) :
    readRecords size read rs.length (rs.flatMap write ++ rest) = some (rs.map g) := by
  induction rs with
  | nil => rfl
  | cons r rs ih =>
    obtain ⟨h1, h2⟩ := h r (List.mem_cons_self ..)
    have ih' := ih (fun x hx => h x (List.mem_cons_of_mem _ hx))
    have e1 : ((r :: rs).flatMap write ++ rest).take size = write r := by
      simp only [List.flatMap_cons, List.append_assoc]
      rw [← h1]
      exact List.take_left
    have e2 : ((r :: rs).flatMap write ++ rest).drop size = rs.flatMap write ++ rest := by
      simp only [List.flatMap_cons, List.append_assoc]
      rw [← h1]
      exact List.drop_left
    simp only [List.length_cons, readRecords, e1, e2, h2, ih', List.map_cons]

@[simp] theorem checkBytes_length (bs : List Byte) : (checkBytes bs).length = 2 := rfl

/-- The check that a STORE appends is the check that a load forms. -/
theorem imageChecks_append (body : List Byte) (h : body.length = 6669 + 4 * imagePoints (body ++ checkBytes body)) :
    imageChecks (body ++ checkBytes body) = true := by
  have e1 : (body ++ checkBytes body).take body.length = body := List.take_left
  have e2 : (body ++ checkBytes body).drop body.length = checkBytes body := List.drop_left
  have e3 : (checkBytes body).take 2 = checkBytes body := rfl
  unfold imageChecks
  rw [← h]
  simp only [e1, e2, e3, List.length_append, checkBytes_length, le_refl, decide_true, Bool.and_self]

/-- An image that passes the first three tests of R198 is read record by record. -/
theorem readImage_tests (m : List Byte) (h1 : m.take 2 = imageMarker) (h2 : imagePoints m ≤ 256) (h3 : imageChecks m = true) :
    readImage m = readImageRecords m := by
  have : ¬ Config.pinnedRecords < imagePoints m := by unfold Config.pinnedRecords; omega
  unfold readImage
  simp [h1, this, h3]

/-- An image whose sections are read passes the last two tests and gives their clamped records. -/
theorem readImageRecords_eq (m : List Byte) (t : Settings) (a b : Nat × Nat) (cs : List StationConfig) (rs : List StepRecord)
    (ps : List PayloadRecord) (qs : List (Nat × Nat × Nat)) (h1 : readSettings ((m.drop 2).take 15) = some t)
    (h2 : readFeedImage ((m.drop 17).take 4) = some a) (h3 : readFeedImage ((m.drop 21).take 4) = some b)
    (h4 : readRecords 7 readStationConfig 126 (m.drop 25) = some cs) (h5 : readRecords 26 readStep 96 (m.drop 907) = some rs)
    (h6 : readRecords 51 readPayloadImage 64 (m.drop 3403) = some ps)
    (h7 : readRecords 4 readPointEntry (imagePoints m) (m.drop 6669) = some qs)
    (h8 : stepNumbers.any (fun n => (rs.getD n .default).badRecord n) = false) :
    readImageRecords m = some { settings := t.clamp, feedA := a, feedB := b, stations := cs.map StationConfig.clamp
                                plan := rs.map StepRecord.clamp, payloads := ps, points := qs } := by
  unfold readImageRecords
  simp only [h1, h2, h3, h4, h5, h6, h7, h8, Option.bind_eq_bind, Option.bind_some, Bool.false_eq_true, if_false]
  rfl

end Sys2Proof.Machine
end

