-- ==== Sys2Proof/Laws/Operations.lean ====
section
/-! SUPPORT. What the shared operations of the lines, the pool and the replies do, each said once. -/

namespace Sys2Proof.Machine

variable (s : State)

/-! ## Receive errors -/

@[simp] theorem count_bridgeTime (c : Counter) : (s.count c).bridgeTime = s.bridgeTime := by
  unfold State.count; dsimp only; repeat' split
  all_goals rfl

@[simp] theorem count_port (c : Counter) (p : Port) : (s.count c).port p = s.port p := by
  unfold State.count; dsimp only; repeat' split
  all_goals cases p <;> rfl

theorem count_counted (c d : Counter) : (s.count c).counter d = if d = c then counted (s.counter d) else s.counter d := by
  rw [count_counter]
  unfold counted
  by_cases h : c = d
  · subst h; by_cases hf : s.counter c < 255 <;> simp [hf]
  · simp [h, Ne.symm h]

theorem receiveError_port (p : Port) (e : ReceiveError) :
    (s.receiveError p e).port p = (s.port p).takeError s.bridgeTime e := by
  unfold State.receiveError; dsimp only; split <;> simp

theorem receiveError_other (p q : Port) (e : ReceiveError) (h : q ≠ p) : (s.receiveError p e).port q = s.port q := by
  have hset : ∀ (t : State) (x : PortState), (t.setPort p x).port q = t.port q := by
    intro t x; cases p <;> cases q <;> first | exact absurd rfl h | rfl
  unfold State.receiveError; dsimp only; split <;> simp [hset]

theorem receiveError_counter (p : Port) (e : ReceiveError) (c : Counter) :
    (s.receiveError p e).counter c = if c = e.counter p then counted (s.counter c) else s.counter c := by
  have hset : ∀ (t : State) (x : PortState), (t.setPort p x).counter c = t.counter c := by intro t x; cases p <;> rfl
  unfold State.receiveError; dsimp only; split
  · rw [raise_counter, hset, count_counted]
  · rw [hset, count_counted]

theorem setAssembly_port (p : Port) (x : Assembly) : (s.setAssembly p x).port p = { s.port p with assembly := x } := by
  simp [State.setAssembly]

@[simp] theorem setAssembly_counters (p : Port) (x : Assembly) : (s.setAssembly p x).counters = s.counters := by
  simp [State.setAssembly]

@[simp] theorem setAssembly_bridgeTime (p : Port) (x : Assembly) : (s.setAssembly p x).bridgeTime = s.bridgeTime := by
  simp [State.setAssembly]

/-! ## The closing of an event, on the ports and counters -/

@[simp] theorem close_port (t : State) (p : Port) : (s.close t).port p = t.port p := by cases p <;> simp [State.port]
@[simp] theorem close_counter (t : State) (c : Counter) : (s.close t).counter c = t.counter c := by simp [State.counter]

/-! ## The pool -/

theorem find_putPoint (r : PointRecord) (ps : List PointRecord) (a c : Nat) :
    (putPoint r ps).find? (fun p => p.names a c)
      = if r.names a c = true then some r else ps.find? (fun p => p.names a c) := by
  induction ps with
  | nil => by_cases h : r.names a c = true <;> simp [putPoint, h]
  | cons p ps ih =>
    unfold putPoint
    by_cases hr : r.names a c = true
    · rw [if_pos hr] at ih ⊢
      split
      · simp [hr]
      · split
        · simp [hr]
        · next h1 h2 =>
          have : p.names a c = false := by
            simp only [PointRecord.names, Bool.and_eq_true, decide_eq_true_eq] at hr h2
            simp only [PointRecord.names, Bool.and_eq_false_iff, decide_eq_false_iff_not]
            rw [← hr.1, ← hr.2]
            by_contra hc
            simp only [not_or, not_not] at hc
            exact h2 hc
          simp [this, ih]
    · rw [if_neg hr] at ih ⊢
      split
      · simp [hr]
      · split
        · next h1 h2 =>
          have : p.names a c = false := by
            simp only [PointRecord.names, Bool.and_eq_true, decide_eq_true_eq] at hr h2
            simp only [PointRecord.names, Bool.and_eq_false_iff, decide_eq_false_iff_not]
            rw [h2.1, h2.2]
            by_contra hc
            simp only [not_or, not_not] at hc
            exact hr hc
          simp [hr, this]
        · simp only [List.find?_cons]; rw [ih]

/-- A record written is the one found for its station and channel; every other is found as before. -/
theorem writePoint_findPoint (r : PointRecord) (a c : Nat) :
    (s.writePoint r).findPoint a c = if r.names a c = true then some r else s.findPoint a c :=
  find_putPoint r s.points a c

/-! ## Replies -/

/-- A reply placed with room stands at the tail; without room it is lost and counted. -/
theorem placeReply_eq (r : Reply) : s.placeReply r =
    if s.replies.length < 16 then { s with replies := s.replies ++ [r] } else s.count .repliesLost := rfl

end Sys2Proof.Machine
end

