-- ==== Sys2Proof/Laws/Requests.lean ====
section
/-! SUPPORT. What a REQUEST does, said once: when it is executed, how its response becomes its ANSWER, and what its command
answers when the F-port takes nothing. -/

namespace Sys2Proof.Machine

variable {s : State}

/-! ## The two marks of a quiet transmitter -/

theorem fChoice_congr {t : State} (h1 : t.passDown = s.passDown) (h2 : t.alertReserve = s.alertReserve)
    (h3 : t.drainGuard = s.drainGuard) (h4 : t.stations = s.stations) (h5 : t.queues = s.queues)
    (h6 : t.lastDrain = s.lastDrain) (h7 : t.slots = s.slots) : t.fChoice = s.fChoice := by
  have hst : ∀ a, t.station a = s.station a := by intro a; cases a <;> simp [State.station, h4]
  have hq : ∀ a, t.queue a = s.queue a := by intro a; cases a <;> simp [State.queue, h5]
  have hslot : ∀ i, t.slot i = s.slot i := by intro i; simp [State.slot, h7]
  have hoff : t.drainOffers = s.drainOffers := by unfold State.drainOffers; simp [hst, hq]
  have hdrain : t.drainChoice = s.drainChoice := by unfold State.drainChoice; simp [hoff, h6]
  have hinj : t.injectionChoice = s.injectionChoice := by
    have e1 : t.offersInjection = s.offersInjection := by funext i; simp [State.offersInjection, hslot]
    have e2 : t.slotStep = s.slotStep := by funext i; simp [State.slotStep, hslot]
    unfold State.injectionChoice; rw [e1, e2]
  unfold State.fChoice
  rw [h1, h2, h3, hdrain, hinj]

/-- A state that differs in nothing the F-port arbiter reads has a quiet transmitter when the other has. -/
theorem FQuiet_congr {t : State} (h : s.FQuiet) (h0 : t.wireF = s.wireF) (h1 : t.passDown = s.passDown)
    (h2 : t.alertReserve = s.alertReserve) (h3 : t.drainGuard = s.drainGuard) (h4 : t.stations = s.stations)
    (h5 : t.queues = s.queues) (h6 : t.lastDrain = s.lastDrain) (h7 : t.slots = s.slots) : t.FQuiet := by
  unfold State.FQuiet
  rw [h0, fChoice_congr h1 h2 h3 h4 h5 h6 h7]
  exact h

/-- A busy transmitter is quiet. -/
theorem FBusy_quiet (h : s.FBusy) : s.FQuiet := .inl h

theorem reportedEmpty_congr {t : State} (h1 : t.settings = s.settings) (h2 : t.noticePending = s.noticePending) :
    t.reportedEmpty = s.reportedEmpty := by
  have : t.reportedGroup = s.reportedGroup := by funext g; simp [State.reportedGroup, State.pendingGroup, h1, h2]
  unfold State.reportedEmpty State.reported
  rw [this]

/-- An event that changes nothing the F-port arbiter or the reported set read, with a quiet F-port transmitter: the S-port arbiter
alone is left to choose. -/
theorem concluded_quiet (t : State) (h : s.FQuiet) (h0 : t.wireF = s.wireF) (h1 : t.passDown = s.passDown)
    (h2 : t.alertReserve = s.alertReserve) (h3 : t.drainGuard = s.drainGuard) (h4 : t.stations = s.stations)
    (h5 : t.queues = s.queues) (h6 : t.lastDrain = s.lastDrain) (h7 : t.slots = s.slots)
    (h8 : t.settings = s.settings) (h9 : t.noticePending = s.noticePending) : s.concluded t = .next t.sArbiter := by
  unfold State.concluded
  rw [close_quiet s t (FQuiet_congr h h0 h1 h2 h3 h4 h5 h6 h7) (reportedEmpty_congr h8 h9)]

/-! ## Requests -/

/-- A NOTICE that the set does not ask for is not placed. -/
theorem testNotice_empty (h : s.reportedEmpty = true) (b : Bool) : s.testNotice b = s := by simp [State.testNotice, h]

/-- A REQUEST that is executed reaches its request code with only the assembly in IDLE and the silence timer reloaded. -/
theorem requestArrival_ready (h : Ready s) (seq code : Byte) (args : List Byte) :
    s.requestArrival seq (code :: args) =
      (if !s.reportedEmpty && (s.heard.execute code args).state.reportedEmpty then
        ((s.heard.execute code args).finish s.reportedEmpty seq code).testNotice true
      else (s.heard.execute code args).finish s.reportedEmpty seq code) := by
  have h1 : (s.endFrame .s).reloadSilence.endSilence = s.heard := by
    unfold State.endSilence State.heard
    simp [State.reloadSilence, State.endFrame, State.setPort, h.present]
  have h2 : s.heard.loading = false := h.loaded
  have h3 : s.heard.resetPending = none := h.noReset
  have h4 : s.heard.reportedEmpty = s.reportedEmpty := reportedEmpty_congr rfl rfl
  have h5 : (s.endFrame .s).reportedEmpty = s.reportedEmpty := reportedEmpty_congr rfl rfl
  unfold State.requestArrival State.arrive State.sArrival
  dsimp only
  rw [h1, h5]
  cases hw : s.reportedEmpty <;>
    simp [State.classifyDown, State.request, Response.afterNotice, State.respond, h2, h3, h4, hw]

/-- The ANSWER of a request that is no executed reset is placed at the tail of the reply queue, formed from the state at the end
of the event. -/
theorem finish_quiet (r : Response) (b : Bool) (seq code : Byte) (hq : r.state.FQuiet) (hr : r.isReset = false)
    (hroom : r.state.replies.length < Config.replyPlaces) :
    r.finish b seq code = { r.state with replies := r.state.replies ++
      [{ frame := answerFrame seq code r.status r.wrapped (r.detail r.state), isReset := false }] } := by
  unfold Response.finish
  rw [fArbiter_quiet _ hq]
  simp [hr, State.placeReply, hroom]

/-- A request that leaves the F-port's transmitter nothing to take: its command answers what the response changes, the silence
timer and the ANSWER; a NOTICE when it has taken the reported set from empty to not empty; and the S-port's choice. -/
theorem concluded_response (h : Ready s) (seq code : Byte) (args : List Byte) (r : Response)
    (hr : s.heard.execute code args = r) (hq : r.state.FQuiet) (hreset : r.isReset = false)
    (hroom : r.state.replies = s.replies) :
    s.concluded (s.requestArrival seq (code :: args)) = .next (State.sArbiter (State.testNotice { r.state with
      replies := s.replies ++
        [{ frame := answerFrame seq code r.status r.wrapped (r.detail r.state), isReset := false }] } s.reportedEmpty)) := by
  have hroom' : r.state.replies.length < Config.replyPlaces := by rw [hroom]; exact h.room
  have hq' : State.FQuiet { r.state with replies := s.replies ++
      [{ frame := answerFrame seq code r.status r.wrapped (r.detail r.state), isReset := false }] } :=
    FQuiet_congr hq rfl rfl rfl rfl rfl rfl rfl rfl
  have hrep : State.reportedEmpty { r.state with replies := s.replies ++
      [{ frame := answerFrame seq code r.status r.wrapped (r.detail r.state), isReset := false }] }
      = r.state.reportedEmpty := reportedEmpty_congr rfl rfl
  unfold State.concluded State.close
  rw [requestArrival_ready h, hr, finish_quiet r _ seq code hq hreset hroom', hroom]
  split
  · next he =>
    simp only [Bool.and_eq_true] at he
    rw [testNotice_empty (hrep.trans he.2), fArbiter_quiet _ hq']
  · rw [fArbiter_quiet _ hq']

/-- A request's command when its response leaves the F-port's transmitter nothing to take and the reported set as it was. -/
theorem concluded_ready (h : Ready s) (seq code : Byte) (args : List Byte) (r : Response)
    (hr : s.heard.execute code args = r) (hq : r.state.FQuiet) (hreset : r.isReset = false)
    (hroom : r.state.replies = s.replies) (hset : r.state.settings = s.settings)
    (hpend : r.state.noticePending = s.noticePending) :
    s.concluded (s.requestArrival seq (code :: args)) = .next (State.sArbiter { r.state with replies := s.replies ++
      [{ frame := answerFrame seq code r.status r.wrapped (r.detail r.state), isReset := false }] }) := by
  rw [concluded_response h seq code args r hr hq hreset hroom]
  have : State.reportedEmpty { r.state with replies := s.replies ++
      [{ frame := answerFrame seq code r.status r.wrapped (r.detail r.state), isReset := false }] } = s.reportedEmpty :=
    reportedEmpty_congr hset hpend
  cases hs : s.reportedEmpty <;> simp [State.testNotice, this, hs]

/-- A request that is answered without an effect. -/
theorem concluded_answer (h : Ready s) (hq : s.FQuiet) (seq code : Byte) (args : List Byte) (status : Status)
    (detail : List Byte)
    (hr : s.heard.execute code args
      = { state := s.heard, status := status, wrapped := false, detail := fun _ => detail, isReset := false }) :
    s.concluded (s.requestArrival seq (code :: args)) = .next (s.answered seq code status false detail).sArbiter := by
  rw [concluded_ready h seq code args _ hr (FQuiet_congr hq rfl rfl rfl rfl rfl rfl rfl rfl) rfl rfl rfl rfl]
  rfl

end Sys2Proof.Machine
end

