-- ==== Sys2Proof/Tests/Slice0.lean ====
section
/-! SUPPORT. The model's own tests: the smoke test of WellFormed, small checks of commands against the manual's words, and for
each statement with hypotheses a state and operands that meet them together. -/

namespace Sys2Proof.Tests

-- one theorem after another: each kernel evaluation that waits would hold a thread of its own
set_option Elab.async false

open Sys2Proof.Machine

/-! ## WellFormed: an ill-formed term for each check, and the term beside it that passes -/

/-- A SET of channel 1, value 2, for a station. -/
def setFor (a : Nat) : Frame := { station := a, kind := 10, seq := 7, payload := [1, 0, 2] }
/-- An ORDER for a station. -/
def orderFor (a : Nat) : Frame := { station := a, kind := 11, seq := 8, payload := [1] }
/-- A frame of a kind from a station. -/
def fromStation (a : Nat) (kind : Byte) (payload : List Byte) : Frame :=
  { station := a, kind := kind, seq := 7, payload := payload }
/-- The arguments of every request row with too many bytes, and with the most. -/
def requestRows (n : Nat) : List Instr :=
  let a : List Byte := List.replicate n 0
  [.select 0 a, .get 0 a, .putStations 0 a, .putPlan 0 a, .putPayload 0 a, .putSettings 0 a, .putReadOnly 0 a, .pointGet 0 a,
   .pointList 0 a, .pointPut 0 a, .pointDrop 0 a, .holdStation 0 a, .releaseStation 0 a, .clearStation 0 a, .startRun 0 a,
   .suspendRun 0 a, .resumeRun 0 a, .abortRun 0 a, .runStatus 0 a, .setFeed 0 a, .readLine 0 a, .readClearGroup 0 a,
   .readCounters 0 a, .store 0 a, .warmReset 0 a, .coldReset 0 a]

theorem wf_station : (Instr.sFrameArrival (setFor 128)).wellFormed = false ∧ (Instr.fFrameArrival (setFor 128)).wellFormed = false
    ∧ (Instr.sFrameArrival (setFor 127)).wellFormed = true ∧ (Instr.fFrameArrival (setFor 127)).wellFormed = true := by decide
theorem wf_payload : (Instr.sFrameArrival (fromStation 5 20 (List.replicate 49 0))).wellFormed = false
    ∧ (Instr.fFrameArrival (fromStation 5 20 (List.replicate 49 0))).wellFormed = false
    ∧ (Instr.sFrameArrival (fromStation 5 20 (List.replicate 48 0))).wellFormed = true := by decide
theorem wf_request_row : (Instr.sFrameArrival (fromStation 0 40 [])).wellFormed = false
    ∧ (Instr.sFrameArrival (fromStation 0 41 [])).wellFormed = true := by decide
theorem wf_slot : (Instr.replyTimeout 8).wellFormed = false ∧ (Instr.closingDeadlineExpiry 8).wellFormed = false
    ∧ (Instr.repollWaitExpiry 8).wellFormed = false ∧ (Instr.replyTimeout 7).wellFormed = true := by decide
theorem wf_step : (Instr.settleExpiry 96).wellFormed = false ∧ (Instr.settleExpiry 95).wellFormed = true := by decide
theorem wf_unknown : (Instr.unknownRequest 0 [48]).wellFormed = false
    ∧ (Instr.unknownRequest 0 (List.replicate 49 0)).wellFormed = false
    ∧ (Instr.unknownRequest 0 []).wellFormed = true ∧ (Instr.unknownRequest 0 [4, 1]).wellFormed = true := by decide
theorem wf_args : (requestRows 48).all (fun i => !i.wellFormed) = true ∧ (requestRows 47).all Instr.wellFormed = true := by
  decide +kernel

/-! ## No word spells a command: the table gives no bits -/

theorem test_decode_none : decodeTableWord 0 0 = none ∧ State.reset.withFetchWord 0 0 = State.reset := ⟨rfl, rfl⟩

/-! ## States -/

/-- The bridge after a load, its transmitters free, nothing listed. -/
def free : State := { State.reset with loading := false }
/-- The same with a frame on the F-port's wire. -/
def idle : State := { free with wireF := some { frame := setFor 9, source := .pass } }
/-- A station configuration: ALWAYS held, quotas 8. -/
def vent : StationConfig :=
  { role := .vent, meterFeed := .none, meterChannel := 0, holdPolicy := .always, holdQuota := 8, retentionQuota := 8
    autoRun := false }
/-- Station 5 with that configuration in a state. -/
def at5 (s : State) (x : StationState) : State := s.setStation 5 { StationRecord.default with config := vent, state := x }
/-- A frame on the S-port's wire too. -/
def busy (s : State) : State := { s with wireS := some (.passUp (setFor 9)) }
/-- A run in progress. -/
def running (s : State) : State := { s with run := { s.run with inProgress := true } }
/-- Station 5 in a state of its own, fault-pending or not, a member or not, with hold policy ALWAYS. -/
def helloed (s : State) (x : StationState) (pending member : Bool) : State :=
  (at5 s x).updateStation 5 (fun r => { r with faultPending := pending, member := member })
/-- The free S-port given back with its frame: the payload of the ANSWER that a command sends when both ports are free. -/
def sent (o : Host.Outcome State Fault Refusal) : List Byte :=
  match o with
  | .next t => match t.wireS with
    | some (.reply r) => r.frame.payload
    | some (.notice f) => f.payload
    | some (.passUp f) => f.payload
    | none => []
  | _ => []
/-- A view of the next state. -/
def after {α : Type} (o : Host.Outcome State Fault Refusal) (g : State → α) : Option α :=
  match o with
  | .next t => some (g t)
  | _ => none

/-! ## Commands -/

-- R198: an empty memory has no marker, so the load fails
theorem test_load_fails : after (exec (.configurationLoadEnd true) State.reset) (fun t => (t.imageStatus, t.loading))
    = some (.fault, false) := by decide +kernel
-- R1: 2^32 - 1 wraps to 0
theorem test_time_wraps : after (exec .bridgeTimeIncrement { idle with bridgeTime := 0xFFFFFFFF }) State.bridgeTime = some 0 := by
  decide +kernel
-- R7: polynomial 1021h, initial value FFFFh, no reflection; by hand for one zero byte
theorem test_check : checkOf [0x00] = 0xE1F0 := by decide
-- R2: the rate straps 1 and 0 give 57600 bit/s
theorem test_line_rate : [lineRate false false, lineRate false true, lineRate true false, lineRate true true]
    = [19200, 38400, 57600, 115200] := by decide
-- R4: a marker character begins a frame, a second one is a framing error
theorem test_character : after (exec (.receiveCharacter .f 5 true true) idle) (fun t => t.portF.assembly)
    = some (.assembling 5 []) := by decide +kernel
theorem test_marker_in_frame :
    after (exec (.receiveCharacter .s 6 true true) (idle.setAssembly .s (.assembling 5 [10])))
      (fun t => (t.portS.assembly, t.counter .sFraming)) = some (.assembling 6 [], 1) := by decide +kernel
-- R6: the gap in ASSEMBLING
theorem test_gap : after (exec (.gapTimeout .s) (idle.setAssembly .s (.assembling 5 [])))
    (fun t => (t.portS.assembly, t.counter .sFraming, t.portS.quiet)) = some (.skipping, 1, some 100) := by decide +kernel
-- R14, R15: a break forces NOISY and raises LINE bit 2 for the F-port; the NOTICE goes out at once
theorem test_break : sent (exec (.breakTaken .f) idle) = [4, 0, 0, 0, 0, 0, 0, 0, 0, 0] := by decide +kernel
-- R16: the end of the break restarts the quiet timer, whose expiry gives GOOD
theorem test_break_end : after (exec (.breakEnd .f) (idle.takeBreak .f)) (fun t => (t.portF.quality, t.portF.quiet))
    = some (.noisy, some 100) := by decide +kernel
theorem test_quiet : after (exec (.quietTimerExpiry .f) (idle.setPort .f { idle.portF with quality := .noisy, quiet := some 0 }))
    (fun t => (t.portF.quality, t.portF.quiet, t.isPending .fGood)) = some (.good, none, true) := by decide +kernel
-- R21: a SET for a HELD station is held, and HOLD-REPLY HELD with length 1 is sent
theorem test_held : sent (exec (.sFrameArrival (setFor 5)) (at5 idle .held)) = [1, 10, 1] := by decide +kernel
-- R23, R30: a SET for an ONLINE station goes out at once
theorem test_passed : after (exec (.sFrameArrival (setFor 5)) (at5 free .online)) (fun t => t.wireF)
    = some (some { frame := setFor 5, source := .pass }) := by decide +kernel
-- R47, R49: a HELLO to an ALWAYS station is recorded and holds it
theorem test_hello : after (exec (.fFrameArrival (fromStation 5 23 [3, 1])) (at5 idle .online))
    (fun t => ((t.station 5).state, (t.station 5).history)) = some (.held, [{ time := 0, cause := 3, kept := true }]) := by
  decide +kernel
-- R64, R66: a SET that has left is pending, its ACK confirms it
theorem test_snoop : after (exec .fTransmitComplete { at5 idle .online with
    wireF := some { frame := setFor 5, source := .pass } }) (fun t => t.findPoint 5 1)
    = some (some { station := 5, channel := 1, confirmed := none, pending := some { value := 2, seq := 7 }, pinned := false }) := by
  decide +kernel
theorem test_ack : after (exec (.fFrameArrival (fromStation 5 21 [])) { at5 idle .online with
    points := [{ station := 5, channel := 1, confirmed := none, pending := some { value := 2, seq := 7 }, pinned := false }] })
    (fun t => t.findPoint 5 1)
    = some (some { station := 5, channel := 1, confirmed := some 2, pending := none, pinned := false }) := by decide +kernel
-- R192: a NOTICE that leaves starts the spacing timer, by default 10 units of 100 ms
theorem test_notice_leaves : after (exec .sTransmitComplete { idle with wireS := some (.notice (setFor 0)) })
    State.spacing = some (some 100) := by decide +kernel

/-- A used step of station 5 that sends its payload record 0, with 1 retry and a reply timeout of 20 units. -/
def sending : StepRecord :=
  { StepRecord.default with used := true, station := 5, action := some .fixedSet, ramp := 1, replyTimeout := 20, retries := 1
                            causeMask := 0xFF }
/-- Step 0 is that step, ISSUED, its attempt outstanding in slot 0, in a run. -/
def issued (attempts : List Byte) : State :=
  { running (at5 idle .restoring) with
    plan := putAt idle.plan 0 sending
    entries := putAt idle.entries 0 { StepEntry.reset with state := .issued, attempts := 1 }
    slots := putAt idle.slots 0 (some
      { station := 5, step := 0, closing := false, frameIndex := 0, startChannel := 0, attempts := attempts
        outstanding := some 224, ready := none, deadline := some 20, pollCount := 1, repollWait := false
        builtHighest := none, further := none })
    injectionSeq := 225 }

-- R130: the first timeout retries with the next seq of the band
theorem test_retry : after (exec (.replyTimeout 0) (busy (issued [224]))) (fun t => ((t.slot 0).map InjectionRecord.attempts,
    t.counter .stepRetries)) = some (some [224, 225], 1) := by decide +kernel
-- R130, R139: the last one fails the step NO-REPLY and leaves the record CLOSING
theorem test_no_reply : after (exec (.replyTimeout 0) (busy (issued [224, 225]))) (fun t => ((t.entry 0).state, (t.entry 0).cause,
    (t.slot 0).map InjectionRecord.closing)) = some (.failed, .noReply, some true) := by decide +kernel
-- R131, R132, R116: the ACK of the attempt ends the step and, as nothing else is left, the run
theorem test_accepted : after (exec (.fFrameArrival { station := 5, kind := 21, seq := 224, payload := [] }) (issued [224]))
    (fun t => ((t.entry 0).state, t.slot 0, t.run.lastOutcome, t.passUp)) = some (.done, none, .complete, []) := by
  decide +kernel
-- R136: a CLOSING record closes at its deadline
theorem test_closing : after (exec (.closingDeadlineExpiry 0) (idle.setSlot 0 (some
    { station := 5, step := 0, closing := true, frameIndex := 0, startChannel := 0, attempts := [224], outstanding := none
      ready := none, deadline := some 20, pollCount := 1, repollWait := false, builtHighest := none, further := none })))
    (fun t => (t.slot 0, t.counter .lateReplies)) = some (none, 0) := by decide +kernel
-- R138: a SETTLING step is DONE at its expiry
theorem test_settle : after (exec (.settleExpiry 0) { idle with
    entries := putAt idle.entries 0 { StepEntry.reset with state := .settling, settle := some 0 } })
    (fun t => (t.entry 0).state) = some .done := by decide +kernel
-- R150: P 300, S 100, R 10, elapsed 3: 100 + ceil(200 * 7 / 10) = 240; at elapsed 10 the value is S
theorem test_value : (Contribution.value { step := 0, feed := .a, peak := 300, steady := 100, ramp := 10, elapsed := 3
                                           running := true }) = 240
    ∧ (Contribution.value { step := 0, feed := .a, peak := 300, steady := 100, ramp := 10, elapsed := 10, running := true }) = 100 := by
  decide
-- R151, R152: the last advance completes the ramp, and on an unmetered feed the contribution is folded
theorem test_slice : after (exec .sliceExpiry { idle with contributions :=
    [{ step := 0, feed := .a, peak := 300, steady := 100, ramp := 10, elapsed := 9, running := true }] })
    (fun t => (t.contributions, t.feedA.standing)) = some ([], 100) := by decide +kernel
-- R166, R167: FREEZE adds SILENCE to a run
theorem test_silence : after (exec .silenceTimerExpiry (running idle)) (fun t => (t.silence.silent, t.run.causes.silence,
    t.silence.suppress)) = some (true, true, true) := by decide +kernel
theorem test_second : after (exec .secondTimerExpiry { idle with silence := { idle.silence with
    timer := none, silent := true, duration := 65535, second := some 0 } }) (fun t => t.silence.duration) = some 65535 := by
  decide +kernel
-- R192: with the set empty the expiry places nothing
theorem test_spacing : after (exec .spacingTimerExpiry { idle with spacing := some 0 }) (fun t => (t.spacing, t.wireS))
    = some (none, none) := by decide +kernel
-- R176: ANSWER payloads: the code, the status, the mark, then the data
theorem test_unknown : sent (exec (.unknownRequest 3 [4]) idle) = [4, 4, 0] := by decide +kernel
theorem test_select : sent (exec (.select 3 [2, 95, 1]) idle) = [1, 0, 0, 2, 95] := by decide +kernel
theorem test_select_out : sent (exec (.select 3 [2, 96, 1]) idle) = [1, 2, 0] := by decide +kernel
-- R179, R180: a GET of STEPSTATE 95 in mode EVERY wraps to 0, mark 1
theorem test_get : sent (exec (.get 3 []) { idle with cursor := { table := .stepState, index := 95, mode := .every } })
    = [2, 0, 1, 6, 95, 0, 0, 0, 0] := by decide +kernel
-- R57: the hold quota 200 is clamped to 32; R58: the station goes ONLINE
theorem test_put_station : after (exec (.putStations 3 [1, 0, 0, 2, 200, 8, 0]) idle) (fun t =>
    ((t.station 1).config.holdQuota, (t.station 1).state, t.cursor.index)) = some (32, .online, 1) := by decide +kernel
-- chapter 10, worked example, request 3: settle 700 is stored as 600, reply timeout 0 as 1, and the cursor goes to 94
theorem test_put_plan : after (exec (.putPlan 3 [1, 14, 6, 0, 0, 0, 0, 0, 0, 1, 90, 0, 0, 0, 0, 0, 0, 0, 0, 1, 2, 188, 0, 0, 0,
    255]) { idle with cursor := { table := .plan, index := 93, mode := .writeOnly } })
    (fun t => ((t.step 93).settle, (t.step 93).replyTimeout, t.cursor.index)) = some (600, 1, 94) := by decide +kernel
-- request 4: predecessor 94 is not lower than 94
theorem test_put_plan_bad : sent (exec (.putPlan 3 [1, 14, 1, 0, 63, 0, 0, 0, 0, 2, 93, 94, 0, 0, 1, 1, 44, 1, 94, 10, 0, 0, 1, 0,
    0, 255]) { idle with cursor := { table := .plan, index := 94, mode := .writeOnly } }) = [3, 3, 0] := by decide +kernel
-- R20: a record of length 12 moves the cursor after part 0
theorem test_put_payload : after (exec (.putPayload 3 ([0, 1, 10, 12] ++ List.replicate 24 9)) { idle with
    cursor := { table := .payload, index := 63, mode := .writeOnly } }) (fun t => ((t.payload 63).length, t.cursor.index))
    = some (12, 0) := by decide +kernel
theorem test_put_settings : after (exec (.putSettings 3 [0, 1, 0, 3, 0, 0, 255, 255, 255, 255, 255, 255, 255, 255, 255])
    { idle with cursor := { table := .settings, index := 0, mode := .none } })
    (fun t => (t.settings.silenceTime, t.settings.stormWindow, getAt t.settings.eventEnables 6 0)) = some (1, 600, 1) := by
  decide +kernel
theorem test_put_read_only : sent (exec (.putReadOnly 3 []) { idle with cursor := { table := .feeds, index := 0, mode := .none } })
    = [3, 3, 0] := by decide +kernel
theorem test_point_put_get : after (exec (.pointPut 3 [5, 1, 1, 0, 1]) (at5 idle .online)) (fun t => sent (exec (.pointGet 4 [5, 1])
    { t with wireS := none })) = some [8, 0, 0, 1, 1, 5, 1, 0, 0, 0, 0] := by decide +kernel
theorem test_point_list : sent (exec (.pointList 3 [5, 0]) { idle with
    points := [{ station := 5, channel := 1, confirmed := some 258, pending := none, pinned := false }] })
    = [9, 0, 0, 1, 0, 1, 1, 2] := by decide +kernel
theorem test_point_drop : sent (exec (.pointDrop 3 [5, 1]) { idle with
    points := [{ station := 5, channel := 1, confirmed := some 258, pending := none, pinned := true }] }) = [11, 0, 0, 1] := by
  decide +kernel
theorem test_hold : sent (exec (.holdStation 3 [5]) (at5 idle .online)) = [16, 0, 0, 2] := by decide +kernel
-- R29, R79: the SET and the ORDER that wait for station 5 are handed over oldest first, the other frame stays
theorem test_hand_over : after (exec (.holdStation 3 [5]) { at5 idle .online with passDown := [setFor 5, setFor 9, orderFor 5] })
    (fun t => (t.queue 5, t.passDown)) = some ([setFor 5, orderFor 5], [setFor 9]) := by decide +kernel
theorem test_release : sent (exec (.releaseStation 3 [5]) (at5 idle .held)) = [17, 0, 0, 1] := by decide +kernel
theorem test_clear : sent (exec (.clearStation 3 [5]) (at5 idle .overridden)) = [18, 0, 0, 1] := by decide +kernel
-- R106, R107, R116: a run with no used step starts with its one member and ends at once, so the answer counts none
theorem test_start : after (exec (.startRun 3 [0]) (at5 idle .held)) (fun t => (t.run.number, t.run.lastOutcome,
    (t.station 5).state)) = some (1, .complete, .online) := by decide +kernel
theorem test_suspend : sent (exec (.suspendRun 3 []) { issued [224] with wireS := none }) = [25, 0, 0, 2] := by decide +kernel
theorem test_resume : sent (exec (.resumeRun 3 []) { issued [224] with
    run := { idle.run with inProgress := true, halting := some 0 } }) = [26, 0, 0, 1] := by decide +kernel
theorem test_abort : sent (exec (.abortRun 3 []) (issued [224])) = [27, 0, 0, 0, 3] := by decide +kernel
theorem test_run_status : sent (exec (.runStatus 3 []) idle) = [28, 0, 0, 0, 0, 255, 0, 0, 0, 0, 0, 0, 0, 0, 0, 0, 0, 0, 0] := by
  decide +kernel
-- R162: 20000 LU is clamped to 16383
theorem test_set_feed : after (exec (.setFeed 3 [1, 0x4E, 0x20, 0, 7]) idle) (fun t => (t.feedB.budget, t.feedB.standing,
    t.feedA.budget)) = some (16383, 7, 0) := by decide +kernel
theorem test_read_line : sent (exec (.readLine 3 []) (idle.takeBreak .f)) = [40, 0, 0, 0, 0, 1, 8, 0, 0] := by decide +kernel
theorem test_read_clear : sent (exec (.readClearGroup 3 [3]) { idle with
    noticePending := putAt idle.noticePending 3 9, spacing := some 0 }) = [41, 0, 0, 3, 9] := by decide +kernel
theorem test_read_counters : sent (exec (.readCounters 3 []) (idle.count .unknownPassed)) = [42, 0, 0, 0, 0, 0, 0, 0, 0, 0, 0, 0, 0,
    0, 0, 0, 0, 0, 1] := by decide +kernel
theorem test_store : after (exec (.store 3 []) (running idle)) (fun t => t.storing) = some none := by decide +kernel
theorem test_store_complete : after (exec (.storeComplete true) { idle with storing := some [1] })
    (fun t => (t.imageStatus, t.configMemory, t.storing)) = some (.stored, [1], none) := by decide +kernel
-- R186: the reset waits for its ANSWER to leave
theorem test_warm_reset : after (exec (.warmReset 3 []) idle) (fun t => after (exec .sTransmitComplete t) (fun u =>
    (t.resetPending, u.resetPending, u.run.lastOutcome))) = some (some (some .warm, none, .abortedByReset)) := by decide +kernel
theorem test_cold_reset : after (exec (.coldReset 3 []) idle) (fun t => after (exec .sTransmitComplete t) (fun u =>
    (t.loading, u.loading))) = some (some (false, true)) := by decide +kernel
theorem test_power_on : after (exec (.powerOnReset { sRate1 := true, sRate0 := false, fRate1 := false, fRate0 := false
                                                     inhibit := true }) idle) (fun t => (t.loading, t.straps.inhibit))
    = some (true, true) := by decide +kernel
theorem test_repoll : after (exec (.repollWaitExpiry 0) (busy (idle.setSlot 0 (some
    { station := 5, step := 0, closing := false, frameIndex := 0, startChannel := 0, attempts := [224], outstanding := none
      ready := none, deadline := some 50, pollCount := 1, repollWait := true, builtHighest := none, further := none }))))
    (fun t => (t.slot 0).map (fun r => (r.attempts, r.pollCount))) = some (some ([225], 2)) := by decide +kernel

/-! ## Witnesses: for each statement with hypotheses, a state and operands that meet them together, clause by clause -/

/-- The invariants at a state that differs from reset in fields they do not read. -/
theorem kept_reset (s : State) (h : s = { State.reset with pending := [.bridgeTimeIncrement] }) :
    Capacities s ∧ PoolKept s ∧ BandKept s ∧ StationsLegal s := by
  subst h
  have hst : ∀ a, State.station { State.reset with pending := [.bridgeTimeIncrement] } a = .default := by
    intro a
    cases a with
    | zero => rfl
    | succ k =>
      show getAt (Vector.replicate 126 StationRecord.default) k .default = .default
      simp [getAt]
  refine ⟨⟨by decide, by decide, by decide, by decide, by decide, by decide, by decide, by decide, ?_, by decide, ?_, ?_⟩,
    ⟨by decide, by decide, by decide, by decide, by decide, by decide, by decide⟩, ⟨?_, ?_, ?_⟩, ⟨?_, ?_, ?_⟩⟩
  · intro c; cases c <;> decide
  · intro a; rw [hst]; decide
  · unfold Cursor.InRange; decide
  · unfold inBand; decide
  · intro n
    show (getAt (Vector.replicate 96 StepRecord.default) n .default).retries ≤ 3
    simp [getAt]; decide
  · intro i r h
    have : getAt (Vector.replicate 8 (none : Option InjectionRecord)) i none = some r := h
    simp [getAt] at this
  · intro a; rw [hst]; decide
  · intro a; rw [hst]; decide
  · intro a; rw [hst]; decide

/-- A state with one command waiting. -/
def waiting : State := { State.reset with pending := [.bridgeTimeIncrement] }

theorem witness_StepRunsTheFrontCommand : waiting.pending = .bridgeTimeIncrement :: [] ∧ State.reset.pending = [] := ⟨rfl, rfl⟩
theorem witness_StepKeepsCapacities : Capacities waiting ∧ step waiting = .next { State.reset with bridgeTime := 1 } :=
  ⟨(kept_reset _ rfl).1, rfl⟩
theorem witness_StepKeepsPointPool : PoolKept waiting ∧ step waiting = .next { State.reset with bridgeTime := 1 } :=
  ⟨(kept_reset _ rfl).2.1, rfl⟩
theorem witness_StepKeepsInjectionBand : BandKept waiting ∧ step waiting = .next { State.reset with bridgeTime := 1 } :=
  ⟨(kept_reset _ rfl).2.2.1, rfl⟩
theorem witness_StepKeepsStationsLegal : StationsLegal waiting ∧ step waiting = .next { State.reset with bridgeTime := 1 } :=
  ⟨(kept_reset _ rfl).2.2.2, rfl⟩

/-! ### An image that loads: 126 lamps, 96 unused MARK steps, 64 empty payloads, no pinned point -/

def copies (n : Nat) (l : List Byte) : List Byte := (List.replicate n ()).flatMap (fun _ => l)
def lampBytes : List Byte := [2, 0, 0, 1, 8, 8, 0]
def markBytes : List Byte := [0, 1, 6, 0, 0, 0, 0, 0, 0, 0, 0, 0, 0, 0, 0, 0, 0, 0, 0, 1, 0, 0, 1, 0, 0, 0xFF]
def emptyBytes : List Byte := [0, 10, 0] ++ List.replicate 48 0
def imageFront : List Byte := [0x5A, 0x26] ++ Settings.default.encode ++ [0, 100, 0, 20, 0, 0, 0, 0]
def imageTail : List Byte := copies 126 lampBytes ++ (copies 96 markBytes ++ copies 64 emptyBytes)
def imageContent : List Byte := imageFront ++ (imageTail ++ [0, 0])
def goodImage : List Byte := imageContent ++ checkBytes imageContent

theorem copies_length (n : Nat) (l : List Byte) : (copies n l).length = n * l.length := by
  unfold copies
  induction n with
  | zero => simp
  | succ k ih => rw [List.replicate_succ, List.flatMap_cons, List.length_append, ih]; ring
theorem copies_read {β : Type} (n : Nat) (l rest : List Byte) (read : List Byte → Option β) (x : β) (h : read l = some x) :
    readRecords l.length read n (copies n l ++ rest) = some ((List.replicate n ()).map (fun _ => x)) := by
  have := readRecords_flatMap l.length read (fun _ : Unit => l) (fun _ => x) (List.replicate n ()) rest (fun _ _ => ⟨rfl, h⟩)
  rwa [List.length_replicate] at this
theorem imageTail_length : imageTail.length = 6642 := by
  unfold imageTail; rw [List.length_append, List.length_append, copies_length, copies_length, copies_length]; rfl
theorem imageContent_length : imageContent.length = 6669 := by
  unfold imageContent; rw [List.length_append, List.length_append, imageTail_length]; rfl
theorem goodImage_eq : goodImage = imageContent ++ checkBytes imageContent := rfl
theorem goodImage_split : goodImage = imageFront ++ (imageTail ++ ([0, 0] ++ checkBytes imageContent)) := by
  unfold goodImage
  rw [show imageContent ++ checkBytes imageContent = (imageFront ++ (imageTail ++ [0, 0])) ++ checkBytes imageContent from rfl,
    List.append_assoc, List.append_assoc]
theorem goodImage_front (k : Nat) : (goodImage.drop k).take (25 - k) = imageFront.drop k := by
  rw [goodImage_split]
  generalize imageTail ++ ([0, 0] ++ checkBytes imageContent) = r
  have : (25 : Nat) = imageFront.length := rfl
  rw [List.take_drop, this]
  by_cases h : k ≤ imageFront.length
  · rw [show k + (imageFront.length - k) = imageFront.length by omega, List.take_left]
  · rw [show k + (imageFront.length - k) = k by omega, List.drop_eq_nil_of_le (by simp), List.drop_eq_nil_of_le (by omega)]
theorem goodImage_25 : goodImage.drop 25 = imageTail ++ ([0, 0] ++ checkBytes imageContent) := by
  rw [goodImage_split]; exact List.drop_left (l₁ := imageFront)
theorem goodImage_907 : goodImage.drop 907
    = copies 96 markBytes ++ (copies 64 emptyBytes ++ ([0, 0] ++ checkBytes imageContent)) := by
  rw [show (907 : Nat) = 25 + (copies 126 lampBytes).length by rw [copies_length]; rfl, ← List.drop_drop, goodImage_25]
  unfold imageTail
  rw [List.append_assoc, List.append_assoc]; exact List.drop_left
theorem goodImage_3403 : goodImage.drop 3403 = copies 64 emptyBytes ++ ([0, 0] ++ checkBytes imageContent) := by
  rw [show (3403 : Nat) = 907 + (copies 96 markBytes).length by rw [copies_length]; rfl, ← List.drop_drop, goodImage_907]
  exact List.drop_left
theorem goodImage_6667 : goodImage.drop 6667 = [0, 0] ++ checkBytes imageContent := by
  rw [show (6667 : Nat) = 25 + imageTail.length by rw [imageTail_length], ← List.drop_drop, goodImage_25]
  exact List.drop_left
theorem goodImage_points : imagePoints goodImage = 0 := by
  have h : ∀ k, goodImage.getD (6667 + k) 0 = ([0, 0] ++ checkBytes imageContent).getD k 0 := by
    intro k; rw [← goodImage_6667]; simp only [List.getD_eq_getElem?_getD, List.getElem?_drop]
  unfold imagePoints
  rw [show (6668 : Nat) = 6667 + 1 from rfl, show goodImage.getD 6667 0 = goodImage.getD (6667 + 0) 0 from rfl, h 0, h 1]
  rfl
theorem goodImage_loads : (readImage goodImage).isSome = true := by
  have r1 : readRecords 7 readStationConfig 126 (goodImage.drop 25)
      = some ((List.replicate 126 ()).map (fun _ => (readStationConfig lampBytes).getD .default)) := by
    rw [goodImage_25]; unfold imageTail; rw [List.append_assoc]; exact copies_read 126 lampBytes _ readStationConfig _ rfl
  have r2 : readRecords 26 readStep 96 (goodImage.drop 907)
      = some ((List.replicate 96 ()).map (fun _ => (readStep markBytes).getD .default)) := by
    rw [goodImage_907]; exact copies_read 96 markBytes _ readStep _ rfl
  have r3 : readRecords 51 readPayloadImage 64 (goodImage.drop 3403)
      = some ((List.replicate 64 ()).map (fun _ => (readPayloadImage emptyBytes).getD .default)) := by
    rw [goodImage_3403]; exact copies_read 64 emptyBytes _ readPayloadImage _ rfl
  have f1 : readFeedImage ((goodImage.drop 17).take 4) = some (100, 20) := by
    have := congrArg (List.take 4) (goodImage_front 17)
    rw [List.take_take, show min 4 (25 - 17) = 4 from rfl] at this
    rw [this]; decide +kernel
  have f2 : readFeedImage ((goodImage.drop 21).take 4) = some (0, 0) := by
    have := goodImage_front 21
    rw [show 25 - 21 = 4 from rfl] at this
    rw [this]; decide +kernel
  have s1 : readSettings ((goodImage.drop 2).take 15) = some Settings.default := by
    have := congrArg (List.take 15) (goodImage_front 2)
    rw [List.take_take, show min 15 (25 - 2) = 15 from rfl] at this
    rw [this]; rfl
  have hm : goodImage.take 2 = imageMarker := by
    have := congrArg (List.take 2) (goodImage_front 0)
    rw [List.take_take] at this; exact this
  have hlen : imageContent.length = 6669 + 4 * imagePoints goodImage := by
    have := goodImage_points; have := imageContent_length; omega
  have hc : imageChecks goodImage = true := by
    rw [goodImage_eq] at hlen ⊢
    exact imageChecks_append imageContent hlen
  have hbad : ∀ x : List StepRecord, x = (List.replicate 96 ()).map (fun _ => (readStep markBytes).getD .default) →
      stepNumbers.any (fun n => (x.getD n .default).badRecord n) = false := by
    rintro x rfl
    rw [List.any_eq_false]
    intro n _
    rw [List.getD_eq_getElem?_getD, List.getElem?_map, List.getElem?_replicate]
    split <;> exact Bool.false_ne_true
  rw [readImage_tests goodImage hm (by rw [goodImage_points]; decide) hc,
    readImageRecords_eq goodImage _ _ _ _ _ _ _ s1 f1 f2 r1 r2 r3 (by rw [goodImage_points]; exact readRecords.eq_1 ..) (hbad _ rfl)]
  exact Option.isSome_some

/-! ### Resets and the image -/

theorem witness_LoadEndTakesImageOrDefaults :
    ((let s := { State.reset with wireF := some { frame := setFor 9, source := .pass } }
     s.loading = true ∧ ((true : Bool) = false ∨ readImage s.configMemory = none) ∧ s.FBusy)
    ∧ (State.reset.loading = true ∧ ((false : Bool) = false ∨ readImage State.reset.configMemory = none))
    ∧ free.loading = false)
    ∧ ∃ m, (let s := { State.reset with configMemory := goodImage, wireF := some { frame := setFor 9, source := .pass } }
      s.loading = true ∧ readImage s.configMemory = some m ∧ s.FBusy) ∧ validStation 1 = true ∧ validStation 126 = true := by
  obtain ⟨m, hm⟩ := Option.isSome_iff_exists.1 goodImage_loads
  exact ⟨⟨⟨rfl, .inr (by decide +kernel), rfl⟩, ⟨rfl, .inl rfl⟩, rfl⟩, m, ⟨rfl, hm, rfl⟩, by decide, by decide⟩
/-- A bridge whose 96 steps are the unused MARK step as a PUT stores it. -/
def storable : State := { free with plan := Vector.replicate 96 ((readStep markBytes).getD .default) }
theorem witness_StoredImageLoadsBack : Storable storable := by
  refine ⟨⟨by decide, by decide, by decide, by decide, by decide⟩, ?_, ?_, ?_, ?_, ?_⟩
  · intro f; cases f <;> decide
  · intro r hr
    have : r = .default := List.eq_of_mem_replicate (n := 126) (by simpa [storable, free, State.reset] using hr)
    subst this; exact ⟨by decide, by decide, by decide⟩
  · intro n hn
    have : storable.step n = (readStep markBytes).getD .default := by
      show getAt (Vector.replicate 96 _) n _ = _
      simp only [getAt, hn, dif_pos]; rw [Vector.getElem_replicate]
    rw [this]
    exact ⟨rfl, rfl, by decide, by decide, by decide, rfl, by decide, by decide, by decide, by decide, by decide, by decide,
      by decide, by decide, rfl⟩
  · intro p hp
    have : p = .default := List.eq_of_mem_replicate (n := 64) (by simpa [storable, free, State.reset] using hp)
    subst this; exact ⟨by decide, rfl⟩
  · exact ⟨by decide, by decide, by decide, by decide, by decide, by decide, by decide⟩

/-- Requests are executed in `free`, whose transmitters are free and to which nothing is offered. -/
theorem free_ready : Ready free ∧ free.FQuiet := ⟨⟨rfl, rfl, rfl, by decide⟩, .inr (by decide +kernel)⟩
/-- Requests are executed with a frame on the F-port's wire. -/
theorem idle_ready : Ready idle ∧ idle.FBusy := ⟨⟨rfl, rfl, rfl, by decide⟩, rfl⟩

theorem witness_StoreWritesTheImage : ((Ready free ∧ free.FQuiet)
    ∧ (let s := running idle; Ready s ∧ s.FQuiet ∧ s.run.inProgress = true)
    ∧ (let s := { idle with storing := some [] }; Ready s ∧ s.FQuiet ∧ s.run.inProgress = false ∧ s.storing.isSome = true))
    ∧ ({ free with storing := some [1] } : State).storing = some [1] ∧ free.storing = none :=
  ⟨⟨free_ready, ⟨⟨rfl, rfl, rfl, by decide⟩, .inl rfl, rfl⟩, ⟨rfl, rfl, rfl, by decide⟩, .inl rfl, rfl, rfl⟩, rfl, rfl⟩
/-- A reset's ANSWER on the S-port's wire. -/
def resetting (k : ResetKind) : State :=
  { idle with wireS := some (.reply { frame := setFor 0, isReset := true }), resetPending := some k }
theorem witness_WarmResetTakesEffect : (resetting .warm).wireS = some (.reply { frame := setFor 0, isReset := true })
    ∧ (resetting .warm).resetPending = some .warm ∧ (resetting .warm).FBusy := ⟨rfl, rfl, rfl⟩
theorem witness_ColdResetTakesEffect : (resetting .cold).wireS = some (.reply { frame := setFor 0, isReset := true })
    ∧ (resetting .cold).resetPending = some .cold := ⟨rfl, rfl⟩
/-- A reply queue of a length. -/
def replying (s : State) (n : Nat) : State := { s with replies := List.replicate n { frame := setFor 0, isReset := false } }
theorem witness_ResetRequestsBecomePending :
    (let s := { idle with storing := some [] }; Ready s ∧ s.FQuiet ∧ s.storing.isSome = true)
    ∧ (let s := replying idle 15; Ready s ∧ s.FQuiet ∧ s.storing = none)
    ∧ (let s := replying idle 16; s.loading = false ∧ s.resetPending = none ∧ s.storing = none
        ∧ Config.replyPlaces ≤ s.replies.length) :=
  ⟨⟨⟨rfl, rfl, rfl, by decide⟩, .inl rfl, rfl⟩, ⟨⟨rfl, rfl, rfl, by decide⟩, .inl rfl, rfl⟩, rfl, rfl, rfl, by decide⟩

/-! ### The lines -/

/-- A port whose window holds 7 times of 1 s ago. -/
def strained : State := { free with bridgeTime := 100, portS := { free.portS with window := List.replicate 7 0 } }
/-- A bridge whose counters all stand at `n`. -/
def counting (n : Nat) : State := { free with counters := Vector.replicate 16 n }
theorem witness_ReceiveErrorEffects_count :
    (counting 127).counter .lateReplies = 127 ∧ (counting 127).isPending .counter128 = false
    ∧ ((counting 127).count .lateReplies).isPending .counter128 = true
    ∧ (counting 126).counter .lateReplies ≠ 127 ∧ (counting 128).counter .lateReplies ≠ 127
    ∧ 255 ≤ (counting 255).counter .unknownPassed ∧ (counting 254).counter .unknownPassed < 255
    ∧ NoticeEvent.storm ≠ .counter128 := by decide +kernel
theorem witness_ReceiveErrorEffects : (strained.port .s).inBreak = false ∧ (strained.port .s).quality = .good
    ∧ ((strained.receiveError .s .framing).port .s).quality = .noisy ∧ Port.f ≠ Port.s
    ∧ ((free.takeBreak .s).port .s).inBreak = true := by decide +kernel
theorem witness_GapBreakAndQuietTimer : (
    ((free.setAssembly .s (.assembling 5 [])).port .s).assembly = .assembling 5 [] ∧ Port.f ≠ Port.s
    ∧ (∀ a d, (free.port .s).assembly ≠ .assembling a d)
    ∧ (∀ a d, ((free.setAssembly .s .skipping).port .s).assembly ≠ .assembling a d))
    ∧ ((free.port .s).inBreak = false ∧ (free.port .s).quality = .good ∧ free.FQuiet)
    ∧ ((free.takeBreak .s).port .s).inBreak = true
    ∧ (let s := free.setPort .s { free.portS with quality := .noisy, quiet := some 0 }
       (s.port .s).quiet.isSome = true ∧ (s.port .s).quality = .noisy ∧ s.FQuiet)
    ∧ (free.port .s).quiet = none ∧ Port.f ≠ Port.s :=
  ⟨⟨rfl, by decide, fun _ _ h => Assembly.noConfusion h, fun _ _ h => Assembly.noConfusion h⟩, ⟨rfl, rfl, free_ready.2⟩, rfl, ⟨rfl, rfl, .inr (by decide +kernel)⟩, rfl, by decide⟩
theorem witness_CharacterTable : (free.port .s).inBreak = false ∧ (free.port .s).assembly = .idle
    ∧ ((free.takeBreak .s).port .s).inBreak = true
    ∧ (127 : Byte).toNat ≤ 127 ∧ 127 < (128 : Byte).toNat
    ∧ ((free.setAssembly .s .skipping).port .s).assembly = .skipping
    ∧ (∀ d ∈ [[10], [10, 7], [10, 7, 48]], ((free.setAssembly .s (.assembling 5 d)).port .s).assembly = .assembling 5 d)
    ∧ (([10, 7] : List Byte).length = 2 ∧ 48 < (49 : Byte).toNat ∧ (48 : Byte).toNat ≤ 48)
    ∧ (([10] : List Byte).length < 2)
    ∧ (2 < ([10, 7, 48] : List Byte).length ∧ ([10, 7, 48] : List Byte).length + 1 < (([10, 7, 48] : List Byte).getD 2 0).toNat + 5)
    ∧ (let d : List Byte := [10, 7, 0, 1]
       let e := d ++ [2]
       ((free.setAssembly .s (.assembling 5 d)).port .s).assembly = .assembling 5 d ∧ 3 ≤ d.length
        ∧ e.length = 3 + (d.getD 2 0).toNat + 2 ∧ (e.drop 3).take 2 ≠ checkBytes (e.take 3)) := by
  decide +kernel
/-- A frame that arrives by its row ends with the assembly in IDLE, so that a stray data character after it is a framing error (R4,
R8); in a break the assembly stays in SKIPPING (R14). -/
theorem test_arrival_ends_in_idle :
    after (exec (.sFrameArrival (setFor 5)) (free.setAssembly .s .skipping)) (fun t =>
      after (exec (.receiveCharacter .s 6 false true) t) (fun u => u.counter .sFraming)) = some (some 1)
    ∧ after (exec (.runStatus 3 []) (free.setAssembly .s (.assembling 5 []))) (fun t => t.portS.assembly) = some .idle
    ∧ after (exec (.sFrameArrival (setFor 5)) (free.takeBreak .s)) (fun t => t.portS.assembly) = some .skipping := by
  decide +kernel
theorem witness_FrameCharactersArrive : (setFor 127).wellFormed = true ∧ (free.port .f).inBreak = false
    ∧ ((free.port .f).assembly = .idle ∨ (free.port .f).assembly = .skipping)
    ∧ (((free.setAssembly .f .skipping).port .f).assembly = .idle ∨ ((free.setAssembly .f .skipping).port .f).assembly = .skipping) := by
  decide +kernel

/-! ### Frames from the supervisor -/

theorem witness_ArrivalReloadsSilenceTimer : (Instr.sFrameArrival (setFor 5)).wellFormed = true
    ∧ (let s := { running free with silence := { free.silence with silent := true } }
       s.silence.silent = true ∧ s.run.inProgress = true ∧ (setFor 5).kind ≠ kindAlert
        ∧ after (exec (.sFrameArrival (setFor 5)) s) (fun t => t.run.inProgress) = some true)
    ∧ (∀ b ∈ [true, false], let s := busy { free with run := { free.run with inProgress := b }
                                                      silence := { free.silence with silent := true } }
       s.silence.silent = true ∧ s.wireS.isSome = true ∧ s.run.inProgress = b) := by decide +kernel
/-- A pass-down FIFO of a length. -/
def downward (s : State) (n : Nat) : State := { s with passDown := List.replicate n (setFor 9) }
theorem witness_PassDownOrDefer : (∀ n ∈ [7, 8], ∀ k ∈ [15, 16], ∀ f ∈ [setFor 1, setFor 127, fromStation 126 99 []],
    let s := downward (replying (busy idle) k) n
    s.silence.silent = false ∧ s.wireF.isSome = true ∧ s.wireS.isSome = true ∧ 1 ≤ f.station ∧ f.station ≤ 127
      ∧ f.kind ≠ kindAlert
      ∧ (f.station = 127 ∨ (f.kind ≠ kindSet ∧ f.kind ≠ kindOrder) ∨ (s.seenState f.station).holds = false))
    ∧ (downward idle 7).passDown.length < 8 ∧ 8 ≤ (downward idle 8).passDown.length := by decide +kernel
theorem witness_HoldEntryKeepsOrder : (∀ x ∈ [StationState.held, .restoring, .draining], ∀ f ∈ [setFor 5, orderFor 5],
    let s := replying (at5 (busy idle) x) 15
    s.silence.silent = false ∧ s.loading = false ∧ s.wireF.isSome = true ∧ s.wireS.isSome = true
      ∧ validStation f.station = true ∧ (f.kind = kindSet ∨ f.kind = kindOrder) ∧ (s.station f.station).state.holds = true
      ∧ (s.queue f.station).length < (s.station f.station).config.holdQuota)
    ∧ (let s := (at5 (busy idle) .held).setQueue 5 (List.replicate 8 (orderFor 5))
       ¬ (s.queue 5).length < (s.station 5).config.holdQuota)
    ∧ (∀ f ∈ [setFor 5], f.kind ≠ kindOrder) ∧ (orderFor 5).kind = kindOrder
    ∧ (let q := [orderFor 5, setFor 5]
       let s := (at5 (busy idle) .held).setQueue 5 q
       isParsedSet (setFor 5) = true ∧ scanQueue (channelSet (setFor 5)) q.reverse = ([orderFor 5], [setFor 5])
        ∧ s.replies.length + 1 < 16 ∧ s.highWaterArmed = true)
    ∧ (let s := { (at5 (busy idle) .held).setQueue 9 (List.replicate 191 (orderFor 9)) with highWaterArmed := false }
       s.occupancy = 191 ∧ s.highWaterArmed = false) := by decide +kernel
/-- An ALERT for a station. -/
def alertFor (a : Nat) : Frame := { station := a, kind := 13, seq := 9, payload := [] }
theorem witness_AlertOverridesItsStation : ∀ n ∈ [7, 8], ∀ r ∈ [none, some (alertFor 9)], ∀ x ∈ [StationState.held, .overridden],
    let s := { downward (running (at5 idle x)) n with alertReserve := r }
    s.silence.silent = false ∧ s.wireF.isSome = true ∧ (alertFor 5).kind = kindAlert ∧ s.seenListed (alertFor 5).station = true
      ∧ (s.station (alertFor 5).station).state ≠ .unlisted ∧ (alertFor 127).station = 127 ∧ s.seenListed 5 = true
      ∧ s.seenListed 9 = false ∧ (∀ a, (alertFor 9).station = 127 ∨ (alertFor 9).station = a → s.seenListed a = false)
      ∧ 1 ≤ (alertFor 9).station ∧ (alertFor 9).station ≤ 127 := by
  have h9 : ∀ s : State, s.seenListed 9 = false → ∀ a, (alertFor 9).station = 127 ∨ (alertFor 9).station = a →
      s.seenListed a = false := by
    rintro s h a (h' | rfl)
    · exact absurd h' (by decide)
    · exact h
  have rest : ∀ n ∈ [7, 8], ∀ r ∈ [none, some (alertFor 9)], ∀ x ∈ [StationState.held, .overridden],
      let s := { downward (running (at5 idle x)) n with alertReserve := r }
      (s.silence.silent = false ∧ s.wireF.isSome = true ∧ (alertFor 5).kind = kindAlert
        ∧ s.seenListed (alertFor 5).station = true ∧ (s.station (alertFor 5).station).state ≠ .unlisted
        ∧ (alertFor 127).station = 127 ∧ s.seenListed 5 = true) ∧ s.seenListed 9 = false := by decide +kernel
  intro n hn r hr x hx
  obtain ⟨⟨h1, h2, h3, h4, h5, h6, h7⟩, h8⟩ := rest n hn r hr x hx
  exact ⟨h1, h2, h3, h4, h5, h6, h7, h8, h9 _ h8, by decide, by decide⟩
theorem witness_AlertOverridesItsStation_discards : (let s := (helloed (issued [224]) .held false true).setQueue 5 [setFor 5, orderFor 5]
    s.queue 5 ≠ [] ∧ s.wireF.isSome = true ∧ s.silence.silent = false ∧ s.replies.length + 2 ≤ 16 ∧ (s.station 5).member = true
      ∧ s.run.inProgress = true ∧ (s.step 0).used = true ∧ (s.step 0).station = 5 ∧ (s.entry 0).state = .issued
      ∧ s.slotOf 5 = some 0 ∧ (s.slot 0).map (fun r => (r.step, r.closing, r.outstanding.isSome)) = some (0, false, true))
    ∧ ¬ (downward idle 8).passDown.length < 8 ∧ (busy idle).wireS.isSome = true := by decide +kernel
theorem witness_AlertOverridesItsStation_none : let s := downward (busy idle) 8
    ∀ a, (alertFor 127).station = 127 ∨ (alertFor 127).station = a → s.seenListed a = false := by
  intro s a _
  show (!s.loading && decide ((s.station a).config.role ≠ .none)) = false
  have : s.station a = .default := by
    cases a with
    | zero => rfl
    | succ k =>
      show getAt (Vector.replicate 126 StationRecord.default) k .default = .default
      simp [getAt]
  rw [this]; decide
theorem witness_MisaddressedFramesAreErrors : (setFor 0).station = 0 ∧ (setFor 0).kind ≠ kindRequest ∧ idle.wireF.isSome = true
    ∧ validStation (setFor 0).station = false ∧ validStation (setFor 127).station = false ∧ (busy free).wireS.isSome = true := by
  decide

/-! ### Frames from the stations -/

theorem witness_PassUpOrDrop : ∀ n ∈ [7, 8], ∀ k ∈ [kindState, 99],
    let s := { busy free with passUp := List.replicate n (fromStation 9 20 []) }
    s.wireS.isSome = true ∧ validStation (fromStation 5 k []).station = true ∧ s.matchSlot (fromStation 5 k []) = none := by
  decide +kernel
theorem witness_AckConfirmsNakRemoves : validStation (fromStation 5 21 []).station = true ∧ (fromStation 5 21 []).kind = kindAck
    ∧ validStation (fromStation 126 22 []).station = true ∧ (fromStation 126 22 []).kind = kindNak := by decide
/-- A HELLO of station 5: cause 1, lost. -/
def helloFor (seq : Byte) : Frame := { station := 5, kind := kindHello, seq := seq, payload := [1, 0] }
/-- A state after the absorption or passage of a frame. -/
def taken (s : State) (f : Frame) : State := s.classifyUp f (s.matchSlot f)
theorem not_storms (s : State) (f : Frame) (h : (helloHistory s f).length ≠ 4) : ¬ Storms s f := fun k => h k.2.1
theorem storms_of (s : State) (f : Frame) (o : HistoryEntry) (hx : (s.station f.station).state = .online
    ∨ (s.station f.station).state = .held ∨ (s.station f.station).state = .restoring ∨ (s.station f.station).state = .draining)
    (hl : (helloHistory s f).length = 4) (hh : (helloHistory s f).head? = some o)
    (ht : (s.bridgeTime - o.time).toNat ≤ s.settings.stormWindow * 100) : Storms s f :=
  ⟨hx, hl, fun o' h' => by rw [hh] at h'; cases h'; exact ht⟩
theorem witness_HelloIsRecordedThenTested : ((validStation (fromStation 5 23 []).station = true ∧ (fromStation 5 23 []).kind = kindHello
    ∧ free.seenListed 5 = false ∧ (at5 free .online).seenListed 5 = true)
    ∧ (issued [224]).matchSlot (helloFor 224) = some 0 ∧ ((issued [224]).slot 0).isSome = true)
    ∧ let s := at5 idle .online
    let f := helloFor 7
    let b := taken s f
    (validStation f.station = true ∧ f.kind = kindHello ∧ s.seenListed f.station = true ∧ s.matchSlot f = none
      ∧ (b.station f.station).state = .online ∧ b.run.inProgress = false ∧ b.autoStartAllowed f.station = false
      ∧ s.wireF.isSome = true) ∧ ¬ Storms b f :=
  ⟨by decide +kernel, by decide +kernel, not_storms _ _ (by decide +kernel)⟩

/-! ### Frames that leave -/

/-- A record of station 5, channel 1. -/
def record (pinned : Bool) : PointRecord :=
  { station := 5, channel := 1, confirmed := some 9, pending := none, pinned := pinned }
theorem record_kept (b : Bool) (s : State) (h : s.points = [record b]) : PoolKept s := by
  cases b <;> refine ⟨?_, ?_, ?_, ?_, ?_, ?_, ?_⟩ <;> (try unfold State.pinnedCount) <;> rw [h] <;> decide
theorem witness_SnoopSetsPendingParts (b : Bool) (x : FSource) (hx : x = .pass ∨ x = .drain) :
    let w : FWire := { frame := setFor 5, source := x }
    let s := { at5 free .online with wireF := some w, points := [record b] }
    s.wireF = some w ∧ (w.source = .pass ∨ w.source = .drain) ∧ isParsedSet w.frame = true
      ∧ validStation w.frame.station = true ∧ s.seenListed w.frame.station = true
      ∧ (s.station w.frame.station).state ≠ .overridden ∧ 0 < (s.station w.frame.station).config.retentionQuota ∧ PoolKept s
      ∧ (1, 2) ∈ readPoints w.frame.payload ∧ s.findPoint w.frame.station 1 = some (record b) ∧ (record b).pinned = b
      ∧ s.findPoint 5 2 = none ∧ (s.points.filter (fun p => p.station = 5)).length < (s.station 5).config.retentionQuota
      ∧ ¬ (free.points.filter (fun p => p.station = 5)).length < (free.station 5).config.retentionQuota := by
  rcases hx with rfl | rfl <;> cases b <;> exact ⟨rfl, by decide, by decide, by decide, by decide +kernel, by decide +kernel,
    by decide +kernel, record_kept _ _ rfl, by decide, rfl, rfl, by decide +kernel, by decide +kernel, by decide +kernel⟩
/-- The injection frame of `issued` on the F-port's wire. -/
def injecting (closing : Bool) : State :=
  { issued [224] with
    wireF := some { frame := { setFor 5 with seq := 224 }, source := .injection }
    slots := mapTable (issued [224]).slots (fun r => r.map (fun x => { x with closing := closing })) }
theorem witness_ReplyTimeoutRunsFromLeaving : (∀ b ∈ [true, false], ∃ r, let s := injecting b
    s.wireF = some { frame := { setFor 5 with seq := 224 }, source := .injection } ∧ s.slotOf 5 = some 0 ∧ s.slot 0 = some r
      ∧ r.outstanding = some 224 ∧ (State.fLeaves s).FQuiet) ∧ free.wireF = none ∧ free.FQuiet := by
  refine ⟨?_, rfl, free_ready.2⟩
  intro b hb
  have : b = true ∨ b = false := by cases b <;> simp
  rcases this with rfl | rfl <;>
    exact ⟨_, rfl, by decide +kernel, rfl, rfl, .inr (by decide +kernel)⟩
/-- The spacing timer runs and READ-CLEAR-GROUP has not been asked: group 3 holds "HELLO". -/
def spaced : State := State.raise { free with spacing := some 0 } .hello
theorem witness_NoticesAreSpaced : (({ free with wireS := some (.notice (setFor 0)) } : State).wireS = some (.notice (setFor 0))
    ∧ ({ idle with wireS := some (.passUp (setFor 9)) } : State).wireS = some (.passUp (setFor 9))
    ∧ ({ idle with wireS := some (.reply { frame := setFor 0, isReset := false }) } : State).wireS
      = some (.reply { frame := setFor 0, isReset := false })
    ∧ State.FQuiet { free with wireS := some (.notice (setFor 0)) } ∧ idle.FQuiet)
    ∧ (spaced.FQuiet ∧ spaced.spacing.isSome = true ∧ spaced.reportedEmpty = false)
    ∧ (let s := { idle with spacing := some 0 }; s.FQuiet ∧ s.spacing.isSome = true ∧ s.reportedEmpty = true)
    ∧ free.spacing = none :=
  ⟨⟨rfl, rfl, rfl, .inr (by decide +kernel), .inl rfl⟩, ⟨.inr (by decide +kernel), rfl, by decide +kernel⟩,
   ⟨.inl rfl, rfl, by decide +kernel⟩, rfl⟩
/-- The reply queue is full, 127 replies are lost, and group 3 is reported with "HELLO"; the spacing timer stands stopped. -/
def losing : State :=
  { State.raise (replying (busy idle) 16) .hello with
    counters := putAt idle.counters Counter.repliesLost.index 127
    settings := { Settings.default with groupEnables := 0xFF, eventEnables := Settings.allEvents } }
-- R191, R192: the request empties the set, its lost ANSWER raises COUNT: a NOTICE of group 6 is placed
theorem test_notice_after_clear : after (exec (.readClearGroup 3 [3]) losing) (fun t => (t.noticeSlot.map Frame.payload, t.noticeNumber))
    = some (some [0, 0, 0, 0, 0, 0, 1, 0, 0, 0], 1) := by decide +kernel
theorem witness_NoticeIsPlaced :
    (let s := busy (idle.setPort .f { idle.portF with quality := .noisy, quiet := some 0 })
     Instr.quietTimerExpiry .f ≠ .sTransmitComplete ∧ s.wireS.isSome = true ∧ s.spacing = none ∧ s.reportedEmpty = true
      ∧ after (exec (.quietTimerExpiry .f) s) (fun t => (t.spacing, t.reportedEmpty)) = some (none, false))
    ∧ (let s := { busy idle with spacing := some 0 }
       s.wireS.isSome = true ∧ s.spacing.isSome = true
        ∧ after (exec (.breakTaken .f) s) (fun t => decide (t.spacing = s.spacing)) = some true)
    ∧ (losing.loading = false ∧ losing.resetPending = none ∧ losing.silence.silent = false ∧ losing.wireF.isSome = true
      ∧ losing.wireS.isSome = true ∧ losing.spacing = none ∧ 16 ≤ losing.replies.length ∧ losing.counter .repliesLost = 127
      ∧ (3 : Byte).toNat ≤ 7 ∧ losing.reportedEmpty = false
      ∧ (∀ h, h < 8 → h ≠ (3 : Byte).toNat → losing.reportedGroup h = 0)
      ∧ losing.settings.groupEnables.getLsbD 6 = true ∧ (getAt losing.settings.eventEnables 6 0).getLsbD 0 = true) := by
  decide +kernel
/-- Station 5 DRAINING with one frame. -/
def drains : State := (at5 free .draining).setQueue 5 [setFor 5]
/-- The record of `issued` with an attempt ready, the F-port free. -/
def ready : State := { issued [224] with wireF := none
                                         slots := mapTable (issued [224]).slots (fun r => r.map (fun x =>
                                           { x with outstanding := none, deadline := none, ready := some 224 })) }
/-- The record of `ready` serves a RESTORE step of a station with no confirmed record. -/
def emptied : State := { ready with plan := putAt ready.plan 0 { sending with action := some .restore } }
theorem witness_FieldArbiterOrder_emptyBuild : emptied.wireF = none ∧ emptied.alertReserve = none ∧ emptied.passDown = [] ∧ emptied.drainGuard < 4
    ∧ emptied.injectionChoice = some 0
    ∧ (emptied.slot 0).map (fun r => (r.ready.isSome, decide (r.step < 96), r.station, r.startChannel)) = some (true, true, 5, 0)
    ∧ (emptied.step 0).action = some .restore ∧ emptied.confirmedIn 5 0 (emptied.step 0).last = [] := by decide +kernel
theorem witness_DrainEndLeavesTheRun : ∀ b ∈ [true, false],
    let s := { helloed (running drains) .draining b true with
      wireF := some { frame := setFor 9, source := .pass }, plan := putAt idle.plan 0 sending
      entries := putAt idle.entries 0 { StepEntry.reset with state := .settling } }
    s.wireF.isSome = true ∧ (State.fLeaves s).fChoice = some (.drain 5) ∧ s.queue 5 = [setFor 5]
      ∧ (s.station 5).faultPending = b ∧ (s.station 5).member = true ∧ s.run.inProgress = true
      ∧ (s.step 0).used = true ∧ (s.step 0).station = 5 ∧ (s.entry 0).state = .settling := by decide +kernel
theorem witness_FieldArbiterOrder :
    (let s := { free with passDown := [alertFor 5] }; s.wireF = none ∧ s.passDown = alertFor 5 :: [] ∧ (alertFor 5).kind = kindAlert)
    ∧ (let s := { free with alertReserve := some (alertFor 5) }
       s.wireF = none ∧ (∀ g, s.passDown.head? = some g → g.kind ≠ kindAlert) ∧ s.alertReserve = some (alertFor 5))
    ∧ (∀ k ∈ [3, 4], let s := { free with passDown := [setFor 5], drainGuard := k }
       s.wireF = none ∧ s.passDown = setFor 5 :: [] ∧ (setFor 5).kind ≠ kindAlert ∧ s.alertReserve = none
        ∧ (s.drainGuard < 4 ∨ s.drainOffers = []) ∧ s.injectionChoice = none)
    ∧ (∃ r, ready.wireF = none ∧ ready.alertReserve = none ∧ (∀ g, ready.passDown.head? = some g → g.kind ≠ kindAlert)
        ∧ (ready.drainGuard < 4 ∨ ready.drainOffers = []) ∧ ready.injectionChoice = some 0 ∧ ready.slot 0 = some r
        ∧ r.ready = some 224 ∧ r.step < 96
        ∧ ((ready.step r.step).action = some .restore →
            ready.confirmedIn r.station r.startChannel (ready.step r.step).last ≠ []))
    ∧ (∀ k ∈ [0, 4], let s := { drains with drainGuard := k }
       s.drainChoice = some 5 ∧ s.wireF = none ∧ s.alertReserve = none
        ∧ (4 ≤ s.drainGuard ∨ (s.injectionChoice = none ∧ s.passDown = [])))
    ∧ (∀ g, drains.passDown.head? = some g → g.kind ≠ kindAlert) := by
  have none_head : ∀ g : Frame, ([] : List Frame).head? = some g → g.kind ≠ kindAlert := fun _ h => by cases h
  exact ⟨⟨rfl, rfl, rfl⟩, ⟨rfl, none_head, rfl⟩, by decide +kernel,
    ⟨_, rfl, rfl, none_head, .inl (by decide), by decide +kernel, rfl, rfl, by decide, fun h => by cases h⟩,
    by decide +kernel, none_head⟩
theorem witness_SupervisorArbiterOrder : (busy free).wireS.isSome = true ∧ free.wireS = none
    ∧ (let s := { replying free 1 with replyGuard := 4, passUp := [setFor 9] }
       s.wireS = none ∧ s.replies = { frame := setFor 0, isReset := false } :: [] ∧ (4 ≤ s.replyGuard ∨ s.passUp = []))
    ∧ (let s := { replying free 1 with replyGuard := 3, passUp := [setFor 9] }
       s.wireS = none ∧ s.passUp = setFor 9 :: [] ∧ (s.replyGuard < 4 ∨ s.replies = []))
    ∧ (let s := { free with noticeSlot := some (setFor 0) }
       s.passUp = [] ∧ s.replies = [] ∧ s.noticeSlot = some (setFor 0))
    ∧ (free.passUp = [] ∧ free.replies = [] ∧ free.noticeSlot = none) := by decide

/-! ### Steps and timers -/

/-- Step 1 of station 5 waits for step 0, which is in a state. -/
def behind (x : StepState) : State :=
  { running (at5 idle .held) with
    plan := putAt (putAt idle.plan 0 sending) 1 { sending with predCount := 1, predecessors := [0, 0, 0, 0] }
    entries := putAt (putAt idle.entries 0 { StepEntry.reset with state := x }) 1 { StepEntry.reset with state := .pending } }
/-- Step 0 of the member 5, which is HELD with a queue, awaits its action. -/
def frameless (x : Action) (q : List Frame) : State :=
  { (helloed (running idle) .held false true).setQueue 5 q with
    plan := putAt idle.plan 0 { sending with action := some x }
    entries := putAt idle.entries 0 { StepEntry.reset with state := .awaiting } }
theorem witness_WaitingStepsAreServed : ((behind .failed).stepState 0 ≠ .pending
    ∧ (∀ x ∈ [StepState.failed, .skipped, .awaiting, .issued, .settling, .idle, .done, .notApplicable],
        (behind x).stepState 1 = .pending ∧ ((behind x).step 1).preds.map (behind x).stepState = [x])
    ∧ (0 < 8 ∧ 0 < 96 ∧ 7 < 8 ∧ 95 < 96))
    ∧ ((issued [224]).FBusy ∧ EngineEvent (issued [224]) .sliceExpiry)
    ∧ (∀ x ∈ [Action.release, .mark, .restore], ∀ q ∈ [[], [setFor 5]], let s := frameless x q
        s.nextFrameless = some 0 ∧ s.run.inProgress = true ∧ (s.station 5).state = .held ∧ s.queue 5 = q
          ∧ (s.station 5).faultPending = false ∧ (s.station 5).member = true)
    ∧ (frameless .order []).nextFrameless = none ∧ ((frameless .order []).nextGrant).isSome = true
    ∧ (behind .idle).run.inProgress = true
    ∧ ((frameless .order []).run.inProgress = true
      ∧ (frameless .order []).grantMoment (frameless .order []).evaluateAll = false) :=
  ⟨by decide +kernel, ⟨rfl, .slice⟩, by decide +kernel, by decide +kernel, by decide +kernel, rfl, rfl, by decide +kernel⟩
/-- A step that may be granted, as after a PUT that has unmetered its feed, is not granted by an event that is no moment of a grant
test, and is by the next slice expiry (R126, R158). -/
theorem test_grant_waits_for_its_moment :
    ((State.settleFrom (frameless .order []) (frameless .order [])).entry 0).state = .awaiting
    ∧ after (exec .sliceExpiry (frameless .order [])) (fun t => (t.entry 0).state) = some .issued := by decide +kernel
/-- The parts of an injection record that the expiries test. -/
def timedSlot (closing wait : Bool) (attempts : List Byte) : InjectionRecord :=
  { station := 5, step := 0, closing := closing, frameIndex := 0, startChannel := 0, attempts := attempts
    outstanding := if wait then none else some 224, ready := none, deadline := some 20, pollCount := 1, repollWait := wait
    builtHighest := none, further := none }
/-- A bridge whose only record is one in slot 7, step 0 its step. -/
def timed (r : InjectionRecord) : State := { idle with plan := putAt idle.plan 0 sending, slots := putAt idle.slots 7 (some r) }
theorem timed_band (r : InjectionRecord) (h1 : ∀ b ∈ r.attempts, inBand b) (h2 : ∀ b, r.ready = some b → inBand b)
    (h3 : ∀ b, r.outstanding = some b → inBand b) (h4 : r.attempts.length ≤ 4) : BandKept (timed r) := by
  refine ⟨(show 224 ≤ (224 : Byte).toNat by decide), ?_, ?_⟩
  · intro n
    show (getAt (putAt (Vector.replicate 96 StepRecord.default) 0 sending) n .default).retries ≤ 3
    rw [getAt_putAt]; split
    · decide
    · simp [getAt]; decide
  · intro i x hx
    have : getAt (putAt (Vector.replicate 8 none) 7 (some r)) i none = some x := hx
    rw [getAt_putAt] at this
    split at this
    · cases this; exact ⟨h1, h2, h3, h4⟩
    · simp [getAt] at this
/-- Step 0 of the member 5 is ESSENTIAL and out of retries; step 1 waits for it. -/
def essential (x : StationState) : State :=
  { helloed (running idle) x false true with
    plan := putAt (putAt idle.plan 0 { sending with criticality := .essential }) 1
      { sending with predCount := 1, predecessors := [0, 0, 0, 0] }
    entries := putAt (putAt idle.entries 0 { StepEntry.reset with state := .issued }) 1 { StepEntry.reset with state := .pending }
    slots := putAt idle.slots 0 (some (timedSlot false false [224, 225])) }
theorem in_band : inBand 224 ∧ inBand 225 := by unfold inBand; decide
theorem witness_ReplyTimeoutRetriesOrFails : (let r := timedSlot false false [224]
    BandKept (timed r) ∧ (timed r).slot 7 = some r ∧ r.closing = false ∧ r.repollWait = false ∧ r.outstanding.isSome = true
      ∧ r.deadline.isSome = true ∧ r.attempts.length < 1 + ((timed r).step r.step).retries)
    ∧ (let r := timedSlot false false [224, 225]
    (timed r).FBusy ∧ (timed r).slot 7 = some r ∧ r.step < 96 ∧ r.closing = false ∧ r.repollWait = false
      ∧ r.outstanding.isSome = true ∧ r.deadline.isSome = true ∧ 1 + ((timed r).step r.step).retries ≤ r.attempts.length)
    ∧ (∀ x ∈ [StationState.held, .restoring, .draining], let s := essential x
      s.wireF.isSome = true ∧ s.slot 0 = some (timedSlot false false [224, 225]) ∧ (s.step 0).retries = 1
        ∧ (s.step 0).used = true ∧ (s.step 0).criticality = .essential ∧ (s.step 0).station = 5 ∧ (s.station 5).state = x
        ∧ s.queue 5 = [] ∧ (s.station 5).member = true ∧ s.run.inProgress = true ∧ s.run.halting = none
        ∧ (s.step 1).used = true ∧ (s.entry 1).state = .pending ∧ 0 ∈ (s.step 1).preds)
    ∧ (free.FQuiet ∧ ∀ r, free.slot 0 = some r → r.closing = true ∨ r.repollWait = true ∨ r.outstanding = none ∨ r.deadline = none) :=
  ⟨⟨timed_band _ (by simpa [timedSlot] using in_band.1) (fun _ h => by cases h)
    (fun b h => by cases h; exact in_band.1) (by decide), rfl, rfl, rfl, rfl, rfl, by decide +kernel⟩,
   ⟨rfl, rfl, by decide, rfl, rfl, rfl, rfl, by decide +kernel⟩, by decide +kernel, free_ready.2, fun _ h => by cases h⟩
/-- A record of step 0 and station 5 in slot 0 in a run, the step with an action, its last channel and its poll limit 2, its range 512 to 768. -/
def serving (x : Action) (closing wait : Bool) (polls : Nat) (points : List PointRecord) : State :=
  { busy (issued [224]) with
    plan := putAt idle.plan 0 { sending with action := some x, params := [1, 2, 0, 3, 0, 2] }
    points := points
    slots := putAt idle.slots 0 (some { timedSlot closing wait [224] with pollCount := polls, builtHighest := some 1 }) }
/-- A reply of station 5 to the attempt of `serving`. -/
def replyOf (kind : Byte) (payload : List Byte) : Frame := { station := 5, kind := kind, seq := 224, payload := payload }
/-- The reply of `serving` finds a later attempt outstanding. -/
def later : State :=
  { serving .fixedSet false false 1 [] with
    slots := putAt idle.slots 0 (some { timedSlot false false [224, 225] with outstanding := some 225 }) }
theorem witness_AbsorbedRepliesAct :
    ((∀ x ∈ [Action.restore, .fixedSet, .order, .await], ∀ b ∈ [true, false], ∀ w ∈ [true, false],
      ∀ k ∈ [kindAck, kindNak, kindState], let s := serving x b w 1 []
      s.wireF.isSome = true ∧ s.wireS.isSome = true ∧ validStation 5 = true ∧ k ≠ kindHello
        ∧ s.matchSlot (replyOf k []) = some 0
        ∧ (s.slot 0).map (fun r => (r.step, r.closing, r.repollWait, r.builtHighest)) = some (0, b, w, some 1)
        ∧ (s.step 0).action = some x)
    ∧ pointValue [1, 0, 2] ((serving .await false false 1 []).step 0).awaitChannel = some 2
    ∧ pointValue [1, 2, 0] ((serving .await false false 1 []).step 0).awaitChannel = some 512
    ∧ ((serving .await false false 1 []).step 0).low = 512 ∧ ((serving .await false false 1 []).step 0).high = 768
    ∧ ((serving .await false false 1 []).step 0).pollLimit = 2
    ∧ ((serving .restore false false 1 []).confirmPoints 5 224).confirmedIn 5 2 2 = []
    ∧ ((serving .restore false false 1 [{ record false with channel := 2 }]).confirmPoints 5 224).confirmedIn 5 2 2 ≠ [])
    ∧ later.matchSlot (replyOf kindAck []) = some 0 ∧ (serving .order false false 1 []).matchSlot (replyOf 99 []) = some 0
    ∧ (later.slot 0).map InjectionRecord.outstanding = some (some 225) ∧ (replyOf kindAck []).seq ≠ 225 :=
  ⟨by decide +kernel, by decide +kernel, by decide +kernel, by decide +kernel, by decide⟩
theorem witness_HelloRestartsTheSteps : ∀ x ∈ [StationState.held, .restoring], ∀ q ∈ [7, 224],
    let s := (issued [224]).updateStation 5 (fun r => { r with state := x, member := true })
    let f := helloFor q
    let b := taken s f
    (s.wireF.isSome = true ∧ validStation f.station = true ∧ f.kind = kindHello ∧ s.seenListed 5 = true
      ∧ s.matchSlot f = (if q = 224 then some 0 else none)
      ∧ (b.station 5).state = x ∧ (b.station 5).member = true ∧ b.run.inProgress = true
      ∧ (s.step 0).used = true ∧ (s.step 0).station = 5 ∧ (b.entry 0).state = .issued ∧ b.slotOf 5 = some 0
      ∧ (b.slot 0).map (fun r => (r.closing, r.outstanding.isSome)) = some (false, true)) ∧ ¬ Storms b f := by
  have rest : ∀ x ∈ [StationState.held, .restoring], ∀ q ∈ [7, 224],
      let s := (issued [224]).updateStation 5 (fun r => { r with state := x, member := true })
      let f := helloFor q
      let b := taken s f
      (s.wireF.isSome = true ∧ validStation f.station = true ∧ f.kind = kindHello ∧ s.seenListed 5 = true
        ∧ s.matchSlot f = (if q = 224 then some 0 else none)
        ∧ (b.station 5).state = x ∧ (b.station 5).member = true ∧ b.run.inProgress = true
        ∧ (s.step 0).used = true ∧ (s.step 0).station = 5 ∧ (b.entry 0).state = .issued ∧ b.slotOf 5 = some 0
        ∧ (b.slot 0).map (fun r => (r.closing, r.outstanding.isSome)) = some (false, true))
        ∧ (helloHistory b f).length ≠ 4 := by decide +kernel
  exact fun x hx q hq => ⟨(rest x hx q hq).1, not_storms _ _ (rest x hx q hq).2⟩
theorem witness_HelloJoinsTheRun : ∀ x ∈ [(StationState.online, false), (.draining, false), (.draining, true)],
    let s := helloed (running idle) x.1 x.2 false
    let f := helloFor 7
    let b := taken s f
    (s.wireF.isSome = true ∧ validStation f.station = true ∧ f.kind = kindHello ∧ s.seenListed f.station = true
      ∧ b.run.inProgress = true ∧ (b.station 5).state = x.1 ∧ (b.station 5).faultPending = x.2
      ∧ (b.station 5).config.holdPolicy = .always) ∧ ¬ Storms b f := by
  have rest : ∀ x ∈ [(StationState.online, false), (.draining, false), (.draining, true)],
      let s := helloed (running idle) x.1 x.2 false
      let f := helloFor 7
      let b := taken s f
      (s.wireF.isSome = true ∧ validStation f.station = true ∧ f.kind = kindHello ∧ s.seenListed f.station = true
        ∧ b.run.inProgress = true ∧ (b.station 5).state = x.1 ∧ (b.station 5).faultPending = x.2
        ∧ (b.station 5).config.holdPolicy = .always) ∧ (helloHistory b f).length ≠ 4 := by decide +kernel
  exact fun x hx => ⟨(rest x hx).1, not_storms _ _ (rest x hx).2⟩
/-- Station 5 starts a run of a plan: of no step, or of step 95 of an unlisted station. -/
def starting (bad : Bool) (x : StationState) : State :=
  let s := (at5 idle x).updateStation 5 (fun r => { r with config := { r.config with autoRun := true } })
  { s with straps := { s.straps with inhibit := false }
           plan := if bad then putAt s.plan 95 { sending with station := 6 } else s.plan }
theorem witness_HelloStartsARun : (∀ x ∈ [StationState.online, .held, .restoring, .draining, .overridden],
    let s := starting false x
    let f := helloFor 7
    let b := taken s f
    (s.wireF.isSome = true ∧ validStation f.station = true ∧ f.kind = kindHello ∧ s.seenListed f.station = true
      ∧ b.run.inProgress = false ∧ (b.station 5).state = x ∧ (b.station 5).faultPending = false
      ∧ (b.station 5).config.autoRun = true ∧ s.straps.inhibit = false ∧ s.silence.suppress = false) ∧ ¬ Storms b f)
    ∧ (taken (starting false .online) (helloFor 7)).validate = none
    ∧ (taken (starting true .online) (helloFor 7)).validate = some (1, 95)
    ∧ ((at5 idle .online).station 5).config.autoRun = false := by
  have rest : ∀ x ∈ [StationState.online, .held, .restoring, .draining, .overridden],
      let s := starting false x
      let f := helloFor 7
      let b := taken s f
      (s.wireF.isSome = true ∧ validStation f.station = true ∧ f.kind = kindHello ∧ s.seenListed f.station = true
        ∧ b.run.inProgress = false ∧ (b.station 5).state = x ∧ (b.station 5).faultPending = false
        ∧ (b.station 5).config.autoRun = true ∧ s.straps.inhibit = false ∧ s.silence.suppress = false)
        ∧ (helloHistory b f).length ≠ 4 := by decide +kernel
  exact ⟨fun x hx => ⟨(rest x hx).1, not_storms _ _ (rest x hx).2⟩, by decide +kernel, by decide +kernel, by decide +kernel⟩
/-- Station 5 in a state, a member of the run, with three HELLOs at a time 0. -/
def stormy (x : StationState) (pending : Bool) : State :=
  idle.setStation 5 { StationRecord.default with
    config := vent, state := x, faultPending := pending, member := true
    history := List.replicate 3 { time := 0, cause := 1, kept := true } }
theorem witness_StormFaultsItsStation :
    (∀ x ∈ [(StationState.online, false), (.held, false), (.restoring, false), (.draining, false), (.draining, true),
        (.faulted, false), (.overridden, false)],
      let s := stormy x.1 x.2
      let b := taken s (helloFor 7)
      s.wireF.isSome = true ∧ s.seenListed 5 = true ∧ (b.station 5).state = x.1 ∧ (b.station 5).faultPending = x.2
        ∧ (b.station 5).member = true)
    ∧ (validStation 5 = true ∧ (helloFor 7).kind = kindHello ∧ (stormy .held false).queue 5 = []
      ∧ ((stormy .held false).setQueue 5 [setFor 5]).queue 5 ≠ [] ∧ (running (stormy .held false)).run.inProgress = true)
    ∧ Storms (taken (stormy .held false) (helloFor 7)) (helloFor 7)
    ∧ ¬ Storms (taken (at5 idle .held) (helloFor 7)) (helloFor 7) :=
  ⟨by decide +kernel, by decide +kernel,
   storms_of _ _ { time := 0, cause := 1, kept := true } (.inr (.inl (by decide +kernel))) (by decide +kernel) (by decide +kernel)
     (by decide +kernel),
   not_storms _ _ (by decide +kernel)⟩
/-- Station 5 meters feed B by its channel 1. -/
def metering : State :=
  idle.setStation 5 { StationRecord.default with config := { vent with role := .meter, meterFeed := .b, meterChannel := 1 } }
theorem witness_MeterReadingIsTaken : let f := fromStation 5 20 [1, 0xFF, 0xFF]
    validStation f.station = true ∧ f.kind = kindState ∧ metering.loading = false
      ∧ (metering.station f.station).config.role = .meter ∧ (metering.station f.station).config.meterFeed.feed = some .b
      ∧ pointValue f.payload (metering.station f.station).config.meterChannel = some 65535
      ∧ metering.run.inProgress = false ∧ metering.matchSlot f = none ∧ metering.wireF.isSome = true ∧ Feed.a ≠ .b := by
  decide +kernel
/-- Step 0 waits on feed A, whose budget is given, with a wait count. -/
def queueing (budget count : Nat) : State :=
  { running idle with
    plan := putAt idle.plan 0 { sending with feed := .a, peak := 5 }
    entries := putAt idle.entries 0 { StepEntry.reset with state := .awaiting }
    feedA := { FeedRecord.reset with budget := budget, head := some 0, waitCount := count } }
/-- Heads on both feeds, step 0 on feed A with a wait count and a criticality, step 1 on feed B with a budget, a wait count and a
station. -/
def contending (x : Criticality) (countA budgetB countB station : Nat) : State :=
  { queueing 4 countA with
    plan := putAt (putAt idle.plan 0 { sending with feed := .a, peak := 5, criticality := x }) 1
      { sending with feed := .b, peak := 5, station := station }
    entries := putAt (putAt idle.entries 0 { StepEntry.reset with state := .awaiting }) 1
      { StepEntry.reset with state := .awaiting }
    feedB := { FeedRecord.reset with budget := budgetB, head := some 1, waitCount := countB } }
/-- The state of `contending` in which the waits are counted. -/
def contended (x : Criticality) (countA budgetB countB station : Nat) : State :=
  ((State.foldContributions (State.advanceContributions { contending x countA budgetB countB station with
    sliceDeadline := (contending x countA budgetB countB station).sliceDeadline + 10 })).testStale .a).testStale .b
/-- The lower head fails, ORDINARY: the higher one is then counted. ESSENTIAL: the run is halted, and the count of the higher one
stays. -/
theorem test_lower_head_first :
    ((contended .ordinary 600 4 9 5).countWaits.feed .b).waitCount = 10
    ∧ ((contended .essential 600 4 9 6).countWaits.feed .b).waitCount = 9 := by decide +kernel
theorem witness_AdmissionWaitIsCounted_both :
    (∀ x ∈ [Criticality.ordinary, .essential], ∀ a ∈ [599, 600], let s := contending x a 4 600 6
      s.wireF.isSome = true ∧ s.headOf .a = some 0 ∧ s.headOf .b = some 1 ∧ Feed.b ≠ .a ∧ 0 < 1 ∧ s.runState = .running
        ∧ s.hasRecord (s.step 0).station = false ∧ s.needsFrame 0 = true ∧ s.settings.admissionLimit * 10 = 600
        ∧ (s.feed .a).waitCount = a ∧ (s.feed .b).waitCount = 600 ∧ (s.step 0).criticality = x ∧ s.contributions = []
        ∧ s.hasRecord (s.step 1).station = false ∧ s.needsFrame 1 = true)
    ∧ (∀ b ∈ [4, 5], let u := contended .ordinary 600 b 9 6
      ¬ (u.estimate .a + (u.step 0).peak ≤ (u.feed .a).budget) ∧ u.contributions.length = 0
        ∧ (u.estimate .b + (u.step 1).peak ≤ (u.feed .b).budget ↔ b = 5)) := by decide +kernel
theorem witness_AdmissionWaitIsCounted :
    (∀ b ∈ [4, 5], ∀ c ∈ [599, 600], let s := queueing b c
      s.wireF.isSome = true ∧ s.headOf .a = some 0 ∧ s.headOf .b = none ∧ s.runState = .running
        ∧ s.hasRecord (s.step 0).station = false ∧ s.needsFrame 0 = true ∧ (s.step 0).peak = 5
        ∧ (let u := ((State.foldContributions (State.advanceContributions
            { s with sliceDeadline := s.sliceDeadline + 10 })).testStale .a).testStale .b
          u.estimate .a = 0 ∧ (u.feed .a).budget = b ∧ u.contributions.length = 0)
        ∧ (s.feed .a).waitCount = c ∧ s.settings.admissionLimit * 10 = 600)
    ∧ idle.runState ≠ .running := by decide +kernel
/-- Step 95 settles. -/
def settling : State :=
  { idle with entries := putAt idle.entries 95 { StepEntry.reset with state := .settling, settle := some 0 } }
theorem witness_EngineTimersAct : ((let r := timedSlot true false [224]
    (timed r).run.inProgress = false ∧ (timed r).FBusy ∧ (timed r).slot 7 = some r ∧ r.closing = true ∧ r.deadline.isSome = true
      ∧ r.further = none)
    ∧ (free.FQuiet ∧ ∀ r, free.slot 0 = some r → r.closing = false ∨ r.deadline = none)
    ∧ ((issued [224]).FBusy ∧ ((behind .done).entry 0).state.terminal = true))
    ∧ ((let r := timedSlot false true [224]
      BandKept (timed r) ∧ (timed r).FBusy ∧ (timed r).slot 7 = some r ∧ r.closing = false ∧ r.repollWait = true)
      ∧ (∀ r, free.slot 0 = some r → r.closing = true ∨ r.repollWait = false))
    ∧ ((settling.FBusy ∧ (settling.entry 95).state = .settling ∧ (settling.entry 95).settle.isSome = true)
      ∧ ((free.entry 0).state ≠ .settling ∨ (free.entry 0).settle = none)) :=
  ⟨⟨⟨rfl, rfl, rfl, rfl, rfl, rfl⟩, ⟨free_ready.2, fun _ h => by cases h⟩, rfl, rfl⟩,
   ⟨⟨timed_band _ (by simpa [timedSlot] using in_band.1) (fun _ h => by cases h) (fun _ h => by cases h) (by decide),
    rfl, rfl, rfl, rfl⟩, fun _ h => by cases h⟩,
   ⟨⟨rfl, rfl, rfl⟩, .inl (by decide +kernel)⟩⟩
/-- A CLOSING record in slot 7 in a run, its step ISSUED with a further RESTORE frame from channel 9. -/
def furtherFrame : State :=
  { running (timed { timedSlot true false [224] with further := some 9, frameIndex := 3 }) with
    entries := putAt idle.entries 0 { StepEntry.reset with state := .issued }, injectionSeq := 255 }
theorem witness_EngineTimersAct_closing : (let r := { timedSlot true false [224] with further := some 9, frameIndex := 3 }
    furtherFrame.FBusy ∧ furtherFrame.slot 7 = some r ∧ r.closing = true ∧ r.deadline.isSome = true ∧ r.further.isSome = true
      ∧ furtherFrame.run.inProgress = true)
    ∧ (let r := timedSlot true false [224]
      (running (timed r)).FBusy ∧ (running (timed r)).slot 7 = some r ∧ r.closing = true ∧ r.deadline.isSome = true
        ∧ r.further = none ∧ (running (timed r)).run.inProgress = true) :=
  ⟨⟨rfl, rfl, rfl, rfl, rfl, rfl⟩, ⟨rfl, rfl, rfl, rfl, rfl, rfl⟩⟩
theorem test_further_frame_opens :
    after (exec (.closingDeadlineExpiry 7) furtherFrame) (fun t => (t.slot 7).map (fun r => (r.frameIndex, r.startChannel)))
      = some (some (4, 9))
    ∧ after (exec (.closingDeadlineExpiry 7) furtherFrame) (fun t => (t.slot 7).map (fun r => (r.closing, r.attempts)))
      = some (some (false, [255]))
    ∧ after (exec (.closingDeadlineExpiry 7) furtherFrame) (fun t => t.injectionSeq) = some 224 := by decide +kernel
theorem witness_RunEndsWithItsOutcome :
    ((running settling).FBusy ∧ (running settling).run.inProgress = true ∧ EngineEvent (running settling) (.settleExpiry 95)
      ∧ after (exec (.settleExpiry 95) (running settling)) (fun t => t.run.inProgress) = some false)
    ∧ EngineEvent (issued [224, 225]) (.replyTimeout 0)
    ∧ ((issued [224]).FBusy ∧ EngineEvent (issued [224]) .sliceExpiry
      ∧ after (exec .sliceExpiry (issued [224])) (fun t => t.run.inProgress) = some true)
    ∧ EngineEvent (issued [224]) (.fFrameArrival (replyOf kindAck []))
    ∧ EngineEvent (timed (timedSlot true false [224])) (.closingDeadlineExpiry 7) :=
  ⟨⟨rfl, rfl, .settle 95 rfl rfl, by decide +kernel⟩,
   .reply 0 _ rfl rfl rfl rfl rfl, ⟨rfl, .slice, by decide +kernel⟩,
   .absorbed _ 0 (by decide) (by decide) (by decide +kernel) (by decide +kernel), .closing 7 _ rfl rfl rfl⟩
/-- A ramp-complete contribution on feed A that its standing load cannot take, and an old reading of the metered feed B. -/
def sliced : State :=
  { metering with
    bridgeTime := 501
    contributions := [{ step := 0, feed := .a, peak := 9, steady := 9, ramp := 1, elapsed := 1, running := true }]
    feedA := { FeedRecord.reset with standing := 16383 }, feedB := { FeedRecord.reset with measured := some 1 } }
theorem witness_SliceAdvancesAndFolds : (∀ s ∈ [idle, running idle, sliced], s.FBusy ∧ ∀ f, (s.feed f).standing ≤ 16383)
    ∧ idle.run.inProgress = false
    ∧ (sliced.metered .a = false ∧ sliced.metered .b = true ∧ sliced.feedB.stale = false ∧ sliced.feedB.measured.isSome = true
      ∧ 500 < (sliced.bridgeTime - sliced.feedB.measuredTime).toNat ∧ 16383 < sliced.feedA.standing + 9) := by
  refine ⟨?_, rfl, by decide +kernel⟩
  intro s hs
  rcases List.mem_cons.1 hs with rfl | hs
  · exact ⟨rfl, fun f => by cases f <;> decide⟩
  rcases List.mem_cons.1 hs with rfl | hs
  · exact ⟨rfl, fun f => by cases f <;> decide⟩
  cases List.mem_singleton.1 hs
  exact ⟨rfl, fun f => by cases f <;> decide⟩
theorem witness_SilenceIsCounted :
    ((running idle).silence.timer.isSome = true ∧ (running idle).FBusy ∧ (running idle).settings.silenceResponse = .freeze
      ∧ (running idle).run.inProgress = true ∧ (running idle).run.causes = .empty ∧ idle.run.inProgress = false)
    ∧ ({ idle with settings := { Settings.default with silenceResponse := .cont } } : State).settings.silenceResponse = .cont
    ∧ (∀ d ∈ [65534, 65535], let s := { idle with silence := { idle.silence with
        timer := none, silent := true, second := some 0, duration := d } }
       s.silence.silent = true ∧ s.silence.second.isSome = true ∧ s.silence.timer = none ∧ s.wireF.isSome = true)
    ∧ (free.silence.silent = false ∧ free.FQuiet) :=
  ⟨⟨rfl, rfl, rfl, rfl, rfl, rfl⟩, rfl, by decide, rfl, free_ready.2⟩

/-! ### Requests -/

theorem witness_TurnedAwayRequestsChangeNothing :
    ((let s := { State.reset with wireF := idle.wireF }
     (s.loading = true ∨ s.resetPending.isSome = true) ∧ s.silence.silent = false ∧ s.replies.length < 16 ∧ s.FQuiet)
    ∧ (let s := replying { idle with resetPending := some .warm } 15
       (s.loading = true ∨ s.resetPending.isSome = true) ∧ s.silence.silent = false ∧ s.replies.length < 16 ∧ s.FQuiet))
    ∧ Ready free ∧ free.FQuiet ∧ (4 : Byte).toNat ∉ listedRequestCodes
    ∧ ([0] : List Byte) ≠ [] ∧ ([] : List Byte).length ≠ 1 ∧ ([0] : List Byte).length ≠ 2 ∧ ([0, 0] : List Byte).length ≠ 3
    ∧ ([0, 0, 0, 0] : List Byte).length ≠ 5 :=
  ⟨⟨⟨.inl rfl, rfl, by decide, .inl rfl⟩, .inr rfl, rfl, by decide, .inl rfl⟩,
   free_ready.1, free_ready.2, by decide, by decide, by decide, by decide, by decide, by decide⟩
theorem witness_SelectPlacesTheCursor : Ready free ∧ free.FQuiet ∧ free.cursor.InRange
    ∧ (readTable 1, readAdvanceMode 2) = (some .stations, some .writeOnly)
    ∧ Table.stations.range.1 ≤ (126 : Byte).toNat ∧ ¬ Table.stations.range.1 ≤ (0 : Byte).toNat ∧ readTable 8 = none := by
  refine ⟨free_ready.1, free_ready.2, ?_, by decide, by decide, by decide, by decide⟩
  unfold Cursor.InRange; decide
theorem witness_ReadsAnswerTheRecord : Ready free ∧ free.FQuiet ∧ (∃ d, free.getData [] = some d) ∧ free.getData [0] = none :=
  ⟨free_ready.1, free_ready.2, ⟨_, rfl⟩, rfl⟩
theorem witness_ReadAndClearIsOneEvent : Ready free ∧ free.FQuiet ∧ (7 : Byte).toNat ≤ 7 ∧ 7 < (8 : Byte).toNat :=
  ⟨free_ready.1, free_ready.2, by decide, by decide⟩
/-- The cursor at a table. -/
def atTable (s : State) (t : Table) (i : Nat) : State := { s with cursor := { table := t, index := i, mode := .every } }
theorem witness_PutWritesStationsAndSettings :
    ((∀ s ∈ [atTable (at5 idle .held) .stations 5, atTable { idle with storing := some [] } .stations 1, atTable idle .stations 126],
      (s.loading = false ∧ s.resetPending = none ∧ s.silence.silent = false ∧ s.replies.length < 16 ∧ s.wireF.isSome = true
        ∧ s.cursor.table = .stations ∧ s.cursor.table.range.1 ≤ s.cursor.index ∧ s.cursor.index ≤ s.cursor.table.range.2))
    ∧ (readStationConfig [] = none ∧ (∃ c, readStationConfig lampBytes = some c)
      ∧ (∃ c, readStationConfig [0, 0, 0, 0, 0, 0, 0] = some c ∧ c.role ≠ vent.role))
    ∧ ((at5 idle .held).station 5).state ≠ .online ∧ ((at5 idle .held).station 5).state ≠ .unlisted
    ∧ (idle.station 126).state = .unlisted)
    ∧ (∀ s ∈ [atTable idle .settings 0, atTable { idle with storing := some [] } .settings 0, atTable idle .feeds 1,
        atTable idle .history 1, atTable idle .stepState 95],
      (s.loading = false ∧ s.resetPending = none ∧ s.silence.silent = false ∧ s.replies.length < 16 ∧ s.wireF.isSome = true))
    ∧ readSettings [] = none ∧ (∃ t, readSettings Settings.default.encode = some t) :=
  ⟨⟨by decide +kernel, ⟨rfl, ⟨_, rfl⟩, ⟨_, rfl, by decide⟩⟩, by decide +kernel, by decide +kernel, by decide +kernel⟩,
   by decide +kernel, rfl, ⟨_, rfl⟩⟩
theorem witness_PutWritesPlanAndPayload :
    (∀ s ∈ [atTable idle .plan 95, atTable { idle with storing := some [] } .plan 0, atTable (running idle) .plan 0,
        atTable idle .payload 63, atTable { idle with storing := some [] } .payload 0, atTable (running idle) .payload 0],
      (s.loading = false ∧ s.resetPending = none ∧ s.silence.silent = false ∧ s.replies.length < 16 ∧ s.wireF.isSome = true
        ∧ s.cursor.table.range.1 ≤ s.cursor.index ∧ s.cursor.index ≤ s.cursor.table.range.2))
    ∧ (readStep [] = none ∧ (∃ r, readStep markBytes = some r ∧ r.badRecord 95 = false)
      ∧ (∃ r, readStep (1 :: 0 :: markBytes.drop 2) = some r ∧ r.badRecord 95 = true))
    ∧ (writePayload .default [] = none ∧ (∃ p, writePayload .default (1 :: List.replicate 24 0) = some p)) :=
  ⟨by decide +kernel, ⟨rfl, ⟨_, rfl, rfl⟩, ⟨_, rfl, by decide⟩⟩, rfl, ⟨_, rfl⟩⟩
/-- A pool of 256 pinned points of station 5. -/
def pinnedPool : List PointRecord := (List.range 256).map (fun c => { record true with channel := c })
/-- At a full quota, and with 256 points pinned, the pool stands as the statement asks. -/
theorem witness_PointWritesAct_full :
    (let s := { (at5 idle .online).updateStation 5 (fun r => { r with config := { r.config with retentionQuota := 1 } }) with
       points := [record false] }
     PoolKept s ∧ s.findPoint 5 2 = none ∧ (s.points.filter (fun p => p.station = 5)).length = 1
       ∧ (s.station 5).config.retentionQuota = 1)
    ∧ (let s := { at5 idle .online with points := { record false with station := 4 } :: pinnedPool }
       PoolKept s ∧ 256 ≤ s.pinnedCount ∧ s.findPoint 4 1 = some { record false with station := 4 }
         ∧ readFlag 1 = some true ∧ validStation (4 : Byte).toNat = true) := by
  refine ⟨⟨record_kept false _ rfl, by decide +kernel, by decide +kernel, by decide +kernel⟩, ⟨?_, ?_, ?_, ?_, ?_, ?_, ?_⟩, ?_⟩
  all_goals decide +kernel
theorem witness_PointWritesAct (b : Bool) : (let s := { at5 idle .online with points := [record b] }
    Ready s ∧ s.FQuiet ∧ s.FBusy ∧ PoolKept s ∧ readFlag 1 = some true
      ∧ 1 < (2 : Byte).toNat ∧ validStation (5 : Byte).toNat = true ∧ s.storing = none
      ∧ (s.findPoint 5 1).isSome = true ∧ s.findPoint 5 2 = none
      ∧ ((s.points.filter (fun p => p.station = 5)).length < (s.station 5).config.retentionQuota ∧ s.points.length < 1024))
    ∧ ((0 : Byte).toNat = 0 ∧ 126 < (127 : Byte).toNat)
    ∧ ({ idle with storing := some [] } : State).storing.isSome = true
    ∧ (idle.station 6).config.retentionQuota = 0 := by
  cases b <;> exact ⟨⟨⟨rfl, rfl, rfl, by decide⟩, .inl rfl, rfl, record_kept _ _ rfl, rfl, by decide, by decide, rfl,
    by decide +kernel,
    by decide +kernel, by decide +kernel⟩, by decide, rfl, by decide +kernel⟩
theorem witness_HoldStationTakesToHeld : (let s := busy (at5 idle .online)
    Ready s ∧ s.FBusy ∧ s.SBusy ∧ validStation (5 : Byte).toNat = true ∧ (s.station (5 : Byte).toNat).state = .online
      ∧ s.run.inProgress = false ∧ s.passDown.all (fun f => !handedOver 5 f) = true)
    ∧ (let s := { busy (at5 idle .online) with passDown := [setFor 5, setFor 9, orderFor 5] }
       s.passDown.length = 3 ∧ (s.station (5 : Byte).toNat).state = .online ∧ s.wireS.isSome = true ∧ s.replies.length + 2 < 16)
    ∧ (let s := busy (at5 (issued [224]) .online)
       Ready s ∧ s.FBusy ∧ (s.station (5 : Byte).toNat).state = .online ∧ s.run.inProgress = true)
    ∧ ((at5 idle .held).station 5).state ≠ .online ∧ (0 : Byte).toNat = 0 ∧ 126 < (127 : Byte).toNat :=
  ⟨⟨⟨rfl, rfl, rfl, by decide⟩, rfl, rfl, by decide, by decide +kernel, rfl, rfl⟩, by decide +kernel,
   ⟨⟨rfl, rfl, rfl, by decide⟩, rfl, by decide +kernel, rfl⟩, by decide +kernel, by decide, by decide⟩
theorem witness_ReleaseAndClearStation :
    (∀ x ∈ [StationState.held, .restoring, .faulted, .overridden], let s := busy (at5 idle x)
      s.loading = false ∧ s.resetPending = none ∧ s.silence.silent = false ∧ s.replies.length < 16 ∧ s.wireF.isSome = true
        ∧ s.wireS.isSome = true ∧ (s.station (5 : Byte).toNat).state = x ∧ (s.station (5 : Byte).toNat).faultPending = false)
    ∧ (∀ x ∈ [StationState.held, .restoring], let s := helloed (issued [224]) x false true
      (s.station 5).state = x ∧ (s.station 5).member = true ∧ s.run.inProgress = true ∧ (s.step 0).used = true
        ∧ (s.step 0).station = 5 ∧ (s.entry 0).state = .issued ∧ s.slotOf 5 = some 0
        ∧ (s.slot 0).map (fun r => (r.step, r.closing, r.outstanding.isSome)) = some (0, false, true))
    ∧ validStation (5 : Byte).toNat = true ∧ (0 : Byte).toNat = 0 ∧ 126 < (127 : Byte).toNat := by decide +kernel
theorem witness_StartRunValidatesThenStarts : (Ready (busy idle) ∧ (busy idle).FBusy ∧ (busy idle).SBusy)
    ∧ (readSelection [] = none ∧ readSelection [0] = some [] ∧ readSelection [1, 1, 5] = some [5] ∧ readSelection [1, 1, 127] = some [127])
    ∧ (running idle).run.inProgress = true ∧ idle.run.inProgress = false ∧ idle.validate = none
    ∧ ({ idle with plan := putAt idle.plan 95 sending } : State).validate = some (1, 95)
    ∧ (let s := busy (at5 idle .online)
       (∀ a ∈ [5, 5, 6], validStation a = true) ∧ (s.station 5).state = .online ∧ (s.station 6).state = .unlisted
        ∧ s.validate = none ∧ s.passDown = []) :=
  ⟨⟨⟨rfl, rfl, rfl, by decide⟩, rfl, rfl⟩, by decide, rfl, rfl, by decide +kernel, by decide +kernel, by decide +kernel⟩
theorem witness_SuspendAndResumeRun : (let s := busy (running idle)
    Ready s ∧ s.FBusy ∧ s.SBusy ∧ s.run.inProgress = true ∧ s.run.causes = .empty ∧ s.run.halting = none
      ∧ s.run.causes.management = false ∧ s.run.causes.alert = false)
    ∧ idle.run.inProgress = false
    ∧ (let s := { busy (running idle) with run := { (running idle).run with halting := some 0 } }
       Ready s ∧ s.FBusy ∧ s.SBusy ∧ s.run.inProgress = true ∧ s.run.halting.isSome = true)
    ∧ ((behind .done).entry 0).state.terminal = true :=
  ⟨⟨⟨rfl, rfl, rfl, by decide⟩, rfl, rfl, rfl, rfl, rfl, rfl, rfl⟩, rfl,
    ⟨⟨rfl, rfl, rfl, by decide⟩, rfl, rfl, rfl, rfl⟩, rfl⟩
theorem witness_AbortEndsTheRun : (Ready (busy (issued [224])) ∧ (busy (issued [224])).FBusy ∧ (busy (issued [224])).SBusy
    ∧ (busy (issued [224])).run.inProgress = true ∧ ((issued [224]).step 0).used = true ∧ ((issued [224]).entry 0).state ≠ .idle
    ∧ ((issued [224]).entry 0).state.terminal = false)
    ∧ (((behind .failed).entry 0).state.terminal = true
      ∧ (∀ x ∈ [StationState.held, .restoring], ∀ q ∈ [[], [setFor 5]], let s := (helloed (issued [224]) x false true).setQueue 5 q
        (s.station 5).member = true ∧ (s.station 5).state = x ∧ s.queue 5 = q ∧ (s.station 5).faultPending = false))
    ∧ idle.run.inProgress = false :=
  ⟨⟨⟨rfl, rfl, rfl, by decide⟩, rfl, rfl, rfl, rfl, by decide, rfl⟩, ⟨rfl, by decide +kernel⟩, rfl⟩
theorem witness_SetFeedWritesTheFeed : (Ready (busy idle) ∧ (busy idle).FBusy ∧ (busy idle).SBusy ∧ (busy idle).storing = none
    ∧ (busy idle).run.inProgress = false ∧ (1 : Byte).toNat ≤ 1 ∧ (0 : Byte).toNat ≤ 1) ∧ 1 < (2 : Byte).toNat
    ∧ ({ idle with storing := some [] } : State).storing.isSome = true :=
  ⟨⟨⟨rfl, rfl, rfl, by decide⟩, rfl, rfl, rfl, rfl, by decide, by decide⟩, by decide, rfl⟩

end Sys2Proof.Tests
end

section
/-! SUPPORT. Bridge time under the commands and the resets that write it (R1, R18, R197), and the statement about it. -/

namespace Sys2Proof.Machine

/-! ## The clock's command and the power-on reset, as `exec` has them -/

@[simp] theorem exec_bridgeTimeIncrement (s : State) : exec .bridgeTimeIncrement s = .next s.tick := rfl

@[simp] theorem exec_powerOnReset (x : Straps) (s : State) : exec (.powerOnReset x) s = .next (s.powerOn x) := rfl

/-! ## Bridge time after each of the three resets -/

@[simp] theorem powerOn_bridgeTime (s : State) (x : Straps) : (s.powerOn x).bridgeTime = 0 := rfl

@[simp] theorem coldReset_bridgeTime (s : State) : s.coldReset.bridgeTime = 0 := rfl

@[simp] theorem warmReset_bridgeTime (s : State) : s.warmReset.bridgeTime = s.bridgeTime := rfl

/-! ## Arithmetic of bridge times -/

theorem bridgeTime_succ_toNat (t : BridgeTime) : (t + 1).toNat = (t.toNat + 1) % 2 ^ 32 := BitVec.toNat_add t 1

theorem bridgeTime_sub_toNat (a b : BridgeTime) : (a - b).toNat = (a.toNat + (2 ^ 32 - b.toNat)) % 2 ^ 32 := by
  rw [BitVec.toNat_sub, Nat.add_comm]

/-- Settles O8: the increment and the power-on reset by their meanings, the other two resets by what they leave of bridge time, the
wrap and the difference by the arithmetic of 32-bit words. -/
theorem bridgeTimeRuns : Obligations.BridgeTimeRuns := by
  unfold Obligations.BridgeTimeRuns
  refine ⟨?increment, ?wrap, ?powerOn, ?resets, ?difference⟩
  case increment => exact exec_bridgeTimeIncrement
  case wrap => exact fun s => bridgeTime_succ_toNat s.bridgeTime
  case powerOn => exact fun x s => ⟨s.powerOn x, exec_powerOnReset x s, powerOn_bridgeTime s x⟩
  case resets => exact fun s => ⟨coldReset_bridgeTime s, warmReset_bridgeTime s⟩
  case difference => exact bridgeTime_sub_toNat

end Sys2Proof.Machine
end

section
/-! SUPPORT. The number of contributions (R146) and the run record (R102) under the operations of the Run Engine. -/

namespace Sys2Proof.Machine

variable (s : State)

/-! ## Contributions: only a grant adds one, and it has found a place for it (R147, R156) -/

section
@[simp] theorem raise_contributions_length (e : NoticeEvent) :
    (s.raise e).contributions.length = s.contributions.length := rfl
@[simp] theorem setSlot_contributions (i : Nat) (r : Option InjectionRecord) :
    (s.setSlot i r).contributions = s.contributions := rfl
@[simp] theorem startClock_contributions_length (n : Nat) :
    (s.startClock n).contributions.length = s.contributions.length := by simp [State.startClock]

@[simp] theorem setStepState_contributions (n : Nat) (x : StepState) :
    (s.setStepState n x).contributions = s.contributions := by simp [State.setStepState]

@[simp] theorem evaluate_contributions (n : Nat) : (s.evaluate n).contributions = s.contributions := by
  unfold State.evaluate; repeat' split
  all_goals simp

@[simp] theorem evaluateAll_contributions : s.evaluateAll.contributions = s.contributions :=
  foldl_keeps State.contributions _ evaluate_contributions _ s

@[simp] theorem makeAttempt_contributions (i : Nat) : (s.makeAttempt i).contributions = s.contributions := by
  unfold State.makeAttempt; split <;> rfl

@[simp] theorem makePoll_contributions (i : Nat) : (s.makePoll i).contributions = s.contributions := by
  unfold State.makePoll; split <;> rfl

@[simp] theorem openRecord_contributions (i n k c : Nat) : (s.openRecord i n k c).contributions = s.contributions := by
  simp [State.openRecord]

@[simp] theorem closeRecord_contributions (i : Nat) : (s.closeRecord i).contributions = s.contributions := by
  unfold State.closeRecord; repeat' split
  all_goals simp

@[simp] theorem resolveRecord_contributions (i : Nat) (q : Byte) (c : Option Nat) :
    (s.resolveRecord i q c).contributions = s.contributions := by
  unfold State.resolveRecord; dsimp only; repeat' split
  all_goals simp

@[simp] theorem cancelRecord_contributions (i : Nat) : (s.cancelRecord i).contributions = s.contributions := by
  unfold State.cancelRecord; repeat' split
  all_goals simp

@[simp] theorem cancelRecordOf_contributions (a n : Nat) : (s.cancelRecordOf a n).contributions = s.contributions := by
  unfold State.cancelRecordOf; repeat' split
  all_goals simp

@[simp] theorem settleStep_contributions (n : Nat) : (s.settleStep n).contributions = s.contributions := by
  unfold State.settleStep; split <;> simp

@[simp] theorem finishFrames_contributions_length (n : Nat) :
    (s.finishFrames n).contributions.length = s.contributions.length := by simp [State.finishFrames]

@[simp] theorem leaveStep_contributions_length (a : Nat) (b : Bool) (n : Nat) :
    (State.leaveStep a b s n).contributions.length = s.contributions.length := by
  unfold State.leaveStep; repeat' split
  all_goals simp

@[simp] theorem leaveSteps_contributions_length (a : Nat) (b : Bool) :
    (s.leaveSteps a b).contributions.length = s.contributions.length :=
  foldl_keeps (fun s => s.contributions.length) _ (fun s n => leaveStep_contributions_length s a b n) _ s

@[simp] theorem leaveRun_contributions_length (a : Nat) (b : Bool) :
    (s.leaveRun a b).contributions.length = s.contributions.length := by
  unfold State.leaveRun; dsimp only; split <;> simp

@[simp] theorem returnStep_contributions_length (n : Nat) :
    (s.returnStep n).contributions.length = s.contributions.length := by
  unfold State.returnStep; split <;> simp

@[simp] theorem restartSteps_contributions_length (a : Nat) (k : Restart) :
    (s.restartSteps a k).contributions.length = s.contributions.length := by
  have h : ∀ l : List Nat, (l.foldl State.returnStep s).contributions.length = s.contributions.length := fun l =>
    foldl_keeps (fun s => s.contributions.length) _ (fun s n => returnStep_contributions_length s n) l s
  unfold State.restartSteps; dsimp only; split <;> simp [h]

@[simp] theorem drainEnd_contributions_length (a : Nat) :
    (s.drainEnd a).contributions.length = s.contributions.length := by
  unfold State.drainEnd; dsimp only; split <;> simp

@[simp] theorem checkDrain_contributions_length (a : Nat) :
    (s.checkDrain a).contributions.length = s.contributions.length := by
  unfold State.checkDrain; split <;> simp

@[simp] theorem enterDraining_contributions_length (a : Nat) :
    (s.enterDraining a).contributions.length = s.contributions.length := by
  unfold State.enterDraining; split <;> simp

@[simp] theorem faultRequest_contributions_length (a : Nat) (c : FaultCause) :
    (s.faultRequest a c).contributions.length = s.contributions.length := by
  unfold State.faultRequest; repeat' split
  all_goals simp

@[simp] theorem completeFrameless_contributions_length (n : Nat) :
    (s.completeFrameless n).contributions.length = s.contributions.length := by
  unfold State.completeFrameless; dsimp only; split <;> simp

@[simp] theorem setFeedRecord_contributions (f : Feed) (r : FeedRecord) :
    (s.setFeedRecord f r).contributions = s.contributions := by cases f <;> rfl

@[simp] theorem markWait_contributions (f : Feed) : (s.markWait f).contributions = s.contributions := by
  unfold State.markWait; repeat' split
  all_goals simp

/-- An eligible step on a feed has found a place for its contribution (R126, R156). -/
theorem eligible_room {n : Nat} {f : Feed} (h : s.eligible n = true) (hf : (s.step n).feed.feed = some f) :
    s.contributions.length < 96 := by
  simp only [State.eligible, hf, Bool.and_eq_true, State.admits, decide_eq_true_eq] at h
  exact h.2.2.2

theorem grant_contributions_length (i n : Nat) (h : s.eligible n = true) (hs : s.contributions.length ≤ 96) :
    (s.grant i n).contributions.length ≤ 96 := by
  have restored : ∀ (t : State) (a : Nat),
      (if (t.station a).state = .held then t.updateStation a (fun x => { x with state := .restoring }) else t).contributions
        = t.contributions := by
    intro t a; split <;> simp
  unfold State.grant; dsimp only
  rw [restored, setStepState_contributions, openRecord_contributions]
  split
  · next f hf =>
    have := eligible_room s h hf
    simp [State.createContribution]; omega
  · exact hs

theorem nextGrant_eligible {i n : Nat} (h : s.nextGrant = some (i, n)) : s.eligible n = true := by
  unfold State.nextGrant at h
  split at h
  · obtain ⟨m, hm, he⟩ := Option.map_eq_some_iff.mp h
    cases he
    exact List.find?_some hm
  · cases h

theorem settleLoop_contributions_length (fuel : Nat) (due : Bool) (hs : s.contributions.length ≤ 96) :
    (State.settleLoop fuel due s).contributions.length ≤ 96 := by
  induction fuel generalizing due s with
  | zero => exact hs
  | succ k ih =>
    simp only [State.settleLoop]
    split
    · exact ih _ _ (by simpa using hs)
    · split
      · split
        · next i n h => exact ih _ _ (grant_contributions_length _ i n (nextGrant_eligible _ h) (by simpa using hs))
        · simpa using hs
      · simpa using hs

@[simp] theorem clearMembers_contributions : s.clearMembers.contributions = s.contributions := rfl

@[simp] theorem drainMembers_contributions_length : s.drainMembers.contributions.length = s.contributions.length := by
  unfold State.drainMembers
  rw [clearMembers_contributions]
  exact foldl_keeps (fun s => s.contributions.length) _ enterDraining_contributions_length _ s

@[simp] theorem closeRun_contributions (o : RunOutcome) : (s.closeRun o).contributions = s.contributions := rfl

theorem followUp_contributions_length (due : Bool) (hs : s.contributions.length ≤ 96) :
    (State.followUp due s).contributions.length ≤ 96 := by
  have h := settleLoop_contributions_length s 200 due hs
  unfold State.followUp State.testRunEnd
  split
  · split
    · simpa [State.endRun] using h
    · exact h
  · exact hs

@[simp] theorem haltRun_contributions (n : Nat) : (s.haltRun n).contributions = s.contributions := by
  unfold State.haltRun; split <;> rfl

@[simp] theorem failStep_contributions_length (n : Nat) (c : FailureCause) (b : Byte) :
    (s.failStep n c b).contributions.length = s.contributions.length := by
  unfold State.failStep State.propagate; dsimp only; split <;> simp

@[simp] theorem abortStep_contributions_length (n : Nat) :
    (s.abortStep n).contributions.length = s.contributions.length := by
  unfold State.abortStep; split <;> simp

@[simp] theorem abortRun_contributions_length : s.abortRun.contributions.length = s.contributions.length := by
  have cancelled : ∀ t : State, (slotNumbers.foldl State.cancelRecord t).contributions = t.contributions :=
    foldl_keeps State.contributions _ cancelRecord_contributions _
  have aborted : (stepNumbers.foldl State.abortStep s).contributions.length = s.contributions.length :=
    foldl_keeps (fun s => s.contributions.length) _ abortStep_contributions_length _ s
  simp only [State.abortRun, closeRun_contributions, drainMembers_contributions_length, cancelled, aborted]
end

end Sys2Proof.Machine
end

section
/-! SUPPORT. What every event but a reset and the leaving of an S-port frame leaves of the notices and the receivers, and the
capacities it keeps (R13, R27, R30, R33 to R35, R47, R146, R166, R178, R194), said once for each operation of the model. -/

namespace Sys2Proof.Machine

/-- From `s` to `t` the S-port's wire, the spacing timer, the notice slot and number and the assemblies are left as they are, and
the capacities are kept. -/
structure Moves (s t : State) : Prop where
  wireS        : t.wireS = s.wireS
  spacing      : t.spacing = s.spacing
  noticeSlot   : t.noticeSlot = s.noticeSlot
  noticeNumber : t.noticeNumber = s.noticeNumber
  assembly     : ∀ p, (t.port p).assembly = (s.port p).assembly
  capacities   : Capacities s → Capacities t

theorem Moves.refl (s : State) : Moves s s := ⟨rfl, rfl, rfl, rfl, fun _ => rfl, id⟩

theorem Moves.trans {s t u : State} (h : Moves s t) (k : Moves t u) : Moves s u :=
  ⟨k.wireS.trans h.wireS, k.spacing.trans h.spacing, k.noticeSlot.trans h.noticeSlot, k.noticeNumber.trans h.noticeNumber,
    fun p => (k.assembly p).trans (h.assembly p), fun hs => k.capacities (h.capacities hs)⟩

theorem moves_ite {s t u : State} {c : Prop} [Decidable c] (h : Moves s t) (k : Moves s u) : Moves s (if c then t else u) := by
  split
  · exact h
  · exact k

theorem moves_foldl {α : Type} (f : State → α → State) (h : ∀ s a, Moves s (f s a)) (l : List α) (s : State) :
    Moves s (l.foldl f s) := by
  induction l generalizing s with
  | nil => exact .refl s
  | cons a l ih => exact (h s a).trans (ih _)

/-! ## Operations that write nothing of what `Capacities` and `Moves` read -/

/-- A station record with its history alone. -/
def StationRecord.pastOnly (r : StationRecord) : StationRecord := { StationRecord.default with history := r.history }

/-- The state with all that `Capacities` and `Moves` do not read taken out, and the contributions with it. -/
def State.watched (s : State) : State :=
  { s.core with
    pending := [], freeCount := 0, bridgeTime := 0, alertReserve := none, lastDrain := 0, wireF := none
    stations := mapTable s.stations StationRecord.pastOnly
    points := [], queues := Vector.replicate 126 [], highWaterArmed := true, plan := Vector.replicate 96 .default
    payloads := Vector.replicate 64 .default, run := .reset, feedA := .reset, feedB := .reset, sliceDeadline := 0
    silence := { State.reset.silence with duration := s.silence.duration }, resetPending := none, settings := .default
    straps := State.reset.straps, loading := true, imageStatus := .loaded, storing := none, configMemory := [] }

theorem watched_history (s : State) (a : Nat) : (s.watched.station a).history = (s.station a).history := by
  cases a with
  | zero => rfl
  | succ k =>
    have h := congrArg StationRecord.history (getAt_mapTable s.stations StationRecord.pastOnly k .default)
    exact h

theorem moves_of_watched {s t : State} (h : t.watched = s.watched)
    (hc : s.contributions.length ≤ 96 → t.contributions.length ≤ 96) : Moves s t := by
  have portS : t.portS = s.portS := (congrArg State.portS h :)
  have portF : t.portF = s.portF := (congrArg State.portF h :)
  have past : ∀ a, (t.station a).history = (s.station a).history := fun a => by
    rw [← watched_history t, h, watched_history]
  refine ⟨(congrArg State.wireS h :), (congrArg State.spacing h :), (congrArg State.noticeSlot h :),
    (congrArg State.noticeNumber h :), fun p => ?_, fun k => ?_⟩
  · cases p <;> simp [State.port, portS, portF]
  · exact
      { passDown := (congrArg State.passDown h :) ▸ k.passDown
        passUp := (congrArg State.passUp h :) ▸ k.passUp
        replies := (congrArg State.replies h :) ▸ k.replies
        drainGuard := (congrArg State.drainGuard h :) ▸ k.drainGuard
        replyGuard := (congrArg State.replyGuard h :) ▸ k.replyGuard
        windowS := portS ▸ k.windowS
        windowF := portF ▸ k.windowF
        duration := (congrArg (fun x => x.silence.duration) h :) ▸ k.duration
        counters := fun c => (congrArg (fun x => x.counter c) h :) ▸ k.counters c
        contributions := hc k.contributions
        histories := fun a => past a ▸ k.histories a
        cursor := (congrArg State.cursor h :) ▸ k.cursor }

/-- An operation that leaves all that the engine leaves, and adds no contribution beyond the last place. -/
theorem moves_of_core {s t : State} (h : t.core = s.core)
    (hc : s.contributions.length ≤ 96 → t.contributions.length ≤ 96) : Moves s t := by
  refine moves_of_watched ?_ hc
  have e : ∀ u : State, u.watched = { u.core.watched with pending := [] } := by
    intro u
    have := mapTable_mapTable_same u.stations StationRecord.fixed
      StationRecord.pastOnly (fun _ => rfl)
    simp only [State.watched, State.core, this]
  rw [e t, e s, h]

/-- The same, for an operation that adds none. -/
theorem moves_core {s t : State} (h : t.core = s.core) (hc : t.contributions.length = s.contributions.length) : Moves s t :=
  moves_of_core h (fun k => hc ▸ k)

/-! ## The Run Engine and the station state machine -/

theorem moves_raise (s : State) (e : NoticeEvent) : Moves s (s.raise e) := moves_core rfl rfl

theorem moves_setEntry (s : State) (n : Nat) (e : StepEntry) : Moves s (s.setEntry n e) := moves_core (by simp) (by simp)

theorem moves_leaveRun (s : State) (a : Nat) (b : Bool) : Moves s (s.leaveRun a b) := moves_core (by simp) (by simp)

theorem moves_checkDrain (s : State) (a : Nat) : Moves s (s.checkDrain a) := moves_core (by simp) (by simp)

theorem moves_enterDraining (s : State) (a : Nat) : Moves s (s.enterDraining a) := moves_core (by simp) (by simp)

theorem moves_faultRequest (s : State) (a : Nat) (c : FaultCause) : Moves s (s.faultRequest a c) :=
  moves_core (by simp) (by simp)

theorem moves_followUp (due : Bool) (s : State) : Moves s (State.followUp due s) :=
  moves_of_core (followUp_core due s) (followUp_contributions_length s due)

theorem moves_settle (s : State) : Moves s s.settle := moves_followUp true s

theorem moves_settleFrom (s t : State) : Moves t (s.settleFrom t) := moves_followUp _ t

theorem moves_failStep (s : State) (n : Nat) (c : FailureCause) (b : Byte) : Moves s (s.failStep n c b) :=
  moves_core (by simp) (by simp)

theorem moves_abortRun (s : State) : Moves s s.abortRun := moves_core (by simp) (by simp)

/-- A station record changed in its state, membership and fault fields alone. -/
theorem moves_updateStation (s : State) (a : Nat) (g : StationRecord → StationRecord) (h : ∀ r, (g r).fixed = r.fixed) :
    Moves s (s.updateStation a g) := moves_core (updateStation_core s a g h) (by simp)

theorem moves_setSlot (s : State) (i : Nat) (r : Option InjectionRecord) : Moves s (s.setSlot i r) := moves_core rfl rfl

theorem returnStep_core (s : State) (n : Nat) : (s.returnStep n).core = s.core := by
  unfold State.returnStep; split <;> simp

theorem restartSteps_core (s : State) (a : Nat) (k : Restart) : (s.restartSteps a k).core = s.core := by
  have h : ∀ l : List Nat, (l.foldl State.returnStep s).core = s.core := fun l => foldl_keeps State.core _ returnStep_core l s
  unfold State.restartSteps; dsimp only; split <;> simp [h]

theorem moves_restartSteps (s : State) (a : Nat) (k : Restart) : Moves s (s.restartSteps a k) :=
  moves_core (restartSteps_core s a k) (by simp)

theorem moves_joinRun (s : State) (a : Nat) (k : Restart) : Moves s (s.joinRun a k) :=
  moves_ite ((moves_updateStation s a _ (by intro _; rfl)).trans (moves_restartSteps _ a k)) (.refl s)

theorem moves_addCause (s : State) (g : Causes → Causes) : Moves s (s.addCause g) := by
  unfold State.addCause
  dsimp only
  refine moves_ite ?_ (.refl s)
  have h : Moves s { s with run := { s.run with causes := g s.run.causes } } := moves_of_watched rfl id
  exact moves_ite (h.trans (moves_raise _ _)) h

theorem syncHeads_core (s : State) : s.syncHeads.core = s.core := by simp [State.syncHeads]

theorem moves_beginRun (s : State) : Moves s s.beginRun := by
  have members : ∀ t : State, Moves t t.takeMembers := fun t => moves_core (by
    simp only [State.core, State.takeMembers]
    rw [mapTable_mapTable_same]
    intro r; split <;> rfl) rfl
  have entries : ∀ t : State, Moves t t.startEntries := fun t =>
    moves_core (syncHeads_core _) (by simp [State.startEntries, State.syncHeads])
  have started : Moves s { s with run := { s.run with inProgress := true, number := s.run.number + 1
                                                      startTime := s.bridgeTime, halting := none, causes := .empty } } :=
    moves_of_watched rfl id
  exact (((started.trans (members _)).trans (entries _)).trans (moves_raise _ _)).trans (moves_settle _)

theorem moves_autoStart (s : State) (a : Nat) : Moves s (s.autoStart a) := by
  unfold State.autoStart
  refine moves_ite ?_ (.refl s)
  split
  · exact moves_beginRun s
  · exact moves_raise s _

/-! ## Counters and replies -/

/-- The counting of a counter writes the counters and the COUNT event alone (R194). -/
theorem count_eq (s : State) (c : Counter) :
    s.count c = { s with counters := (s.count c).counters, noticePending := (s.count c).noticePending } := by
  unfold State.count; dsimp only; repeat' split
  all_goals rfl

theorem count_le (s : State) (c d : Counter) (h : s.counter d ≤ 255) : (s.count c).counter d ≤ 255 := by
  rw [count_counter]; split <;> omega

theorem moves_count (s : State) (c : Counter) : Moves s (s.count c) := by
  rw [count_eq]
  exact ⟨rfl, rfl, rfl, rfl, fun p => by cases p <;> rfl, fun h => { h with counters := fun d => count_le s c d (h.counters d) }⟩

theorem moves_placeReply (s : State) (r : Reply) : Moves s (s.placeReply r) := by
  unfold State.placeReply
  split
  · next h =>
    refine ⟨rfl, rfl, rfl, rfl, fun p => by cases p <;> rfl, fun k => { k with replies := ?_ }⟩
    simp [Config.replyPlaces] at h ⊢; omega
  · exact moves_count s _

theorem moves_replyHold (s : State) (f : Frame) (d : Disposition) (len : Nat) : Moves s (s.replyHold f d len) :=
  moves_placeReply s _

theorem moves_defer (s : State) (f : Frame) (len : Nat) : Moves s (s.defer f len) :=
  ((moves_replyHold s f _ len).trans (moves_count _ _)).trans (moves_raise _ _)

/-! ## Hold queues -/

theorem moves_setQueue (s : State) (a : Nat) (q : List Frame) : Moves s (s.setQueue a q) := by
  cases a with
  | zero => exact .refl s
  | succ a => exact moves_of_watched rfl id

theorem moves_rearm (s : State) : Moves s s.rearm := moves_ite (moves_of_watched rfl id) (.refl s)

theorem moves_discardFrames (a : Nat) (q : List Frame) (s : State) : Moves s (State.discardFrames a q s) := by
  induction q generalizing s with
  | nil => exact .refl s
  | cons f rest ih =>
    exact ((((moves_setQueue s a rest).trans (moves_rearm _)).trans (moves_replyHold _ _ _ _)).trans
      (moves_count _ _)).trans (ih _)

theorem moves_discardQueue (s : State) (a : Nat) : Moves s (s.discardQueue a) :=
  (moves_discardFrames a _ s).trans (moves_ite (.refl _) (moves_raise _ _))

theorem moves_overrideStation (s : State) (a : Nat) : Moves s (s.overrideStation a) := by
  unfold State.overrideStation
  split
  case h_1 | h_2 => exact .refl s
  all_goals
    exact ((moves_updateStation s a _ (by intro _; rfl)).trans (moves_discardQueue _ a)).trans (moves_leaveRun _ a _)

theorem moves_replySuperseded (len : Nat) (l : List Frame) (s : State) : Moves s (s.replySuperseded len l) := by
  induction l generalizing s len with
  | nil => exact .refl s
  | cons f rest ih => exact ((moves_replyHold s f _ _).trans (moves_count _ _)).trans (ih _ _)

theorem moves_supersede (s : State) (a : Nat) (f : Frame) : Moves s (s.supersede a f) := by
  unfold State.supersede
  refine moves_ite ?_ (.refl s)
  dsimp only
  exact moves_ite (.refl s) (((moves_setQueue s a _).trans (moves_rearm _)).trans (moves_replySuperseded _ _ _))

theorem moves_testHighWater (s : State) : Moves s s.testHighWater :=
  moves_ite ((moves_of_watched rfl id : Moves s { s with highWaterArmed := false }).trans (moves_raise _ _)) (.refl s)

theorem moves_holdEntry (a : Nat) (s : State) (f : Frame) : Moves s (State.holdEntry a s f) := by
  refine (moves_supersede s a f).trans (moves_ite ?held ?deferred)
  case held => exact ((moves_setQueue _ a _).trans (moves_testHighWater _)).trans (moves_replyHold _ _ _ _)
  case deferred => exact (moves_defer _ f _).trans (moves_checkDrain _ a)

theorem moves_handOver (s : State) (a : Nat) : Moves s (s.handOver a) := by
  have taken : Moves s { s with passDown := s.passDown.filter (fun f => !handedOver a f) } :=
    ⟨rfl, rfl, rfl, rfl, fun p => by cases p <;> rfl,
      fun h => { h with passDown := (List.length_filter_le _ _).trans h.passDown }⟩
  exact taken.trans (moves_foldl _ (moves_holdEntry a) _ _)

theorem moves_enterHeld (s : State) (a : Nat) (k : Restart) : Moves s (s.enterHeld a k) :=
  ((moves_updateStation s a _ (by intro _; rfl)).trans (moves_handOver _ a)).trans (moves_joinRun _ a k)

/-! ## HELLOs -/

theorem appendHistory_length (h : List HistoryEntry) (e : HistoryEntry) : (appendHistory h e).length ≤ 4 := by
  simp [appendHistory, Config.historyEntries]; omega

theorem updateStation_history_le (s : State) (a : Nat) (g : StationRecord → StationRecord)
    (h : ∀ r, r.history.length ≤ 4 → (g r).history.length ≤ 4) (hs : ∀ b, (s.station b).history.length ≤ 4) (b : Nat) :
    ((s.updateStation a g).station b).history.length ≤ 4 := by
  rw [updateStation_station]
  split
  · exact h _ (hs b)
  · exact hs b

/-- A station record changed at will, its history staying within its four entries (R47). -/
theorem moves_updateHistory (s : State) (a : Nat) (g : StationRecord → StationRecord)
    (h : ∀ r, r.history.length ≤ 4 → (g r).history.length ≤ 4) : Moves s (s.updateStation a g) := by
  refine ⟨?_, ?_, ?_, ?_, ?_, fun k => ?_⟩
  case refine_6 =>
    have e := updateStation_history_le s a g h k.histories
    cases a with
    | zero => exact k
    | succ a => exact { k with histories := e }
  all_goals cases a <;> first | rfl | exact fun p => by cases p <;> rfl

theorem moves_helloOnline (s : State) (a : Nat) (kept : Bool) : Moves s (s.helloOnline a kept) := by
  unfold State.helloOnline
  refine moves_ite ?_ (.refl s)
  dsimp only
  exact moves_ite ((moves_enterHeld s a _).trans (moves_settleFrom _ _)) ((moves_enterHeld s a _).trans (moves_autoStart _ a))

theorem moves_helloRestart (s : State) (a : Nat) : Moves s (s.helloRestart a) := by
  unfold State.helloRestart
  refine (moves_updateStation s a (fun r => { r with state := .held }) fun _ => rfl).trans ?_
  dsimp only
  generalize s.updateStation a _ = t
  exact moves_ite (moves_ite ((moves_restartSteps t a _).trans (moves_settleFrom t _)) (.refl t)) (moves_autoStart t a)

theorem moves_helloDraining (s : State) (a : Nat) : Moves s (s.helloDraining a) := by
  unfold State.helloDraining
  refine moves_ite (.refl s) ((moves_updateStation s a (fun r => { r with state := .held }) fun _ => rfl).trans ?_)
  dsimp only
  generalize s.updateStation a _ = t
  exact moves_ite ((moves_joinRun t a _).trans (moves_settleFrom t _)) (moves_autoStart t a)

theorem moves_helloEffect (s : State) (a : Nat) (kept : Bool) : Moves s (s.helloEffect a kept) := by
  unfold State.helloEffect
  split
  case h_1 => exact moves_helloOnline s a kept
  case h_2 | h_3 => exact moves_helloRestart s a
  case h_4 => exact moves_helloDraining s a
  all_goals exact .refl s

theorem moves_helloTap (s : State) (a : Nat) (payload : List Byte) : Moves s (s.helloTap a payload) := by
  refine (moves_count s .hellosSeen).trans (moves_ite ?listed (.refl _))
  exact ((moves_updateHistory _ a _ fun r _ => appendHistory_length r.history _).trans (moves_raise _ _)).trans
    (moves_ite (((moves_raise _ _).trans (moves_faultRequest _ a _)).trans (moves_settleFrom _ _)) (moves_helloEffect _ a _))

/-! ## Absorbed frames and the deadlines of records -/

theorem resolveRecord_core (s : State) (i : Nat) (q : Byte) (c : Option Nat) : (s.resolveRecord i q c).core = s.core := by
  unfold State.resolveRecord; dsimp only; repeat' split
  all_goals simp

theorem moves_resolveRecord (s : State) (i : Nat) (q : Byte) (c : Option Nat) : Moves s (s.resolveRecord i q c) :=
  moves_core (resolveRecord_core s i q c) (by simp)

theorem moves_acceptLast (s : State) (i n : Nat) (q : Byte) : Moves s (s.acceptLast i n q) :=
  (moves_core (finishFrames_core s n) (by simp)).trans (moves_resolveRecord _ i q none)

theorem moves_nextStart (s : State) (r : InjectionRecord) : Moves s (s.nextStart r).1 := by
  unfold State.nextStart
  split
  · exact .refl s
  · exact moves_of_watched rfl id

theorem moves_acceptRestore (s : State) (i : Nat) (r : InjectionRecord) (q : Byte) : Moves s (s.acceptRestore i r q) :=
  (moves_nextStart s r).trans (moves_ite (moves_acceptLast _ i _ q) (moves_resolveRecord _ i q _))

theorem moves_refuse (s : State) (i n : Nat) (f : Frame) : Moves s (s.refuse i n f) :=
  (moves_resolveRecord s i _ _).trans (moves_failStep _ n _ _)

theorem moves_answerPoll (s : State) (i : Nat) (r : InjectionRecord) (f : Frame) : Moves s (s.answerPoll i r f) :=
  moves_ite (moves_acceptLast s i _ _)
    (moves_ite (moves_setSlot s i _) ((moves_resolveRecord s i _ _).trans (moves_failStep _ _ _ _)))

theorem moves_closeRecord (s : State) (i : Nat) : Moves s (s.closeRecord i) := moves_core (by simp) (by simp)

theorem moves_absorb (s : State) (i : Nat) (f : Frame) : Moves s (s.absorb i f) := by
  have answered : ∀ r : InjectionRecord, ∀ t : State, Moves s t →
      Moves s (if f.kind = kindAck then t else if f.kind = kindNak then s.refuse i r.step f else s) :=
    fun r t h => moves_ite h (moves_ite (moves_refuse s i _ f) (.refl s))
  unfold State.absorb
  split
  · exact .refl s
  · next r _ =>
    refine moves_ite ((moves_count s _).trans (moves_closeRecord _ i)) (moves_ite (moves_count s _) ?_)
    split
    · exact answered r _ (moves_acceptRestore s i r _)
    · exact moves_ite (moves_answerPoll s i r f) (.refl s)
    · exact answered r _ (moves_acceptLast s i _ _)

theorem moves_makeAttempt (s : State) (i : Nat) : Moves s (s.makeAttempt i) := moves_core (by simp) (by simp)

theorem moves_makePoll (s : State) (i : Nat) : Moves s (s.makePoll i) :=
  moves_core (by unfold State.makePoll; split <;> rfl) (by simp)

theorem moves_timeOut (s : State) (i : Nat) (r : InjectionRecord) : Moves s (s.timeOut i r) :=
  moves_ite (((moves_setSlot s i _).trans (moves_makeAttempt _ i)).trans (moves_count _ _))
    ((moves_setSlot s i _).trans (moves_failStep _ _ _ _))

theorem moves_injectionLeft (s : State) (f : Frame) : Moves s (s.injectionLeft f) := by
  unfold State.injectionLeft
  repeat' split
  all_goals first | exact moves_setSlot s _ _ | exact .refl s

/-! ## The pool and the feeds -/

theorem moves_snoopPoint (s : State) (a : Nat) (q : Byte) (p : Nat × Nat) : Moves s (s.snoopPoint a q p) := by
  have written : ∀ r : PointRecord, Moves s (s.writePoint r) := fun _ => moves_of_watched rfl id
  unfold State.snoopPoint
  split
  · exact moves_ite (.refl s) (written _)
  · exact moves_ite (written _) (moves_count s _)

theorem moves_snoop (s : State) (f : Frame) : Moves s (s.snoop f) :=
  moves_ite (moves_foldl _ (fun s p => moves_snoopPoint s f.station f.seq p) _ s) (.refl s)

theorem moves_setFeedRecord (s : State) (f : Feed) (r : FeedRecord) : Moves s (s.setFeedRecord f r) := by
  cases f <;> exact moves_of_watched rfl id

theorem moves_takeReading (s : State) (f : Feed) (v : Nat) : Moves s (s.takeReading f v) := by
  refine (moves_setFeedRecord s f _).trans (moves_ite (moves_of_watched rfl fun h => ?_) (.refl _))
  exact (List.length_filter_le _ _).trans h

theorem moves_upTaps (s : State) (f : Frame) : Moves s (s.upTaps f) := by
  refine moves_ite (moves_of_watched rfl id) (moves_ite (moves_of_watched rfl id) ?_)
  split
  · exact (moves_takeReading s _ _).trans (moves_settle _)
  · exact .refl s

theorem moves_fold (s : State) (c : Contribution) : Moves s (s.fold c) :=
  moves_ite (moves_setFeedRecord s _ _) ((moves_setFeedRecord s _ _).trans (moves_raise _ _))

theorem moves_foldContributions (s : State) : Moves s s.foldContributions := by
  have kept : Moves s { s with contributions := s.contributions.filter (fun c => !s.foldsNow c) } :=
    moves_of_watched rfl fun h => (List.length_filter_le _ _).trans h
  exact kept.trans (moves_foldl _ moves_fold _ _)

theorem moves_testStale (s : State) (f : Feed) : Moves s (s.testStale f) :=
  moves_ite ((moves_setFeedRecord s f _).trans (moves_raise _ _)) (.refl s)

theorem moves_markWait (s : State) (f : Feed) : Moves s (s.markWait f) := moves_core (by simp) (by simp)

theorem moves_countWait (s : State) (f : Feed) (n : Nat) : Moves s (s.countWait f n) :=
  moves_ite (((moves_markWait s f).trans (moves_setFeedRecord _ f _)).trans
    (moves_ite ((moves_failStep _ n _ _).trans (moves_settle _)) (.refl _))) (.refl s)

theorem moves_countWaits (s : State) : Moves s s.countWaits := by
  unfold State.countWaits
  split
  · exact moves_ite ((moves_countWait s _ _).trans (moves_countWait _ _ _)) ((moves_countWait s _ _).trans (moves_countWait _ _ _))
  · exact moves_countWait s _ _
  · exact moves_countWait s _ _
  · exact .refl s

/-! ## Arrivals but the REQUEST's -/

theorem takeError_window (x : PortState) (now : BridgeTime) (e : ReceiveError) : (x.takeError now e).window.length ≤ 7 := by
  simp [PortState.takeError, Config.windowTimes]

/-- A port's receiver state replaced, the assembly kept and the error window within its seven times (R13). -/
theorem moves_setPort (s : State) (p : Port) (x : PortState) (ha : x.assembly = (s.port p).assembly)
    (hw : (s.port p).window.length ≤ 7 → x.window.length ≤ 7) : Moves s (s.setPort p x) := by
  cases p with
  | s => exact ⟨rfl, rfl, rfl, rfl, fun q => by cases q; exacts [ha, rfl], fun h => { h with windowS := hw h.windowS }⟩
  | f => exact ⟨rfl, rfl, rfl, rfl, fun q => by cases q; exacts [rfl, ha], fun h => { h with windowF := hw h.windowF }⟩

theorem moves_receiveError (s : State) (p : Port) (e : ReceiveError) : Moves s (s.receiveError p e) := by
  have h := (moves_count s (e.counter p)).trans (moves_setPort _ p ((s.port p).takeError (s.count (e.counter p)).bridgeTime e)
    (by simp [PortState.takeError]) (fun _ => takeError_window _ _ e))
  rw [count_bridgeTime] at h
  exact moves_ite (h.trans (moves_raise _ _)) h

theorem moves_reloadSilence (s : State) : Moves s s.reloadSilence := moves_of_watched rfl id

theorem moves_endSilence (s : State) : Moves s s.endSilence := by
  refine moves_ite ?_ (.refl s)
  have present : Moves s { s with silence := { s.silence with silent := false, second := none, suppress := false } } :=
    moves_of_watched rfl id
  refine (present.trans (moves_raise _ .back)).trans (moves_ite ?_ (.refl _))
  refine Moves.trans ?_ (moves_settle _)
  exact moves_of_watched rfl id

/-- A frame put at the tail of a FIFO that has room (R23, R27). -/
theorem moves_pushDown (s : State) (f : Frame) (h : s.passDown.length < Config.fifoSlots) :
    Moves s { s with passDown := s.passDown ++ [f] } :=
  ⟨rfl, rfl, rfl, rfl, fun p => by cases p <;> rfl,
    fun k => { k with passDown := by simp [Config.fifoSlots] at h ⊢; omega }⟩

theorem moves_countUnknown (s : State) (b : Bool) (c : Counter) : Moves s (if b then s else s.count c) :=
  moves_ite (.refl s) (moves_count s c)

theorem moves_passDownFrame (s : State) (f : Frame) : Moves s (s.passDownFrame f) := by
  refine (moves_countUnknown s (knownDown f.kind) .unknownPassed).trans ?_
  unfold State.passDownFrame
  dsimp only
  generalize (if knownDown f.kind = true then s else s.count .unknownPassed) = t
  split
  · next h => exact moves_pushDown t f h
  · exact moves_defer t f _

theorem moves_passUpFrame (s : State) (f : Frame) : Moves s (s.passUpFrame f) := by
  refine (moves_countUnknown s (knownUp f.kind) .unknownPassed).trans ?_
  unfold State.passUpFrame
  dsimp only
  generalize (if knownUp f.kind = true then s else s.count .unknownPassed) = t
  split
  · next h =>
    refine ⟨rfl, rfl, rfl, rfl, fun p => by cases p <;> rfl, fun k => { k with passUp := ?_ }⟩
    simp [Config.fifoSlots] at h ⊢; omega
  · exact moves_count t _

theorem moves_placeAlert (s : State) (f : Frame) : Moves s (s.placeAlert f) := by
  unfold State.placeAlert
  split
  · next h => exact moves_pushDown s f h
  · exact moves_ite (moves_of_watched rfl id) (moves_defer s f _)

theorem moves_alertArrival (s : State) (f : Frame) : Moves s (s.alertArrival f) :=
  ((moves_placeAlert s f).trans
    (moves_foldl _ (fun s a => (moves_overrideStation s a).trans (moves_settleFrom s _)) _ _)).trans
    (moves_ite (.refl _) ((moves_addCause _ _).trans (moves_raise _ _)))

theorem moves_holdArrival (s : State) (f : Frame) : Moves s (s.holdArrival f) :=
  moves_ite (moves_holdEntry _ s f) ((moves_holdEntry _ s f).trans (moves_settleFrom s _))

theorem moves_classifyUp (s : State) (f : Frame) (o : Option Nat) : Moves s (s.classifyUp f o) := by
  cases o with
  | some i => exact (moves_absorb s i f).trans (moves_settleFrom s _)
  | none => exact moves_passUpFrame s f

theorem moves_fArrival (s : State) (f : Frame) : Moves s (s.fArrival f) :=
  moves_ite (moves_receiveError s _ _) (moves_ite ((moves_classifyUp s f _).trans (moves_helloTap _ _ _))
    ((moves_upTaps s f).trans (moves_classifyUp _ f _)))

/-! ## The F-port arbiter -/

theorem guardAfterOther_le (s : State) : s.guardAfterOther ≤ 4 := by
  unfold State.guardAfterOther; split
  · omega
  · exact Nat.min_le_left _ _

/-- What a choice of the F-port arbiter writes of its own: the wire, the guard within its range (R30), and the last drain. -/
theorem moves_sent (s : State) (w : Option FWire) (g l : Nat) (h : s.drainGuard ≤ 4 → g ≤ 4) :
    Moves s { s with wireF := w, drainGuard := g, lastDrain := l } :=
  ⟨rfl, rfl, rfl, rfl, fun p => by cases p <;> rfl, fun k => { k with drainGuard := h k.drainGuard }⟩

theorem moves_sendHead (s : State) (x : FSource) (g : Nat) (h : s.drainGuard ≤ 4 → g ≤ 4) : Moves s (s.sendHead x g) := by
  unfold State.sendHead
  split
  · exact .refl s
  · next f rest hp =>
    have shorter (k : Capacities s) : rest.length ≤ 8 := by
      have := k.passDown
      rw [hp, List.length_cons] at this
      omega
    have taken : Moves s { s with passDown := rest } :=
      ⟨rfl, rfl, rfl, rfl, fun p => by cases p <;> rfl, fun k => { k with passDown := shorter k }⟩
    exact taken.trans (moves_sent _ _ g s.lastDrain h)

theorem moves_sendReserve (s : State) : Moves s s.sendReserve := by
  unfold State.sendReserve; split
  · exact .refl s
  · exact moves_of_watched rfl id

theorem moves_sendDrain (s : State) (a : Nat) : Moves s (s.sendDrain a) := by
  unfold State.sendDrain
  split
  · exact .refl s
  · next f rest _ =>
    have h := ((moves_setQueue s a rest).trans (moves_rearm _)).trans
      (moves_sent _ (some { frame := f, source := .drain }) 0 a fun _ => by omega)
    exact moves_ite (h.trans ((moves_checkDrain _ a).trans (moves_settleFrom _ _))) h

theorem moves_sendInjection (s : State) (i : Nat) (r : InjectionRecord) (q : Byte) : Moves s (s.sendInjection i r q) :=
  ((moves_setSlot s i _).trans (moves_setEntry _ _ _)).trans
    (moves_sent _ _ s.guardAfterOther _ fun _ => guardAfterOther_le s)

theorem moves_finishEmpty (s : State) (i : Nat) (r : InjectionRecord) : Moves s (s.finishEmpty i r) :=
  ((moves_setSlot s i _).trans (moves_core (finishFrames_core _ _) (by simp))).trans (moves_settle _)

theorem moves_fChoose (fuel : Nat) (s : State) : Moves s (s.fChoose fuel) := by
  induction fuel generalizing s with
  | zero => exact .refl s
  | succ k ih =>
    unfold State.fChoose
    split
    · exact .refl s
    · exact moves_sendHead s _ _ id
    · exact moves_sendReserve s
    · exact moves_sendHead s _ _ fun _ => guardAfterOther_le s
    · exact moves_sendDrain s _
    · split
      · exact .refl s
      · split
        · exact .refl s
        · exact moves_ite ((moves_finishEmpty s _ _).trans (ih _)) (moves_sendInjection s _ _ _)

theorem moves_fArbiter (s : State) : Moves s s.fArbiter := moves_ite (moves_fChoose 128 s) (.refl s)

end Sys2Proof.Machine
end

section
/-! SUPPORT. What an event comes to before it is closed: the requests, the resets, the lines and the timers, for the notices and the
capacities. -/

namespace Sys2Proof.Machine

/-! ## The requests (R176) -/

theorem cursor_advance_inRange (c : Cursor) (h : c.InRange) : c.advance.1.InRange := by
  obtain ⟨low, high⟩ := h
  unfold Cursor.advance Cursor.InRange
  split
  · exact ⟨le_refl _, low.trans high⟩
  · dsimp only at *; omega

theorem moves_cursor (s : State) (c : Cursor) (h : s.cursor.InRange → c.InRange) : Moves s { s with cursor := c } :=
  ⟨rfl, rfl, rfl, rfl, fun p => by cases p <;> rfl, fun k => { k with cursor := h k.cursor }⟩

/-- The cursor after a transfer, and the mark of its wrap (R179). -/
def State.movedCursor (s : State) (b : Bool) (args : List Byte) : Cursor × Bool :=
  if b && s.transferMoves args then s.cursor.advance else (s.cursor, false)

/-- A transfer moves the cursor alone; its data names the table and the index transferred (R180, R181). -/
theorem transferDone_eq (s : State) (b : Bool) (args data : List Byte) : s.transferDone b args data =
    { state := { s with cursor := (s.movedCursor b args).1 }, status := .done, wrapped := (s.movedCursor b args).2
      detail := fun _ => s.cursor.table.code :: byte s.cursor.index :: data, isReset := false } := rfl

theorem moves_transferDone (s : State) (b : Bool) (args data : List Byte) : Moves s (s.transferDone b args data).state := by
  rw [transferDone_eq]
  refine moves_cursor s _ fun h => ?_
  unfold State.movedCursor
  split
  · exact cursor_advance_inRange _ h
  · exact h

theorem moves_reqSelect (s : State) (args : List Byte) : Moves s (s.reqSelect args).state := by
  unfold State.reqSelect
  split
  · split
    · split
      · next h =>
        simp only [Bool.and_eq_true, decide_eq_true_eq] at h
        exact moves_cursor s _ fun _ => h
      · exact .refl s
    · exact .refl s
  · exact .refl s

theorem moves_reqGet (s : State) (args : List Byte) : Moves s (s.reqGet args).state := by
  unfold State.reqGet
  split
  · exact moves_transferDone s _ _ _
  · exact .refl s

theorem moves_putStations (s : State) (args : List Byte) : Moves s (s.putStations args).state := by
  unfold State.putStations
  split
  · exact .refl s
  · next c _ =>
    dsimp only
    split
    · exact .refl s
    · split
      · exact .refl s
      · refine Moves.trans ?_ (moves_transferDone _ _ _ _)
        exact moves_updateHistory s s.cursor.index
          (fun r => { r with config := c.clamp, state := roleWritten c.role r.state }) fun _ h => h

theorem moves_putPlan (s : State) (args : List Byte) : Moves s (s.putPlan args).state := by
  unfold State.putPlan
  split
  · exact .refl s
  · next r _ =>
    have written : Moves s { s with plan := putAt s.plan s.cursor.index r.clamp } := moves_of_watched rfl id
    dsimp only
    repeat' split
    all_goals first
      | exact .refl s
      | exact (written.trans (moves_setEntry _ _ _)).trans (moves_transferDone _ _ _ _)

theorem moves_putPayload (s : State) (args : List Byte) : Moves s (s.putPayload args).state := by
  unfold State.putPayload
  split
  · exact .refl s
  · next p _ =>
    have written : Moves s { s with payloads := putAt s.payloads s.cursor.index p } := moves_of_watched rfl id
    repeat' split
    all_goals first
      | exact .refl s
      | exact written.trans (moves_transferDone _ _ _ _)

theorem moves_putSettings (s : State) (args : List Byte) : Moves s (s.putSettings args).state := by
  unfold State.putSettings
  split
  · exact .refl s
  · next t _ =>
    have written : Moves s { s with settings := t.clamp } := moves_of_watched rfl id
    split
    · exact .refl s
    · exact written.trans (moves_transferDone _ _ _ _)

theorem moves_reqPut (s : State) (args : List Byte) : Moves s (s.reqPut args).state := by
  unfold State.reqPut
  split
  · exact moves_putStations s args
  · exact moves_putPlan s args
  · exact moves_putPayload s args
  · exact moves_putSettings s args
  all_goals exact .refl s

theorem moves_reqPointPut (s : State) (args : List Byte) : Moves s (s.reqPointPut args).state := by
  have written : ∀ r : PointRecord, Moves s (s.writePoint r) := fun _ => moves_of_watched rfl id
  unfold State.reqPointPut
  repeat' split
  all_goals first
    | exact .refl s
    | (dsimp only; repeat' split
       all_goals first | exact .refl s | exact written _)

theorem moves_reqPointDrop (s : State) (args : List Byte) : Moves s (s.reqPointDrop args).state := by
  have dropped : ∀ a c, Moves s (s.dropPoint a c) := fun _ _ => moves_of_watched rfl id
  unfold State.reqPointDrop
  repeat' split
  all_goals first
    | exact .refl s
    | exact (dropped _ _).trans (moves_settleFrom s _)

theorem moves_reqHold (s : State) (args : List Byte) : Moves s (s.reqHold args).state := by
  unfold State.reqHold
  repeat' split
  all_goals first
    | exact .refl s
    | exact (moves_enterHeld s _ _).trans (moves_settleFrom s _)

theorem moves_reqRelease (s : State) (args : List Byte) : Moves s (s.reqRelease args).state := by
  unfold State.reqRelease
  repeat' split
  all_goals first
    | exact .refl s
    | exact ((moves_leaveRun s _ _).trans (moves_enterDraining _ _)).trans (moves_settleFrom s _)

theorem clear_history_le (r : StationRecord) (h : r.history.length ≤ 4) : r.clear.history.length ≤ 4 := by
  unfold StationRecord.clear
  dsimp only
  split
  · exact Nat.zero_le 4
  · exact h

theorem moves_reqClear (s : State) (args : List Byte) : Moves s (s.reqClear args).state := by
  unfold State.reqClear
  repeat' split
  all_goals first
    | exact .refl s
    | exact moves_updateHistory s _ _ clear_history_le

theorem moves_holdList (s : State) (l : List Nat) : Moves s (s.holdList l) :=
  moves_foldl _ (fun s a => moves_ite (moves_enterHeld s a _) (.refl s)) l s

theorem moves_reqStart (s : State) (args : List Byte) : Moves s (s.reqStart args).state := by
  unfold State.reqStart
  repeat' split
  all_goals first
    | exact .refl s
    | exact (moves_holdList s _).trans (moves_beginRun _)

theorem moves_reqSuspend (s : State) (args : List Byte) : Moves s (s.reqSuspend args).state := by
  unfold State.reqSuspend
  split
  · exact moves_addCause s fun c => { c with management := true }
  · exact .refl s

theorem moves_reqResume (s : State) (args : List Byte) : Moves s (s.reqResume args).state := by
  have resumed : ∀ r : RunRecord, Moves s { s with run := r } := fun _ => moves_of_watched rfl id
  unfold State.reqResume
  repeat' split
  all_goals first
    | exact .refl s
    | exact (resumed _).trans (moves_settle _)

theorem moves_reqAbort (s : State) (args : List Byte) : Moves s (s.reqAbort args).state := by
  unfold State.reqAbort
  split
  · exact moves_ite (moves_abortRun s) (.refl s)
  · exact .refl s

theorem moves_reqSetFeed (s : State) (args : List Byte) : Moves s (s.reqSetFeed args).state := by
  unfold State.reqSetFeed
  repeat' split
  all_goals first
    | exact .refl s
    | exact (moves_setFeedRecord s _ _).trans (moves_settle _)

theorem moves_reqReadLine (s : State) (args : List Byte) : Moves s (s.reqReadLine args).state := by
  unfold State.reqReadLine
  split
  · exact (moves_setPort s .s { s.portS with causes := .clear } rfl id).trans
      (moves_setPort _ .f { s.portF with causes := .clear } rfl id)
  · exact .refl s

theorem moves_reqReadClear (s : State) (args : List Byte) : Moves s (s.reqReadClear args).state := by
  unfold State.reqReadClear
  repeat' split
  all_goals first
    | exact .refl s
    | exact moves_core rfl rfl

theorem moves_reqReadCounters (s : State) (args : List Byte) : Moves s (s.reqReadCounters args).state := by
  have zero : ∀ c : Counter, getAt (Vector.replicate 16 0) c.index 0 ≤ 255 := by intro c; cases c <;> decide
  unfold State.reqReadCounters
  split
  · exact ⟨rfl, rfl, rfl, rfl, fun p => by cases p <;> rfl, fun h => { h with counters := zero }⟩
  · exact .refl s

theorem moves_reqStore (s : State) (args : List Byte) : Moves s (s.reqStore args).state := by
  have copied : Moves s { s with storing := some s.image } := moves_of_watched rfl id
  unfold State.reqStore
  repeat' split
  all_goals first
    | exact .refl s
    | exact copied

theorem moves_reqReset (s : State) (k : ResetKind) (args : List Byte) : Moves s (s.reqReset k args).state := by
  have due : Moves s { s with resetPending := some k } := moves_of_watched rfl id
  unfold State.reqReset
  repeat' split
  all_goals first
    | exact .refl s
    | exact due

/-- The requests that only read. -/
theorem moves_reads (s : State) (args : List Byte) :
    Moves s (s.reqPointGet args).state ∧ Moves s (s.reqPointList args).state ∧ Moves s (s.reqRunStatus args).state := by
  unfold State.reqPointGet State.reqPointList State.reqRunStatus
  refine ⟨?_, ?_, ?_⟩ <;> repeat' split
  all_goals exact .refl s

theorem moves_execute (s : State) (code : Byte) (args : List Byte) : Moves s (s.execute code args).state := by
  obtain ⟨pointGet, pointList, runStatus⟩ := moves_reads s args
  unfold State.execute
  split
  exacts [moves_reqSelect s args, moves_reqGet s args, moves_reqPut s args, pointGet, pointList, moves_reqPointPut s args,
    moves_reqPointDrop s args, moves_reqHold s args, moves_reqRelease s args, moves_reqClear s args, moves_reqStart s args,
    moves_reqSuspend s args, moves_reqResume s args, moves_reqAbort s args, runStatus, moves_reqSetFeed s args,
    moves_reqReadLine s args, moves_reqReadClear s args, moves_reqReadCounters s args, moves_reqStore s args,
    moves_reqReset s .warm args, moves_reqReset s .cold args, .refl s]

theorem moves_respond (s : State) (payload : List Byte) : Moves s (s.respond payload).state := by
  unfold State.respond
  split
  · exact .refl s
  · split
    · exact .refl s
    · split
      · exact .refl s
      · exact moves_execute s _ _

/-! ## Events that place a NOTICE or take a reset -/

/-- From `s` to `t` the S-port's wire is left as it is, no NOTICE is placed while the spacing timer runs on, and the capacities are
kept. -/
structure Placed (s t : State) : Prop where
  wireS      : t.wireS = s.wireS
  notice     : t.spacing = none ∨ (t.spacing = s.spacing ∧
    (s.spacing.isSome = true → t.noticeSlot = s.noticeSlot ∧ t.noticeNumber = s.noticeNumber))
  capacities : Capacities s → Capacities t

/-- Besides, no assembly begins a frame. -/
structure Arrived (s t : State) : Prop extends Placed s t where
  assembly : ∀ p, (t.port p).assembly = .idle ∨ (t.port p).assembly = (s.port p).assembly

theorem Placed.trans {s t u : State} (h : Placed s t) (k : Placed t u) : Placed s u where
  wireS := k.wireS.trans h.wireS
  notice := by
    rcases k.notice with hu | ⟨hu, hu'⟩
    · exact .inl hu
    · rcases h.notice with ht | ⟨ht, ht'⟩
      · exact .inl (hu.trans ht)
      · refine .inr ⟨hu.trans ht, fun hs => ?_⟩
        obtain ⟨slot, number⟩ := hu' (by rw [ht]; exact hs)
        exact ⟨slot.trans (ht' hs).1, number.trans (ht' hs).2⟩
  capacities hs := k.capacities (h.capacities hs)

theorem Arrived.trans {s t u : State} (h : Arrived s t) (k : Arrived t u) : Arrived s u where
  toPlaced := h.toPlaced.trans k.toPlaced
  assembly p := (k.assembly p).elim .inl fun e => e ▸ h.assembly p

theorem Moves.arrived {s t : State} (h : Moves s t) : Arrived s t :=
  ⟨⟨h.wireS, .inr ⟨h.spacing, fun _ => ⟨h.noticeSlot, h.noticeNumber⟩⟩, h.capacities⟩, fun p => .inr (h.assembly p)⟩

theorem Moves.placed {s t : State} (h : Moves s t) : Placed s t := h.arrived.toPlaced

theorem capacities_placeNotice {s : State} (n : Option Frame) (k : Byte) (h : Capacities s) :
    Capacities { s with noticeSlot := n, noticeNumber := k } := { h with }

/-- A NOTICE put in the slot with the spacing timer stopped (R191). -/
theorem arrived_notice (s : State) (n : Option Frame) (k : Byte) (h : s.spacing = none) :
    Arrived s { s with noticeSlot := n, noticeNumber := k } :=
  ⟨⟨rfl, .inl h, capacities_placeNotice n k⟩, fun p => .inr (by cases p <;> rfl)⟩

theorem arrived_testNotice (s : State) (b : Bool) : Arrived s (s.testNotice b) := by
  unfold State.testNotice
  split
  · next h =>
    simp only [Bool.and_eq_true, Option.isNone_iff_eq_none] at h
    exact arrived_notice s _ _ h.2
  · exact (Moves.refl s).arrived

/-! ## Resets -/

theorem warm_history (v : Vector StationRecord 126) (a : Nat) :
    getAt (mapTable v StationRecord.warm) a .default = (getAt v a .default).warm :=
  getAt_mapTable v StationRecord.warm a .default

theorem warmReset_station (s : State) (a : Nat) : s.warmReset.station a = (s.station a).warm := by
  cases a with
  | zero => rfl
  | succ k => exact warm_history s.stations k

theorem cursor_reset_inRange : Cursor.reset.InRange := ⟨by decide, by decide⟩

theorem capacities_reset : Capacities State.reset where
  passDown := by decide
  passUp := by decide
  replies := by decide
  drainGuard := by decide
  replyGuard := by decide
  windowS := by decide
  windowF := by decide
  duration := by decide
  counters c := by cases c <;> decide
  contributions := by decide
  histories a := by
    have h : (State.reset.station a) = .default := by
      cases a with
      | zero => rfl
      | succ k => simp [State.station, State.reset, getAt]
    rw [h]; decide
  cursor := cursor_reset_inRange

theorem arrived_warmReset (s : State) : Arrived s s.warmReset where
  wireS := rfl
  notice := .inl rfl
  capacities h :=
    { h with
      contributions := Nat.zero_le 96
      histories := fun a => by rw [warmReset_station]; exact h.histories a
      cursor := cursor_reset_inRange }
  assembly p := .inr (by cases p <;> rfl)

theorem capacities_coldReset (s : State) : Capacities s.coldReset := { capacities_reset with }

theorem capacities_powerOn (s : State) (x : Straps) : Capacities (s.powerOn x) := { capacities_reset with }

theorem arrived_coldReset (s : State) : Arrived s s.coldReset :=
  ⟨⟨rfl, .inl rfl, fun _ => capacities_coldReset s⟩, fun p => .inl (by cases p <;> rfl)⟩

theorem arrived_takeReset (s : State) : Arrived s s.takeReset := by
  unfold State.takeReset
  split
  · exact arrived_warmReset s
  · exact arrived_coldReset s
  · exact (Moves.refl s).arrived

/-! ## The REQUEST and the arrivals -/

theorem arrived_ite {s t u : State} {c : Prop} [Decidable c] (h : Arrived s t) (k : Arrived s u) :
    Arrived s (if c then t else u) := by
  split
  · exact h
  · exact k

theorem arrived_finish (r : Response) (b : Bool) (seq code : Byte) : Arrived r.state (r.finish b seq code) := by
  have placed := (moves_fArbiter r.state).trans (moves_placeReply _
    { frame := answerFrame seq code r.status r.wrapped (r.detail r.state.fArbiter), isReset := r.isReset })
  exact arrived_ite (placed.arrived.trans ((arrived_testNotice _ b).trans (arrived_takeReset _))) placed.arrived

theorem arrived_request (s : State) (b : Bool) (seq : Byte) (payload : List Byte) :
    Arrived s (s.request b seq payload) := by
  have executed : Arrived s (s.respond payload).state := (moves_respond s payload).arrived
  have noticed : Arrived s ((s.respond payload).afterNotice s b).state := by
    unfold Response.afterNotice
    split
    · next h =>
      simp only [Bool.and_eq_true, Option.isNone_iff_eq_none] at h
      exact executed.trans (arrived_notice _ _ _ ((moves_respond s payload).spacing.trans h.2))
    · exact executed
  have finished := noticed.trans (arrived_finish _ b seq (payload.headD 0))
  exact arrived_ite (finished.trans (arrived_testNotice _ true)) finished

theorem arrived_classifyDown (s : State) (b : Bool) (f : Frame) : Arrived s (s.classifyDown b f) :=
  arrived_ite (arrived_ite (arrived_request s b f.seq f.payload) (moves_receiveError s _ _).arrived)
    (arrived_ite (moves_alertArrival s f).arrived (arrived_ite (moves_passDownFrame s f).arrived
      (arrived_ite (moves_holdArrival s f).arrived (moves_passDownFrame s f).arrived)))

theorem arrived_sArrival (s : State) (f : Frame) : Arrived s (s.sArrival f) :=
  ((moves_reloadSilence s).trans (moves_endSilence _)).arrived.trans (arrived_classifyDown _ _ f)

/-- A port's receiver state replaced, its error window within its seven times (R13). -/
theorem placed_setPort (s : State) (p : Port) (x : PortState) (hw : (s.port p).window.length ≤ 7 → x.window.length ≤ 7) :
    Placed s (s.setPort p x) := by
  cases p with
  | s => exact ⟨rfl, .inr ⟨rfl, fun _ => ⟨rfl, rfl⟩⟩, fun h => { h with windowS := hw h.windowS }⟩
  | f => exact ⟨rfl, .inr ⟨rfl, fun _ => ⟨rfl, rfl⟩⟩, fun h => { h with windowF := hw h.windowF }⟩

theorem placed_arrive (s : State) (p : Port) (f : Frame) : Placed s (s.arrive p f) := by
  have ended : Placed s (s.endFrame p) := placed_setPort s p _ id
  cases p with
  | s => exact ended.trans (arrived_sArrival _ f).toPlaced
  | f => exact ended.trans (moves_fArrival _ f).placed

/-! ## The lines -/

theorem placed_setAssembly (s : State) (p : Port) (x : Assembly) : Placed s (s.setAssembly p x) := placed_setPort s p _ id

theorem placed_erred (s : State) (p : Port) (x : Assembly) (e : ReceiveError) :
    Placed s ((s.setAssembly p x).receiveError p e) :=
  (placed_setAssembly s p x).trans (moves_receiveError _ p e).placed

theorem placed_takeData (s : State) (p : Port) (a : Nat) (d : List Byte) : Placed s (s.takeData p a d) := by
  unfold State.takeData
  dsimp only
  repeat' split
  exacts [placed_erred s p _ _, placed_arrive s p _, placed_erred s p _ _, placed_setAssembly s p _]

theorem placed_takeMarker (s : State) (p : Port) (v : Byte) : Placed s (s.takeMarker p v) := by
  unfold State.takeMarker
  dsimp only
  repeat' split
  all_goals first | exact placed_setAssembly s p _ | exact placed_erred s p _ _

theorem placed_takeCharacter (s : State) (p : Port) (v : Byte) (marker stop : Bool) :
    Placed s (s.takeCharacter p v marker stop) := by
  unfold State.takeCharacter
  repeat' split
  exacts [(Moves.refl s).placed, placed_erred s p _ _, placed_takeMarker s p v, (moves_receiveError s p _).placed,
    placed_takeData s p _ _, (Moves.refl s).placed]

theorem placed_gapTimeout (s : State) (p : Port) : Placed s (s.gapTimeout p) := by
  unfold State.gapTimeout
  split
  · exact placed_erred s p _ _
  all_goals exact (Moves.refl s).placed

theorem placed_takeBreak (s : State) (p : Port) : Placed s (s.takeBreak p) := by
  unfold State.takeBreak
  dsimp only
  repeat' split
  all_goals first
    | exact (Moves.refl s).placed
    | exact placed_setPort s p _ id
    | (refine Placed.trans ?_ (moves_raise _ _).placed
       exact placed_setPort s p _ id)

theorem placed_endBreak (s : State) (p : Port) : Placed s (s.endBreak p) := by
  unfold State.endBreak
  dsimp only
  split
  · exact placed_setPort s p _ id
  · exact (Moves.refl s).placed

theorem placed_quietExpires (s : State) (p : Port) : Placed s (s.quietExpires p) := by
  unfold State.quietExpires
  dsimp only
  repeat' split
  all_goals first
    | exact (Moves.refl s).placed
    | exact placed_setPort s p _ id
    | (refine Placed.trans ?_ (moves_raise _ _).placed
       exact placed_setPort s p _ id)

/-! ## The transmitters, the timers and the memory -/

theorem moves_fLeaves (s : State) : Moves s s.fLeaves := by
  have freed : Moves s { s with wireF := none } := moves_of_watched rfl id
  unfold State.fLeaves
  split
  · exact .refl s
  · dsimp only
    split
    · exact freed.trans (moves_injectionLeft _ _)
    · exact freed
    all_goals exact moves_ite (freed.trans (moves_snoop _ _)) freed

theorem moves_replyExpires (s : State) (i : Nat) : Moves s (s.replyExpires i) := by
  unfold State.replyExpires
  split
  · exact moves_ite ((moves_timeOut s i _).trans (moves_settleFrom s _)) (.refl s)
  · exact .refl s

theorem moves_closingExpires (s : State) (i : Nat) : Moves s (s.closingExpires i) := by
  unfold State.closingExpires
  split
  · exact moves_ite ((moves_closeRecord s i).trans (moves_settle _)) (.refl s)
  · exact .refl s

theorem moves_repollExpires (s : State) (i : Nat) : Moves s (s.repollExpires i) := by
  unfold State.repollExpires
  split
  · exact moves_ite ((moves_setSlot s i _).trans (moves_makePoll _ i)) (.refl s)
  · exact .refl s

theorem moves_settleExpires (s : State) (n : Nat) : Moves s (s.settleExpires n) :=
  moves_ite ((moves_setEntry s n _).trans (moves_settleFrom s _)) (.refl s)

theorem moves_sliceExpires (s : State) : Moves s s.sliceExpires := by
  have advanced : Moves s (State.advanceContributions
      { s with sliceDeadline := s.sliceDeadline + BitVec.ofNat 32 Config.sliceUnits }) :=
    moves_of_watched rfl fun h => by simpa [State.advanceContributions] using h
  exact ((((advanced.trans (moves_foldContributions _)).trans (moves_testStale _ .a)).trans (moves_testStale _ .b)).trans
    (moves_countWaits _)).trans (moves_settle _)

theorem moves_silenceExpires (s : State) : Moves s s.silenceExpires := by
  unfold State.silenceExpires
  refine moves_ite ?_ (.refl s)
  have fallen : Moves s { s with silence := { s.silence with
      timer := none, silent := true, duration := 0, second := some (s.later Config.secondUnits) } } :=
    ⟨rfl, rfl, rfl, rfl, fun p => by cases p <;> rfl, fun h => { h with duration := Nat.zero_le 65535 }⟩
  refine (fallen.trans (moves_raise _ .silent)).trans ?_
  dsimp only
  split
  · refine Moves.trans ?_ (moves_addCause _ _)
    exact moves_of_watched rfl id
  · exact .refl _

theorem moves_secondExpires (s : State) : Moves s s.secondExpires :=
  moves_ite ⟨rfl, rfl, rfl, rfl, fun p => by cases p <;> rfl, fun h => { h with duration := Nat.min_le_left _ _ }⟩ (.refl s)

theorem placed_spacingExpires (s : State) : Placed s s.spacingExpires := by
  unfold State.spacingExpires
  split
  · have stopped : Placed s { s with spacing := none } := ⟨rfl, .inl rfl, fun h => { h with }⟩
    dsimp only
    split
    · exact stopped
    · exact stopped.trans (arrived_notice _ _ _ rfl).toPlaced
  · exact (Moves.refl s).placed

theorem moves_storeEnds (s : State) (b : Bool) : Moves s (s.storeEnds b) := by
  unfold State.storeEnds
  split
  · exact .refl s
  · exact moves_ite (moves_of_watched rfl id) (moves_of_watched rfl id)

theorem getD_cases {α : Type} (l : List α) (i : Nat) (d : α) : l.getD i d ∈ l ∨ l.getD i d = d := by
  by_cases h : i < l.length
  · exact .inl (by rw [List.getD_eq_getElem l d h]; exact List.getElem_mem h)
  · exact .inr (List.getD_eq_default l d (by omega))

theorem getAt_tableOf {α : Type} (n : Nat) (l : List α) (i : Nat) (d : α) (h : i < n) :
    getAt (tableOf n l d) i d = l.getD i d := by
  simp [getAt, tableOf, h]

theorem takeImage_history (s : State) (m : LoadedImage) (a : Nat) : ((s.takeImage m).station a).history = [] := by
  cases a with
  | zero => rfl
  | succ k =>
    show (getAt (tableOf 126 (m.stations.map loadStation) .default) k .default).history = []
    by_cases h : k < 126
    · rw [getAt_tableOf _ _ _ _ h]
      rcases getD_cases (m.stations.map loadStation) k .default with hm | hm
      · obtain ⟨c, _, hc⟩ := List.mem_map.mp hm
        rw [← hc]; rfl
      · rw [hm]; rfl
    · simp [getAt, h]; rfl

theorem moves_takeImage (s : State) (m : LoadedImage) : Moves s (s.takeImage m) :=
  ⟨rfl, rfl, rfl, rfl, fun p => by cases p <;> rfl,
    fun h => { h with histories := fun a => by rw [takeImage_history]; exact Nat.zero_le 4 }⟩

theorem moves_loadEnd (s : State) (b : Bool) : Moves s (s.loadEnd b) := by
  unfold State.loadEnd
  refine moves_ite ?_ (.refl s)
  dsimp only
  split
  · exact (moves_takeImage s _).trans (moves_of_watched rfl id)
  · exact (moves_takeImage s _).trans (moves_of_watched rfl id)

end Sys2Proof.Machine
end

section
/-! SUPPORT. What a command can do, by its closing: the capacities of every step, the assembly after an arrival and the placement of a
NOTICE rest on one inversion of `exec`. -/

namespace Sys2Proof.Machine

/-! ## The closing of an event -/

theorem capacities_sArbiter (s : State) (h : Capacities s) : Capacities s.sArbiter := by
  have guard : s.guardAfterPassUp ≤ 4 := by
    unfold State.guardAfterPassUp; split
    · omega
    · exact Nat.min_le_left _ _
  have reply : Capacities s.sendReply := by
    unfold State.sendReply
    split
    · exact h
    · next r rest hr =>
      have := h.replies
      rw [hr, List.length_cons] at this
      exact { h with replies := Nat.le_of_succ_le this, replyGuard := Nat.zero_le 4 }
  have passUp : Capacities s.sendPassUp := by
    unfold State.sendPassUp
    split
    · exact h
    · next f rest hf =>
      have := h.passUp
      rw [hf, List.length_cons] at this
      exact { h with passUp := Nat.le_of_succ_le this, replyGuard := guard }
  have notice : Capacities s.sendNotice := by
    unfold State.sendNotice
    split
    · exact h
    · exact { h with replyGuard := Nat.zero_le 4 }
  unfold State.sArbiter State.sChoose
  repeat' split
  exacts [reply, passUp, reply, notice, h]

theorem capacities_close (s t : State) (h : Capacities t) : Capacities (s.close t) :=
  capacities_sArbiter _ ((arrived_testNotice _ _).capacities ((moves_fArbiter t).capacities h))

theorem capacities_sLeaves (s : State) (h : Capacities s) : Capacities s.sLeaves := by
  have freed : Capacities { s with wireS := none } := { h with }
  unfold State.sLeaves
  split
  · exact h
  · dsimp only
    split
    · exact freed
    · split
      · exact (arrived_takeReset _).capacities freed
      · exact freed
    · exact { h with }

/-! ## What a command does -/

/-- A command is a power-on reset, the tick of bridge time, the leaving of an S-port frame, or an event that is closed, which takes
nothing from the S-port's wire and places no NOTICE of its own while the spacing timer runs on. -/
theorem exec_cases (c : Instr) (s : State) :
    (∃ x, c = .powerOnReset x ∧ exec c s = .next (s.powerOn x)) ∨ (c = .bridgeTimeIncrement ∧ exec c s = .next s.tick)
      ∨ (c = .sTransmitComplete ∧ exec c s = .next (s.close s.sLeaves))
      ∨ ∃ t, exec c s = .next (s.close t) ∧ Placed s t := by
  have closed : ∀ t, Placed s t → exec c s = .next (s.close t) → ∃ t, exec c s = .next (s.close t) ∧ Placed s t :=
    fun t h e => ⟨t, e, h⟩
  cases c
  case powerOnReset x => exact .inl ⟨x, rfl, rfl⟩
  case bridgeTimeIncrement => exact .inr (.inl ⟨rfl, rfl⟩)
  case sTransmitComplete => exact .inr (.inr (.inl ⟨rfl, rfl⟩))
  all_goals refine .inr (.inr (.inr ?_))
  case configurationLoadEnd b => exact closed _ (moves_loadEnd s b).placed rfl
  case receiveCharacter p v m stop => exact closed _ (placed_takeCharacter s p v m stop) rfl
  case gapTimeout p => exact closed _ (placed_gapTimeout s p) rfl
  case breakTaken p => exact closed _ (placed_takeBreak s p) rfl
  case breakEnd p => exact closed _ (placed_endBreak s p) rfl
  case quietTimerExpiry p => exact closed _ (placed_quietExpires s p) rfl
  case fFrameArrival f => exact closed _ (placed_arrive s .f f) rfl
  case fTransmitComplete => exact closed _ (moves_fLeaves s).placed rfl
  case replyTimeout i => exact closed _ (moves_replyExpires s i).placed rfl
  case closingDeadlineExpiry i => exact closed _ (moves_closingExpires s i).placed rfl
  case repollWaitExpiry i => exact closed _ (moves_repollExpires s i).placed rfl
  case settleExpiry n => exact closed _ (moves_settleExpires s n).placed rfl
  case sliceExpiry => exact closed _ (moves_sliceExpires s).placed rfl
  case silenceTimerExpiry => exact closed _ (moves_silenceExpires s).placed rfl
  case secondTimerExpiry => exact closed _ (moves_secondExpires s).placed rfl
  case spacingTimerExpiry => exact closed _ (placed_spacingExpires s) rfl
  case storeComplete b => exact closed _ (moves_storeEnds s b).placed rfl
  all_goals exact closed _ (placed_arrive s .s _) rfl

theorem exec_keeps_capacities (c : Instr) (s t : State) (h : Capacities s) (e : exec c s = .next t) : Capacities t := by
  rcases exec_cases c s with ⟨x, -, e'⟩ | ⟨-, e'⟩ | ⟨-, e'⟩ | ⟨u, e', placed⟩
  all_goals
    rw [e'] at e
    injection e with e
    subst e
  · exact capacities_powerOn s x
  · exact { h with }
  · exact capacities_close s _ (capacities_sLeaves s h)
  · exact capacities_close s u (placed.capacities h)

/-- Settles O4: the step is a command with the queue's rest, and every command keeps the capacities. -/
theorem stepKeepsCapacities : Obligations.StepKeepsCapacities := by
  unfold Obligations.StepKeepsCapacities
  intro s t h e
  unfold step at e
  split at e
  · injection e with e
    exact e ▸ h
  · next c rest _ =>
    have queued : Capacities { s with pending := rest } := { h with }
    exact exec_keeps_capacities c _ t queued e

/-! ## The placement of a NOTICE (R191) -/

theorem sArbiter_of_busy {s t : State} (h : s.SBusy) (e : t.wireS = s.wireS) : t.sArbiter = t :=
  sArbiter_busy t (show t.wireS.isSome = true by rw [e]; exact h)

theorem testNotice_wireS (s : State) (b : Bool) : (s.testNotice b).wireS = s.wireS := (arrived_testNotice s b).wireS

/-- With the S-port transmitter busy the closing of an event is the F-port's choice and the test for a NOTICE. -/
theorem close_busy {s t : State} (h : s.SBusy) (e : t.wireS = s.wireS) :
    s.close t = t.fArbiter.testNotice s.reportedEmpty :=
  sArbiter_of_busy h ((testNotice_wireS _ _).trans ((moves_fArbiter t).wireS.trans e))

theorem testNotice_spacing (s : State) (b : Bool) : (s.testNotice b).spacing = s.spacing := by
  unfold State.testNotice; split <;> rfl

theorem testNotice_running (s : State) (b : Bool) (h : s.spacing.isSome = true) : s.testNotice b = s := by
  unfold State.testNotice
  rw [if_neg]
  simp [Option.isNone_iff_eq_none, Option.isSome_iff_ne_none.mp h]

/-- The NOTICE that stands in the slot once it is placed: of the reported set, the run state and the run number as they are, under the
number before the notice number. -/
theorem placeNotice_slot (s : State) : s.placeNotice.noticeSlot = some
    { station := 0, kind := 42, seq := s.placeNotice.noticeNumber - 1
      payload := s.placeNotice.reported ++ [s.placeNotice.runState.code, s.placeNotice.run.number] } := by
  have number : s.placeNotice.noticeNumber - 1 = s.noticeNumber := by
    show s.noticeNumber + 1 - 1 = s.noticeNumber
    exact BitVec.add_sub_cancel _ _
  rw [number]
  rfl

theorem reportedEmpty_of_cleared (s : State) (h : ∀ g, g < 8 → s.pendingGroup g = 0) : s.reportedEmpty = true := by
  unfold State.reportedEmpty State.reported
  simp only [List.all_map, List.all_eq_true, List.mem_range, Function.comp, decide_eq_true_eq]
  intro g hg
  unfold State.reportedGroup
  rw [h g hg]
  split
  · exact BitVec.zero_and
  · rfl

end Sys2Proof.Machine
end

section
/-! SUPPORT. The notices: the events that are pending after a count or a closing, the REQUEST that is executed, and the statements about
reset values, the S-port arbiter and the NOTICE. -/

namespace Sys2Proof.Machine

/-! ## The machine right after reset -/

theorem reset_station (a : Nat) : State.reset.station a = .default := by
  cases a with
  | zero => rfl
  | succ k => simp [State.station, State.reset, getAt]

theorem reset_step (n : Nat) : State.reset.step n = .default := by
  simp [State.step, State.reset, getAt]

theorem reset_slot (i : Nat) : State.reset.slot i = none := by
  simp [State.slot, State.reset, getAt]

theorem reset_pendingGroup (g : Nat) : State.reset.pendingGroup g = 0 := by
  simp [State.pendingGroup, State.reset, getAt]

theorem poolKept_of_empty (s : State) (h : s.points = []) : PoolKept s where
  order := by simp [h]
  size := by simp [h]
  pinned := by simp [State.pinnedCount, h]
  ranges := by simp [h]
  values := by simp [h]
  holds := by simp [h]
  fixed := by simp [h]

theorem bandKept_reset : BandKept State.reset where
  counter := by unfold inBand; decide
  retries n := by rw [reset_step]; decide
  records i r h := by rw [reset_slot] at h; cases h

theorem stationsLegal_reset : StationsLegal State.reset where
  listed a := by simp [reset_station, StationRecord.default, StationConfig.default]
  members a h := by rw [reset_station] at h; cases h
  pending a h := by rw [reset_station] at h; cases h

/-- Settles O3: each invariant on the reset values. -/
theorem resetMeetsInvariants : Obligations.ResetMeetsInvariants :=
  ⟨capacities_reset, poolKept_of_empty _ rfl, bandKept_reset, stationsLegal_reset⟩

/-! ## Power-on (R2, R197) -/

theorem lineRate_table (hi lo : Bool) : lineRate hi lo =
    if hi then (if lo then 115200 else 57600) else if lo then 38400 else 19200 := by
  cases hi <;> cases lo <;> rfl

theorem frameCharacters_length (f : Frame) : (frameCharacters f).length = f.payload.length + 6 := by
  simp [frameCharacters, coveredBytes]

/-- Settles O9: the reset values by the meaning of the command, the line rates by the table of R2. -/
theorem powerOnTakesResetValues : Obligations.PowerOnTakesResetValues := by
  unfold Obligations.PowerOnTakesResetValues
  refine ⟨fun x s => rfl, fun x s t e => ?rates, fun s p => ?kept, fun f => ⟨frameCharacters_length f, ?bits⟩⟩
  case rates =>
    injection e with e
    subst e
    exact ⟨lineRate_table _ _, lineRate_table _ _⟩
  case kept => cases p <;> exact ⟨rfl, rfl⟩
  case bits => rw [frameCharacters_length, frameBits, Nat.mul_comm]

/-! ## The S-port arbiter (R35) -/

/-- Settles O39: the branches of the arbiter's choice, by what the queues hold. -/
theorem supervisorArbiterOrder : Obligations.SupervisorArbiterOrder := by
  unfold Obligations.SupervisorArbiterOrder
  refine fun s => ⟨sArbiter_busy s, fun free => ?_⟩
  have chooses : s.sArbiter = s.sChoose := by simp [State.sArbiter, free]
  rw [chooses]
  refine ⟨fun r rest hr hg => ?reply, fun f rest hf hg => ?passUp, fun f hf hr hn => ?notice, fun hf hr hn => ?none⟩
  case reply =>
    have sends : s.sChoose = s.sendReply := by
      rcases hg with hg | hg
      · simp [State.sChoose, hr, Config.guardLimit, hg]
      · simp [State.sChoose, hr, hg]
    rw [sends]
    simp [State.sendReply, hr]
  case passUp =>
    have sends : s.sChoose = s.sendPassUp := by
      rcases hg with hg | hg
      · simp [State.sChoose, hf, Config.guardLimit, Nat.not_le.mpr hg]
      · simp [State.sChoose, hf, hg]
    rw [sends]
    simp [State.sendPassUp, hf, State.guardAfterPassUp, Config.guardLimit]
  case notice => simp [State.sChoose, State.sendNotice, hf, hr, hn]
  case none => simp [State.sChoose, State.sendNotice, hf, hr, hn]

/-! ## The spacing of NOTICEs (R192) -/

/-- A closing in which the reported set and all that the F-port arbiter reads stand as before. -/
theorem close_unchanged {s t : State} (h : s.FQuiet) (hf : t.wireF = s.wireF ∧ t.passDown = s.passDown
    ∧ t.alertReserve = s.alertReserve ∧ t.drainGuard = s.drainGuard ∧ t.stations = s.stations ∧ t.queues = s.queues
    ∧ t.lastDrain = s.lastDrain ∧ t.slots = s.slots) (hr : t.settings = s.settings ∧ t.noticePending = s.noticePending) :
    s.close t = t.sArbiter := by
  obtain ⟨h0, h1, h2, h3, h4, h5, h6, h7⟩ := hf
  exact close_quiet s t (FQuiet_congr h h0 h1 h2 h3 h4 h5 h6 h7) (reportedEmpty_congr hr.1 hr.2)

theorem spacingExpires_stopped (s : State) (h : s.spacing = none) : s.spacingExpires = s := by
  simp [State.spacingExpires, h]

theorem spacingExpires_empty (s : State) (h : s.spacing.isSome = true) (he : s.reportedEmpty = true) :
    s.spacingExpires = { s with spacing := none } := by
  have same : State.reportedEmpty { s with spacing := none } = s.reportedEmpty := reportedEmpty_congr rfl rfl
  simp [State.spacingExpires, h, same, he]

theorem spacingExpires_reported (s : State) (h : s.spacing.isSome = true) (he : s.reportedEmpty = false) :
    s.spacingExpires = State.placeNotice { s with spacing := none } := by
  have same : State.reportedEmpty { s with spacing := none } = s.reportedEmpty := reportedEmpty_congr rfl rfl
  simp [State.spacingExpires, h, same, he]

/-- Settles O36: what leaves the S-port and what the expiry of the spacing timer does, each followed by the S-port's choice alone. -/
theorem noticesAreSpaced : Obligations.NoticesAreSpaced := by
  have leaves : ∀ (s t : State), s.sLeaves = t → s.close t = t.sArbiter → exec .sTransmitComplete s = .next t.sArbiter :=
    fun s t e k => by rw [← k, ← e]; rfl
  have expires : ∀ (s t : State), s.spacingExpires = t → s.close t = t.sArbiter →
      exec .spacingTimerExpiry s = .next t.sArbiter :=
    fun s t e k => by rw [← k, ← e]; rfl
  unfold Obligations.NoticesAreSpaced
  refine ⟨fun s w hw hq => ⟨?notice, ?passUp, ?reply⟩, fun s hq => ⟨?placed, ?silent, ?stopped⟩⟩
  case notice =>
    rintro f rfl
    exact leaves s _ (by simp only [State.sLeaves, hw]; rfl) (close_unchanged hq (by simp) (by simp))
  case passUp =>
    rintro f rfl
    exact leaves s _ (by simp only [State.sLeaves, hw]) (close_unchanged hq (by simp) (by simp))
  case reply =>
    rintro f rfl
    exact leaves s _ (by simp [State.sLeaves, hw]) (close_unchanged hq (by simp) (by simp))
  case placed =>
    intro h he
    exact expires s (State.placeNotice { s with spacing := none }) (spacingExpires_reported s h he)
      (close_unchanged hq (by simp [State.placeNotice]) (by simp [State.placeNotice]))
  case silent =>
    intro h he
    exact expires s _ (spacingExpires_empty s h he) (close_unchanged hq (by simp) (by simp))
  case stopped =>
    intro h
    exact expires s s (spacingExpires_stopped s h) (close_unchanged hq (by simp) (by simp))

/-! ## Pending events after a raise and a count (R190, R194) -/

/-- An event leaves the flags of another group as they are. -/
theorem raise_isPending_of_group_ne (s : State) (e d : NoticeEvent) (h : e.group ≠ d.group) :
    (s.raise e).isPending d = s.isPending d := by
  simp only [State.isPending, State.pendingGroup, State.raise]
  rw [getAt_putAt_ne _ _ _ _ _ h]

theorem group_ne_of_ne_counter128 (e : NoticeEvent) (h : e ≠ .counter128) : NoticeEvent.counter128.group ≠ e.group := by
  cases e <;> first | exact absurd rfl h | decide

/-- The counting of a counter by what it stands at: full, at the COUNT mark, or below another value (R194). -/
theorem count_cases (s : State) (c : Counter) :
    (255 ≤ s.counter c ∧ s.count c = s)
      ∨ (s.counter c = 127 ∧ s.count c = State.raise { s with counters := (s.count c).counters } .counter128)
      ∨ (s.counter c ≠ 127 ∧ s.count c = { s with counters := (s.count c).counters }) := by
  by_cases full : 255 ≤ s.counter c
  · exact .inl ⟨full, by simp [State.count, full]⟩
  · by_cases mark : s.counter c = 127
    · exact .inr (.inl ⟨mark, by simp [State.count, mark]⟩)
    · exact .inr (.inr ⟨mark, by simp [State.count, full, mark]⟩)

theorem count_noticePending (s : State) (c : Counter) (h : s.counter c ≠ 127) :
    (s.count c).noticePending = s.noticePending := by
  rcases count_cases s c with ⟨-, e⟩ | ⟨mark, -⟩ | ⟨-, e⟩
  · rw [e]
  · exact absurd mark h
  · rw [e]

theorem count_isPending_of_ne (s : State) (c : Counter) (e : NoticeEvent) (h : e ≠ .counter128) :
    (s.count c).isPending e = s.isPending e := by
  rcases count_cases s c with ⟨-, k⟩ | ⟨-, k⟩ | ⟨-, k⟩
  · rw [k]
  · rw [k, raise_isPending_of_group_ne _ _ _ (group_ne_of_ne_counter128 e h)]
    rfl
  · rw [k]; rfl

theorem count_isPending_counter128 (s : State) (c : Counter) :
    (s.count c).isPending .counter128 = true ↔ s.counter c = 127 ∨ s.isPending .counter128 = true := by
  rcases count_cases s c with ⟨full, e⟩ | ⟨mark, e⟩ | ⟨other, e⟩
  · rw [e]
    exact ⟨.inr, fun h => h.resolve_left (by omega)⟩
  · rw [e]
    exact ⟨fun _ => .inl mark, fun _ => raise_isPending _ _⟩
  · rw [e]
    exact ⟨.inr, fun h => h.resolve_left other⟩

/-- A pending event whose enables are on is in the reported set (R190). -/
theorem reportedEmpty_of_isPending (s : State) (e : NoticeEvent) (h : s.isPending e = true)
    (hg : s.settings.groupEnables.getLsbD e.group = true) (he : (getAt s.settings.eventEnables e.group 0).getLsbD e.bit = true) :
    s.reportedEmpty = false := by
  have bit : (s.reportedGroup e.group).getLsbD e.bit = true := by
    unfold State.isPending at h
    rw [State.reportedGroup, if_pos hg, BitVec.getLsbD_and, h, he, Bool.and_self]
  unfold State.reportedEmpty State.reported
  rw [List.all_eq_false]
  refine ⟨s.reportedGroup e.group, List.mem_map_of_mem (List.mem_range.mpr (group_lt e)), ?_⟩
  intro zero
  rw [of_decide_eq_true zero] at bit
  simp at bit

/-! ## A REQUEST in the presence of the supervisor (R176) -/

/-- A REQUEST reaches the agent with the assembly in IDLE and the silence timer reloaded. -/
theorem requestArrival_present {s : State} (present : s.silence.silent = false) (seq : Byte) (payload : List Byte) :
    s.requestArrival seq payload = s.heard.request s.reportedEmpty seq payload := by
  have heard : (s.endFrame .s).reloadSilence.endSilence = s.heard := by
    unfold State.endSilence State.heard
    simp [State.reloadSilence, State.endFrame, State.setPort, present]
  have set : (s.endFrame .s).reportedEmpty = s.reportedEmpty := reportedEmpty_congr rfl rfl
  unfold State.requestArrival State.arrive State.sArrival
  dsimp only
  rw [heard, set]
  simp [State.classifyDown]

theorem heard_reportedEmpty (s : State) : s.heard.reportedEmpty = s.reportedEmpty := reportedEmpty_congr rfl rfl

/-- A REQUEST that finds the reported set not empty and leaves it empty gets the NOTICE of what its ANSWER's loss raises (R191,
log 12). -/
theorem request_empties {s : State} (seq code : Byte) (args : List Byte) (r : Response) (loaded : s.loading = false)
    (noReset : s.resetPending = none) (hr : s.execute code args = r) (before : s.reportedEmpty = false)
    (after : r.state.reportedEmpty = true) :
    s.request false seq (code :: args) = (r.finish false seq code).testNotice true := by
  have responds : s.respond (code :: args) = r := by simp [State.respond, loaded, noReset, hr]
  simp [State.request, responds, Response.afterNotice, before, after]

/-- The ANSWER of a request that is no reset, lost at a full reply queue (R34). -/
theorem finish_lost (r : Response) (b : Bool) (seq code : Byte) (hq : r.state.FQuiet) (hr : r.isReset = false)
    (full : 16 ≤ r.state.replies.length) : r.finish b seq code = r.state.count .repliesLost := by
  unfold Response.finish
  rw [fArbiter_quiet _ hq]
  dsimp only
  rw [placeReply_eq, if_neg (Nat.not_lt.mpr full)]
  simp [hr]

theorem placeNotice_of_due (s : State) (h : s.reportedEmpty = false) (k : s.spacing = none) :
    s.testNotice true = s.placeNotice := by
  simp [State.testNotice, h, k]

/-- The flags of a group cleared (R193). -/
def State.clearGroup (s : State) (g : Nat) : State := { s with noticePending := putAt s.noticePending g 0 }

theorem clearGroup_pendingGroup (s : State) (g k : Nat) :
    (s.clearGroup g).pendingGroup k = if g = k ∧ k < 8 then 0 else s.pendingGroup k := getAt_putAt _ _ _ _ _

/-- The reported set is empty once its only group is cleared. -/
theorem clearGroup_reportedEmpty (s : State) (g : Nat) (h : ∀ k, k < 8 → k ≠ g → s.reportedGroup k = 0) :
    (s.clearGroup g).reportedEmpty = true := by
  unfold State.reportedEmpty State.reported
  simp only [List.all_map, List.all_eq_true, List.mem_range, Function.comp, decide_eq_true_eq]
  intro k hk
  by_cases hkg : g = k
  · have zero : (s.clearGroup g).pendingGroup k = 0 := by rw [clearGroup_pendingGroup, if_pos ⟨hkg, hk⟩]
    rw [State.reportedGroup, zero]
    split
    · exact BitVec.zero_and
    · rfl
  · have kept : (s.clearGroup g).pendingGroup k = s.pendingGroup k := by
      rw [clearGroup_pendingGroup, if_neg fun c => hkg c.1]
    rw [State.reportedGroup, kept]
    exact h k hk (Ne.symm hkg)

theorem execute_readClear (s : State) (g : Byte) (h : g.toNat ≤ 7) :
    s.execute 41 [g] = (s.clearGroup g.toNat).answerDone (fun _ => [g, s.pendingGroup g.toNat]) := by
  show s.reqReadClear [g] = _
  rw [State.reqReadClear, if_neg (Nat.not_lt.mpr h)]
  rfl

/-! ## The placement of a NOTICE -/

/-- An event that takes the reported set from empty to not empty places its NOTICE at the closing (R191). -/
theorem close_places {s t : State} (h : s.SBusy) (e : t.wireS = s.wireS) (before : s.reportedEmpty = true)
    (after : (s.close t).reportedEmpty = false) (stopped : (s.close t).spacing = none) :
    s.close t = t.fArbiter.placeNotice := by
  rw [close_busy h e, before] at *
  refine placeNotice_of_due _ ?_ (by rwa [testNotice_spacing] at stopped)
  by_contra empty
  rw [testNotice_empty (by simpa using empty)] at after
  exact empty after

/-- With the spacing timer running on, an event places no NOTICE (R191). -/
theorem close_running {s t : State} (h : s.SBusy) (p : Placed s t) (running : s.spacing.isSome = true)
    (kept : (s.close t).spacing = s.spacing) :
    (s.close t).noticeSlot = s.noticeSlot ∧ (s.close t).noticeNumber = s.noticeNumber := by
  have arbiter := moves_fArbiter t
  have spacing : t.spacing = s.spacing := by
    rw [close_busy h p.wireS, testNotice_spacing, arbiter.spacing] at kept
    exact kept
  rw [close_busy h p.wireS, testNotice_running _ _ (by rw [arbiter.spacing, spacing]; exact running), arbiter.noticeSlot,
    arbiter.noticeNumber]
  rcases p.notice with stopped | ⟨-, same⟩
  · rw [← spacing, stopped] at running
    cases running
  · exact same running

/-- A READ-CLEAR-GROUP that empties the reported set while its ANSWER is lost and the loss raises COUNT: the set has become non-empty
again, and its NOTICE is placed (R191, R193, log 12). -/
theorem readClearGroup_lost {s : State} (seq g : Byte) (loaded : s.loading = false) (noReset : s.resetPending = none)
    (present : s.silence.silent = false) (fBusy : s.FBusy) (sBusy : s.SBusy) (stopped : s.spacing = none)
    (full : 16 ≤ s.replies.length) (mark : s.counter .repliesLost = 127) (valid : g.toNat ≤ 7) (before : s.reportedEmpty = false)
    (only : ∀ k, k < 8 → k ≠ g.toNat → s.reportedGroup k = 0) (group : s.settings.groupEnables.getLsbD 6 = true)
    (event : (getAt s.settings.eventEnables 6 0).getLsbD 0 = true) :
    ∃ u : State, exec (.readClearGroup seq [g]) s = .next u.placeNotice ∧ u.isPending .counter128 = true
      ∧ u.noticeNumber = s.noticeNumber := by
  obtain ⟨z, hz⟩ : ∃ z, z = s.heard.clearGroup g.toNat := ⟨_, rfl⟩
  have moved : Moves s.heard (z.count .repliesLost) := by
    have clears : Moves s.heard z := by rw [hz]; exact moves_core rfl rfl
    exact clears.trans (moves_count z _)
  have pending : (z.count .repliesLost).isPending .counter128 = true :=
    (count_isPending_counter128 z .repliesLost).mpr (.inl (by rw [hz]; exact mark))
  have settings : (z.count .repliesLost).settings = s.settings := by rw [count_eq, hz]; rfl
  have wireF : (z.count .repliesLost).wireF = s.wireF := by rw [count_eq, hz]; rfl
  have reported : (z.count .repliesLost).reportedEmpty = false :=
    reportedEmpty_of_isPending _ .counter128 pending (by rw [settings]; exact group) (by rw [settings]; exact event)
  have cleared : z.reportedEmpty = true := by rw [hz]; exact clearGroup_reportedEmpty s.heard g.toNat only
  have executed := execute_readClear s.heard g valid
  rw [← hz] at executed
  have request : s.requestArrival seq [41, g] = (z.count .repliesLost).placeNotice := by
    rw [requestArrival_present present, before,
      request_empties (s := s.heard) seq 41 [g] _ loaded noReset executed (by rw [heard_reportedEmpty, before]) cleared,
      finish_lost _ _ _ _ (.inl (by rw [hz]; exact fBusy)) rfl (by rw [hz]; exact full)]
    exact placeNotice_of_due _ reported (moved.spacing.trans stopped)
  refine ⟨z.count .repliesLost, ?_, pending, moved.noticeNumber⟩
  have quiet : (z.count .repliesLost).placeNotice.FQuiet := .inl (by
    show (z.count .repliesLost).wireF.isSome = true
    rw [wireF]; exact fBusy)
  have exec_eq : exec (.readClearGroup seq [g]) s = .next (s.close (s.requestArrival seq [41, g])) := rfl
  have wireS : (z.count .repliesLost).placeNotice.wireS = s.wireS := moved.wireS
  rw [exec_eq, request, close_busy sBusy wireS, fArbiter_quiet _ quiet, before]
  simp [State.testNotice]

/-- Settles O37: the inversion of `exec`, with the closing of an event; a power-on reset leaves no event pending, and the tick changes
none. -/
theorem noticeIsPlaced : Obligations.NoticeIsPlaced := by
  unfold Obligations.NoticeIsPlaced
  refine ⟨fun c s t e hc busy _ ht before after => ?places, fun c s t e hc busy running kept => ?running, ?lost⟩
  case places =>
    rcases exec_cases c s with ⟨x, -, e'⟩ | ⟨-, e'⟩ | ⟨left, -⟩ | ⟨u, e', placed⟩
    · rw [e'] at e
      injection e with e
      have : t.reportedEmpty = true := by rw [← e]; exact reportedEmpty_of_cleared _ fun g _ => reset_pendingGroup g
      rw [this] at after
      cases after
    · rw [e'] at e
      injection e with e
      have : t.reportedEmpty = s.reportedEmpty := by rw [← e]; exact reportedEmpty_congr rfl rfl
      rw [this, before] at after
      cases after
    · exact absurd left hc
    · rw [e'] at e
      injection e with e
      subst e
      rw [close_places busy placed.wireS before after ht]
      exact placeNotice_slot _
  case running =>
    rcases exec_cases c s with ⟨x, -, e'⟩ | ⟨-, e'⟩ | ⟨left, -⟩ | ⟨u, e', placed⟩
    · rw [e'] at e
      injection e with e
      rw [← kept, ← e] at running
      cases running
    · rw [e'] at e
      injection e with e
      subst e
      exact ⟨rfl, rfl⟩
    · exact absurd left hc
    · rw [e'] at e
      injection e with e
      subst e
      exact close_running busy placed running kept
  case lost =>
    intro s seq g loaded noReset present fBusy sBusy stopped full mark valid before only group event
    obtain ⟨u, e, pending, number⟩ :=
      readClearGroup_lost seq g loaded noReset present fBusy sBusy stopped full mark valid before only group event
    refine ⟨_, e, pending, ?_, ?_⟩
    · show u.noticeNumber + 1 = _
      rw [number]
    · rw [← number]; rfl

end Sys2Proof.Machine
end

section
/-! SUPPORT. The lines: what a receive error, a gap, a break, the quiet timer, a character and a misaddressed frame do to their port,
and the statements about them. -/

namespace Sys2Proof.Machine

/-! ## Receive errors (R13, R15, R194) -/

theorem windowPasses_iff (now : BridgeTime) (w : List BridgeTime) : windowPasses now w = true ↔
    w.length = 7 ∧ ∃ oldest, w.getLast? = some oldest ∧ (now - oldest).toNat ≤ 100 := by
  unfold windowPasses
  cases w.getLast? with
  | none => simp
  | some oldest => simp only [Bool.and_eq_true, decide_eq_true_eq, Option.some.injEq, exists_eq_left']; exact Iff.rfl

theorem receiveError_isPending_counter128 (s : State) (p : Port) (e : ReceiveError) :
    (s.receiveError p e).isPending .counter128 = true ↔ s.counter (e.counter p) = 127 ∨ s.isPending .counter128 = true := by
  have set : ∀ (t : State) (x : PortState), (t.setPort p x).isPending .counter128 = t.isPending .counter128 := by
    intro t x; cases p <;> rfl
  have noisy : (noisyEvent p).group ≠ NoticeEvent.counter128.group := by cases p <;> decide
  unfold State.receiveError
  dsimp only
  split
  · rw [raise_isPending_of_group_ne _ _ _ noisy, set, count_isPending_counter128]
  · rw [set, count_isPending_counter128]

/-- A receive error that takes a GOOD port to NOISY raises its LINE event (R15). -/
theorem receiveError_raises (s : State) (p : Port) (e : ReceiveError) (good : (s.port p).quality = .good)
    (noisy : ((s.receiveError p e).port p).quality = .noisy) : (s.receiveError p e).isPending (noisyEvent p) = true := by
  have passes : windowPasses s.bridgeTime (s.port p).window = true := by
    by_contra h
    rw [receiveError_port] at noisy
    simp [PortState.takeError, h, good] at noisy
  have time : ((s.count (e.counter p)).setPort p ((s.port p).takeError s.bridgeTime e)).bridgeTime = s.bridgeTime := by simp
  unfold State.receiveError
  dsimp only
  rw [time, if_pos (by simp [good, passes])]
  exact raise_isPending _ _

/-- Settles O16: the port and the counters by the laws of the receive error, the counting by its three cases. -/
theorem receiveErrorEffects : Obligations.ReceiveErrorEffects := by
  unfold Obligations.ReceiveErrorEffects
  refine ⟨fun s p e => ?error, fun s c => ?counting⟩
  case error =>
    dsimp only
    refine ⟨receiveError_counter s p e, ?_, ?_, ?_, ?_, ?_, ?_, ?_, receiveError_raises s p e,
      receiveError_isPending_counter128 s p e, fun q hq => receiveError_other s p q e hq⟩
    all_goals rw [receiveError_port]
    · rfl
    · rfl
    · intro h; simp [PortState.takeError, h, Config.quietUnits]
    · intro h; simp [PortState.takeError, h]
    · rfl
    · rfl
    · rw [← windowPasses_iff]
      by_cases h : windowPasses s.bridgeTime (s.port p).window = true <;> simp [PortState.takeError, h]
  case counting =>
    dsimp only
    refine ⟨fun d => ?_, fun h => (count_isPending_counter128 s c).mpr (.inl h), count_noticePending s c,
      count_isPending_of_ne s c, fun h => by simp [State.count, h], count_eq s c⟩
    rw [count_counted]
    rfl

/-! ## What an event on a line leaves besides its port -/

/-- An event that changes nothing leaves its closing alone. -/
theorem untouched_close (s t : State) : Untouched t (s.close t) := by
  constructor <;> simp

theorem setPort_other (s : State) (p q : Port) (x : PortState) (h : q ≠ p) : (s.setPort p x).port q = s.port q := by
  cases p <;> cases q <;> first | exact absurd rfl h | rfl

@[simp] theorem setPort_points (s : State) (p : Port) (x : PortState) : (s.setPort p x).points = s.points := by
  cases p <;> rfl
@[simp] theorem setPort_silence (s : State) (p : Port) (x : PortState) : (s.setPort p x).silence = s.silence := by
  cases p <;> rfl
@[simp] theorem setPort_cursor (s : State) (p : Port) (x : PortState) : (s.setPort p x).cursor = s.cursor := by
  cases p <;> rfl
@[simp] theorem raise_cursor (s : State) (e : NoticeEvent) : (s.raise e).cursor = s.cursor := rfl
@[simp] theorem setPort_counter (s : State) (p : Port) (x : PortState) (c : Counter) :
    (s.setPort p x).counter c = s.counter c := by
  cases p <;> rfl

/-- A receive error writes its port, the counters and the pending flags alone. -/
theorem receiveError_eq (s : State) (p : Port) (e : ReceiveError) : s.receiveError p e =
    { s with portS := (s.receiveError p e).portS, portF := (s.receiveError p e).portF
             counters := (s.receiveError p e).counters, noticePending := (s.receiveError p e).noticePending } := by
  have set : ∀ x : PortState, (s.count (e.counter p)).setPort p x =
      { s with portS := ((s.count (e.counter p)).setPort p x).portS, portF := ((s.count (e.counter p)).setPort p x).portF
               counters := ((s.count (e.counter p)).setPort p x).counters
               noticePending := ((s.count (e.counter p)).setPort p x).noticePending } := by
    intro x
    rw [count_eq]
    cases p <;> rfl
  unfold State.receiveError
  dsimp only
  split
  · rw [set]; rfl
  · exact set _

/-- A discarded frame: the assembly goes where the table puts it, and the error is taken with it there (R4, R13). -/
theorem erred_port (s : State) (p : Port) (x : Assembly) (e : ReceiveError) :
    ((s.setAssembly p x).receiveError p e).port p = ({ s.port p with assembly := x } : PortState).takeError s.bridgeTime e := by
  rw [receiveError_port, setAssembly_port, setAssembly_bridgeTime]

theorem erred_counter (s : State) (p : Port) (x : Assembly) (e : ReceiveError) (c : Counter) :
    ((s.setAssembly p x).receiveError p e).counter c = if c = e.counter p then counted (s.counter c) else s.counter c := by
  rw [receiveError_counter]
  simp [State.setAssembly]

theorem erred_other (s : State) (p q : Port) (x : Assembly) (e : ReceiveError) (h : q ≠ p) :
    ((s.setAssembly p x).receiveError p e).port q = s.port q := by
  rw [receiveError_other _ _ _ _ h]
  exact setPort_other s p q _ h

/-- A pending event stands through the closing when the F-port transmitter takes nothing. -/
theorem close_isPending_quiet {s t : State} (h : t.FQuiet) (e : NoticeEvent) : (s.close t).isPending e = t.isPending e := by
  have notice : (t.testNotice s.reportedEmpty).noticePending = t.noticePending := by
    unfold State.testNotice; split <;> rfl
  have pending : (s.close t).noticePending = t.noticePending := by
    unfold State.close
    rw [fArbiter_quiet t h, sArbiter_up]
    exact notice
  simp [State.isPending, State.pendingGroup, pending]

/-- A port's LINE event raised with a new state of the port: the F-port's transmitter stays quiet. -/
theorem line_quiet {s : State} (h : s.FQuiet) (p : Port) (x : PortState) (e : NoticeEvent) :
    ((s.setPort p x).raise e).FQuiet := by
  cases p <;> exact FQuiet_congr h rfl rfl rfl rfl rfl rfl rfl rfl

/-! ## The gap, the break and the quiet timer (R6, R14, R16) -/

theorem gapTimeout_assembling {s : State} {p : Port} {a : Nat} {d : List Byte} (h : (s.port p).assembly = .assembling a d) :
    s.gapTimeout p = (s.setAssembly p .skipping).receiveError p .framing := by
  simp [State.gapTimeout, h]

theorem gapTimeout_untimed {s : State} {p : Port} (h : ∀ a d, (s.port p).assembly ≠ .assembling a d) : s.gapTimeout p = s := by
  unfold State.gapTimeout
  split
  · next h' => exact absurd h' (h _ _)
  all_goals rfl

/-- A line event that writes its port and, on a condition, raises an event. -/
theorem line_event (s : State) (p : Port) (x : PortState) (c : Prop) [Decidable c] (e : NoticeEvent) :
    ((s.close (if c then (s.setPort p x).raise e else s.setPort p x)).port p = x)
      ∧ (∀ q, q ≠ p → (s.close (if c then (s.setPort p x).raise e else s.setPort p x)).port q = s.port q)
      ∧ (s.close (if c then (s.setPort p x).raise e else s.setPort p x)).counters = s.counters
      ∧ (s.close (if c then (s.setPort p x).raise e else s.setPort p x)).points = s.points
      ∧ (s.close (if c then (s.setPort p x).raise e else s.setPort p x)).silence = s.silence
      ∧ (c → s.FQuiet → (s.close (if c then (s.setPort p x).raise e else s.setPort p x)).isPending e = true) := by
  refine ⟨?_, fun q hq => ?_, ?_, ?_, ?_, fun h hq => ?_⟩
  case refine_6 =>
    rw [if_pos h, close_isPending_quiet (line_quiet hq p x e)]
    exact raise_isPending _ _
  all_goals split <;> simp [setPort_other, *]

/-- Settles O17: each event of the line by its own equation, then the closing, which leaves the ports. -/
theorem gapBreakAndQuietTimer : Obligations.GapBreakAndQuietTimer := by
  have unchanged : ∀ s t : State, t = s → Untouched s (s.close t) ∧ (s.close t).counters = s.counters := by
    rintro s t rfl
    exact ⟨untouched_close t t, close_counters t t⟩
  unfold Obligations.GapBreakAndQuietTimer
  refine ⟨⟨fun s p a d h => ⟨_, rfl, ?gap⟩, fun s p h => ⟨_, rfl, unchanged s _ (gapTimeout_untimed h)⟩⟩,
    fun s p h => ⟨_, rfl, ?taken⟩, fun s p h => ⟨⟨_, rfl, unchanged s _ ?within⟩, _, rfl, ?ended⟩,
    fun s p h => ⟨_, rfl, unchanged s _ ?unbroken⟩, fun s p h => ⟨_, rfl, ?quiet⟩,
    fun s p h => ⟨_, rfl, unchanged s _ ?stopped⟩⟩
  case gap =>
    rw [gapTimeout_assembling h]
    refine ⟨(close_port _ _ _).trans (erred_port s p _ _), fun q hq => (close_port _ _ _).trans (erred_other s p q _ _ hq),
      fun c => (close_counter _ _ _).trans (erred_counter s p _ _ c), ?_⟩
    rw [close_points, close_settings, close_cursor, close_silence, receiveError_eq]
    simp [State.setAssembly]
  case taken =>
    have e : s.takeBreak p = if (s.port p).quality = .good then
        (s.setPort p { s.port p with assembly := .skipping, quality := .noisy, quiet := none, inBreak := true
                                     causes := { (s.port p).causes with brk := true } }).raise (noisyEvent p)
      else s.setPort p { s.port p with assembly := .skipping, quality := .noisy, quiet := none, inBreak := true
                                       causes := { (s.port p).causes with brk := true } } := by
      simp [State.takeBreak, h]
    rw [e]
    exact line_event s p _ _ _
  case within => simp [State.takeBreak, h]
  case ended =>
    have e : s.endBreak p = s.setPort p { s.port p with inBreak := false, quiet := some (s.bridgeTime + 100) } := by
      simp [State.endBreak, h, State.later, Config.quietUnits]
    rw [e]
    exact ⟨by simp, fun q hq => by simp [setPort_other _ _ _ _ hq], by simp, by simp, by simp⟩
  case unbroken => simp [State.endBreak, h]
  case quiet =>
    have e : s.quietExpires p = if (s.port p).quality = .noisy then
        (s.setPort p { s.port p with quiet := none, quality := .good }).raise (goodEvent p)
      else s.setPort p { s.port p with quiet := none, quality := .good } := by
      simp [State.quietExpires, h]
    rw [e]
    exact line_event s p _ _ _
  case stopped => simp [State.quietExpires, h]

/-! ## The table of frame assembly (R3 to R5, R7) -/

section
variable {s : State} {p : Port} {v : Byte} {marker stop : Bool}

theorem takeCharacter_inBreak (h : (s.port p).inBreak = true) : s.takeCharacter p v marker stop = s := by
  simp [State.takeCharacter, h]

theorem takeCharacter_lowStop (h : (s.port p).inBreak = false) :
    s.takeCharacter p v marker false = (s.setAssembly p .skipping).receiveError p .framing := by
  simp [State.takeCharacter, h]

theorem takeCharacter_marker (h : (s.port p).inBreak = false) : s.takeCharacter p v true true = s.takeMarker p v := by
  simp [State.takeCharacter, h]

theorem takeCharacter_data_idle (h : (s.port p).inBreak = false) (ha : (s.port p).assembly = .idle) :
    s.takeCharacter p v false true = s.receiveError p .framing := by
  simp [State.takeCharacter, h, ha]

theorem takeCharacter_data_skipping (h : (s.port p).inBreak = false) (ha : (s.port p).assembly = .skipping) :
    s.takeCharacter p v false true = s := by
  simp [State.takeCharacter, h, ha]

theorem takeCharacter_data {a : Nat} {d : List Byte} (h : (s.port p).inBreak = false)
    (ha : (s.port p).assembly = .assembling a d) : s.takeCharacter p v false true = s.takeData p a (d ++ [v]) := by
  simp [State.takeCharacter, h, ha]

/-- The assembly that a marker character begins (R4). -/
def begun (v : Byte) : Assembly := if v.toNat ≤ 127 then .assembling v.toNat [] else .skipping

theorem takeMarker_idle (ha : (s.port p).assembly = .idle) (hv : v.toNat ≤ 127) :
    s.takeMarker p v = s.setAssembly p (begun v) := by
  simp [State.takeMarker, ha, hv, begun]

theorem takeMarker_idle_high (ha : (s.port p).assembly = .idle) (hv : 127 < v.toNat) :
    s.takeMarker p v = (s.setAssembly p .skipping).receiveError p .framing := by
  simp [State.takeMarker, ha, Nat.not_le.mpr hv]

theorem takeMarker_assembling {a : Nat} {d : List Byte} (ha : (s.port p).assembly = .assembling a d) :
    s.takeMarker p v = (s.setAssembly p (begun v)).receiveError p .framing := by
  simp [State.takeMarker, ha, begun]

theorem takeMarker_skipping (ha : (s.port p).assembly = .skipping) : s.takeMarker p v = s.setAssembly p (begun v) := by
  simp [State.takeMarker, ha, begun]

theorem takeData_overlength {a : Nat} {d : List Byte} (hl : d.length = 3) (hn : 48 < (d.getD 2 0).toNat) :
    s.takeData p a d = (s.setAssembly p .skipping).receiveError p .overlength := by
  unfold State.takeData
  dsimp only
  rw [if_pos (by rw [hl]; simpa [Config.payloadTop] using hn)]

/-- A data character that is neither a length above 48 nor the second check character goes into the frame. -/
theorem takeData_within {a : Nat} {d : List Byte} (hn : d.length = 3 → (d.getD 2 0).toNat ≤ 48)
    (hl : d.length ≠ (d.getD 2 0).toNat + 5) : s.takeData p a d = s.setAssembly p (.assembling a d) := by
  have fits : (d.length = 3 && decide (Config.payloadTop < (d.getD 2 0).toNat)) = false := by
    by_cases h : d.length = 3
    · simpa [h, Config.payloadTop] using hn h
    · simp [h]
  unfold State.takeData
  dsimp only
  rw [fits, if_neg (by decide), if_neg hl]

/-- The second check character ends the frame: it arrives, or is a check error (R7, R8). -/
theorem takeData_last {a : Nat} {d : List Byte} (hl : d.length = (d.getD 2 0).toNat + 5) : s.takeData p a d =
    if dataChecks d then s.arrive p (frameOf a d) else (s.setAssembly p .idle).receiveError p .check := by
  have longer : (d.length = 3 && decide (Config.payloadTop < (d.getD 2 0).toNat)) = false := by
    have : d.length ≠ 3 := by omega
    simp [this]
  unfold State.takeData
  dsimp only
  rw [longer, if_neg (by decide), if_pos hl]
end

/-- Settles O18: each row of the table by its equation of `takeCharacter`. -/
theorem characterTable : Obligations.CharacterTable := by
  unfold Obligations.CharacterTable
  intro s p v marker stop
  have erred : ∀ (x : Assembly) (e : ReceiveError) (t : State), t = (s.setAssembly p x).receiveError p e →
      (s.close t).port p = PortState.takeError { s.port p with assembly := x } s.bridgeTime e
        ∧ ∀ c, (s.close t).counter c = if c = e.counter p then counted (s.counter c) else s.counter c := by
    rintro x e t rfl
    exact ⟨(close_port _ _ _).trans (erred_port s p x e), fun c => (close_counter _ _ _).trans (erred_counter s p x e c)⟩
  have fine : ∀ (x : Assembly) (t : State), t = s.setAssembly p x →
      (s.close t).port p = { s.port p with assembly := x } ∧ (s.close t).counters = s.counters := by
    rintro x t rfl
    exact ⟨(close_port _ _ _).trans (setAssembly_port s p x), by simp⟩
  have same : ∀ t : State, t = s → (s.close t).port p = s.port p ∧ (s.close t).counters = s.counters := by
    rintro t rfl
    exact ⟨close_port _ _ _, close_counters _ _⟩
  refine ⟨_, rfl, ?brk, ?low, ?idle, ?idleHigh, ?again, ?skip, ?stray, ?skipped, ?data, ?check⟩
  case brk => exact fun h => same _ (takeCharacter_inBreak h)
  case low => rintro h rfl; exact erred _ _ _ (takeCharacter_lowStop h)
  case idle => rintro h rfl rfl ha hv; exact fine _ _ ((takeCharacter_marker h).trans (takeMarker_idle ha hv))
  case idleHigh => rintro h rfl rfl ha hv; exact erred _ _ _ ((takeCharacter_marker h).trans (takeMarker_idle_high ha hv))
  case again =>
    rintro h rfl rfl ⟨a, d, ha⟩
    exact erred _ _ _ ((takeCharacter_marker h).trans (takeMarker_assembling ha))
  case skip => rintro h rfl rfl ha; exact fine _ _ ((takeCharacter_marker h).trans (takeMarker_skipping ha))
  case stray =>
    rintro h rfl rfl ha
    rw [takeCharacter_data_idle h ha]
    exact ⟨(close_port _ _ _).trans (receiveError_port s p _), fun c => (close_counter _ _ _).trans (receiveError_counter s p _ c)⟩
  case skipped => rintro h rfl rfl ha; exact same _ (takeCharacter_data_skipping h ha)
  case data =>
    rintro a d h rfl rfl ha
    refine ⟨fun hl hv => ?overlength, fun hd => ?within⟩
    case overlength =>
      have third : (d ++ [v]).getD 2 0 = v := by simp [← hl]
      exact erred _ _ _ ((takeCharacter_data h ha).trans (takeData_overlength (by simp [hl]) (by rw [third]; exact hv)))
    case within =>
      refine fine _ _ ((takeCharacter_data h ha).trans (takeData_within ?_ ?_))
      all_goals rcases hd with hd | ⟨hl, hv⟩ | ⟨hl, hn⟩
      · intro h3; simp at h3; omega
      · have third : (d ++ [v]).getD 2 0 = v := by simp [← hl]
        intro _; rw [third]; exact hv
      · intro h3; simp at h3; omega
      · rw [List.length_append, List.length_singleton]; omega
      · have third : (d ++ [v]).getD 2 0 = v := by simp [← hl]
        rw [List.length_append, List.length_singleton]; omega
      · rw [List.length_append, List.length_singleton, List.getD_append d [v] 0 2 hl]; omega
  case check =>
    intro a d h hs hm ha hl e n he hc
    subst hs hm
    have length : (d ++ [v]).getD 2 0 = d.getD 2 0 := List.getD_append d [v] 0 2 (by omega)
    have wrong : dataChecks (d ++ [v]) = false := by
      unfold dataChecks
      dsimp only
      rw [length]
      exact decide_eq_false hc
    have last : (d ++ [v]).length = ((d ++ [v]).getD 2 0).toNat + 5 := by
      rw [length, show (d ++ [v]).length = n + 2 from he]
      omega
    refine erred .idle .check _ ((takeCharacter_data h ha).trans ((takeData_last last).trans ?_))
    rw [wrong, if_neg (by decide)]

end Sys2Proof.Machine
end

section
/-! SUPPORT. Frames that arrive: the characters of a frame, and the frames that no station and no agent takes. -/

namespace Sys2Proof.Machine

/-! ## The characters of a frame (R5, R7, R8) -/

/-- The data characters of a frame: kind, seq, length and payload, then the check (section 1.8). -/
def frameData (f : Frame) : List Byte := coveredBytes f ++ checkBytes (coveredBytes f)

theorem byte_toNat (n : Nat) (h : n < 256) : (byte n).toNat = n := Nat.mod_eq_of_lt h

theorem coveredBytes_length (f : Frame) : (coveredBytes f).length = f.payload.length + 3 := by simp [coveredBytes]

theorem frameData_length (f : Frame) : (frameData f).length = f.payload.length + 5 := by
  simp [frameData, coveredBytes_length]

theorem frameData_lengthByte (f : Frame) (h : f.payload.length ≤ 48) : ((frameData f).getD 2 0).toNat = f.payload.length :=
  byte_toNat _ (by omega)

/-- The check that a frame carries is the check that its receiver forms. -/
theorem dataChecks_frameData (f : Frame) (h : f.payload.length ≤ 48) : dataChecks (frameData f) = true := by
  have n : 3 + ((frameData f).getD 2 0).toNat = (coveredBytes f).length := by
    rw [frameData_lengthByte f h, coveredBytes_length, Nat.add_comm]
  unfold dataChecks
  dsimp only
  rw [n, frameData, List.drop_left, List.take_left]
  exact decide_eq_true rfl

/-- The frame that a receiver reads from a frame's characters is that frame. -/
theorem frameOf_frameData (f : Frame) (h : f.payload.length ≤ 48) : frameOf f.station (frameData f) = f := by
  have payload : ((frameData f).drop 3).take ((frameData f).getD 2 0).toNat = f.payload := by
    rw [frameData_lengthByte f h]
    show (f.payload ++ checkBytes (coveredBytes f)).take f.payload.length = f.payload
    exact List.take_left
  unfold frameOf
  rw [payload]
  rfl

/-- What the assembly held of the frame that arrives is forgotten. -/
theorem arrive_setAssembly (s : State) (p : Port) (x : Assembly) (f : Frame) (h : (s.port p).inBreak = false) :
    (s.setAssembly p x).arrive p f = s.arrive p f := by
  have ended : (s.setAssembly p x).endFrame p = s.endFrame p := by
    unfold State.endFrame State.setAssembly
    rw [setPort_port, setPort_setPort]
    simp [PortState.endFrame, h]
  cases p <;> simp only [State.arrive, ended]

@[simp] theorem setAssembly_setAssembly (s : State) (p : Port) (x y : Assembly) :
    (s.setAssembly p x).setAssembly p y = s.setAssembly p y := by
  unfold State.setAssembly
  rw [setPort_port, setPort_setPort]

/-- The rest of a frame's data characters, taken after the first of them, ends in the arrival of the frame. -/
theorem takeCharacter_rest (s : State) (p : Port) (f : Frame) (hf : f.payload.length ≤ 48) (hb : (s.port p).inBreak = false)
    (rest taken : List Byte) (hr : rest ≠ []) (hd : taken ++ rest = frameData f) :
    (rest.map (fun b => (b, false))).foldl (fun s c => s.takeCharacter p c.1 c.2 true)
      (s.setAssembly p (.assembling f.station taken)) = s.arrive p f := by
  induction rest generalizing taken with
  | nil => exact absurd rfl hr
  | cons v rest ih =>
    have next : (s.setAssembly p (.assembling f.station taken)).takeCharacter p v false true
        = (s.setAssembly p (.assembling f.station taken)).takeData p f.station (taken ++ [v]) :=
      takeCharacter_data (by rw [setAssembly_port]; exact hb) (by rw [setAssembly_port])
    have taken' : (taken ++ [v]) ++ rest = frameData f := by rw [← hd, List.append_assoc]; rfl
    have total := frameData_length f
    simp only [List.map_cons, List.foldl_cons]
    rw [next]
    cases rest with
    | nil =>
      rw [List.append_nil] at taken'
      rw [taken', takeData_last (by rw [total, frameData_lengthByte f hf]), dataChecks_frameData f hf, if_pos rfl,
        frameOf_frameData f hf, arrive_setAssembly _ _ _ _ hb]
      rfl
    | cons w rest =>
      have shorter : (taken ++ [v]).length < f.payload.length + 5 := by
        rw [← total, ← taken']; simp
      have third : 2 < (taken ++ [v]).length → ((taken ++ [v]).getD 2 0).toNat = f.payload.length := by
        intro h
        rw [← frameData_lengthByte f hf, ← taken', List.getD_append _ _ _ _ h]
      have early : (taken ++ [v]).length ≤ 2 → ((taken ++ [v]).getD 2 0).toNat = 0 := by
        intro h
        rw [List.getD_eq_default _ _ h]; rfl
      rw [takeData_within (fun h => by rw [third (by omega)]; exact hf)
        (fun h => by
          by_cases long : 2 < (taken ++ [v]).length
          · rw [third long] at h; omega
          · rw [early (by omega)] at h; omega),
        setAssembly_setAssembly]
      exact ih (taken ++ [v]) (by simp) taken'

theorem frameCharacters_arrive (s : State) (p : Port) (f : Frame) (hf : f.wellFormed = true) (hb : (s.port p).inBreak = false)
    (ha : (s.port p).assembly = .idle ∨ (s.port p).assembly = .skipping) :
    (frameCharacters f).foldl (fun s c => s.takeCharacter p c.1 c.2 true) s = s.arrive p f := by
  simp only [Frame.wellFormed, Bool.and_eq_true, decide_eq_true_eq] at hf
  obtain ⟨station, payload⟩ := hf
  have address : (byte f.station).toNat = f.station := byte_toNat _ (by omega)
  have begins : begun (byte f.station) = .assembling f.station [] := by simp [begun, address, station]
  have first : s.takeCharacter p (byte f.station) true true = s.setAssembly p (.assembling f.station []) := by
    rw [takeCharacter_marker hb, ← begins]
    rcases ha with ha | ha
    · exact takeMarker_idle ha (by rw [address]; exact station)
    · exact takeMarker_skipping ha
  unfold frameCharacters
  rw [List.foldl_cons, first]
  exact takeCharacter_rest s p f payload hb (frameData f) [] (by simp [frameData, coveredBytes]) rfl

theorem endFrame_assembly (s : State) (p : Port) (h : (s.port p).inBreak = false) :
    ((s.endFrame p).port p).assembly = .idle := by
  simp [State.endFrame, PortState.endFrame, h]

/-- Settles O19: the characters by the data taken so far, the arrival's assembly by what every arrival leaves of it. -/
theorem frameCharactersArrive : Obligations.FrameCharactersArrive := by
  unfold Obligations.FrameCharactersArrive
  refine ⟨frameCharacters_arrive, fun s f => ⟨rfl, rfl⟩, fun s f => ⟨fun h => ⟨_, rfl, ?atS⟩, fun h => ⟨_, rfl, ?atF⟩⟩,
    fun s p => rfl⟩
  case atS =>
    rw [close_portS]
    rcases (arrived_sArrival (s.endFrame .s) f).assembly .s with idle | kept
    · exact idle
    · exact kept.trans (endFrame_assembly s .s h)
  case atF =>
    rw [close_portF]
    exact ((moves_fArrival (s.endFrame .f) f).assembly .f).trans (endFrame_assembly s .f h)

/-! ## Misaddressed frames (R8, R22) -/

/-- The end of a silence is the Run Engine's business: it writes the silence, the run and what the follow-up writes. -/
theorem endSilence_core (s : State) : { s.endSilence.core with silence := s.silence } = s.core := by
  unfold State.endSilence
  split
  · dsimp only
    split
    · rw [settle_core]; rfl
    · rfl
  · rfl

section
variable (s : State)
@[simp] theorem endSilence_portS : s.endSilence.portS = s.portS := (congrArg State.portS (endSilence_core s) :)
@[simp] theorem endSilence_portF : s.endSilence.portF = s.portF := (congrArg State.portF (endSilence_core s) :)
@[simp] theorem endSilence_bridgeTime : s.endSilence.bridgeTime = s.bridgeTime :=
  (congrArg State.bridgeTime (endSilence_core s) :)
@[simp] theorem endSilence_points : s.endSilence.points = s.points := (congrArg State.points (endSilence_core s) :)
@[simp] theorem endSilence_settings : s.endSilence.settings = s.settings := (congrArg State.settings (endSilence_core s) :)
@[simp] theorem endSilence_cursor : s.endSilence.cursor = s.cursor := (congrArg State.cursor (endSilence_core s) :)
@[simp] theorem endSilence_counters : s.endSilence.counters = s.counters := (congrArg State.counters (endSilence_core s) :)
@[simp] theorem endSilence_passDown : s.endSilence.passDown = s.passDown := (congrArg State.passDown (endSilence_core s) :)
@[simp] theorem endSilence_wireF : s.endSilence.wireF = s.wireF := (congrArg State.wireF (endSilence_core s) :)
@[simp] theorem endSilence_queues : s.endSilence.queues = s.queues := (congrArg State.queues (endSilence_core s) :)
end

/-- With the F-port transmitter busy the closing of an event is the NOTICE and the S-port's choice. -/
theorem close_fBusy {s t : State} (h : t.FBusy) : s.close t = (t.testNotice s.reportedEmpty).sArbiter := by
  unfold State.close
  rw [fArbiter_quiet t (.inl h)]

/-- The NOTICE and the S-port's choice leave the downward side alone. -/
theorem noticed_down (t : State) (b : Bool) : (t.testNotice b).sArbiter.passDown = t.passDown
    ∧ (t.testNotice b).sArbiter.wireF = t.wireF ∧ (t.testNotice b).sArbiter.queues = t.queues := by
  have same : (t.testNotice b).passDown = t.passDown ∧ (t.testNotice b).wireF = t.wireF
      ∧ (t.testNotice b).queues = t.queues := by
    unfold State.testNotice
    split <;> exact ⟨rfl, rfl, rfl⟩
  rw [sArbiter_up]
  exact same

theorem testNotice_passUp (t : State) (b : Bool) : (t.testNotice b).passUp = t.passUp := by
  unfold State.testNotice; split <;> rfl

theorem fArbiter_passUp (t : State) : t.fArbiter.passUp = t.passUp := (congrArg State.passUp (fArbiter_downBase t) :)

theorem passUp_close {s t : State} (h : s.SBusy) (e : t.wireS = s.wireS) : (s.close t).passUp = t.passUp := by
  rw [close_busy h e, testNotice_passUp, fArbiter_passUp]

/-- Settles O24: the receive error after what the arrival itself leaves, then the closing. -/
theorem misaddressedFramesAreErrors : Obligations.MisaddressedFramesAreErrors := by
  unfold Obligations.MisaddressedFramesAreErrors
  refine ⟨fun s f station kind => ⟨_, rfl, ?atS⟩, fun s f invalid => ⟨_, rfl, ?atF⟩⟩
  case atS =>
    obtain ⟨u, hu⟩ : ∃ u, u = (s.endFrame .s).reloadSilence.endSilence := ⟨_, rfl⟩
    have arrives : s.arrive .s f = u.receiveError .s .framing := by
      rw [hu]
      simp [State.arrive, State.sArrival, State.classifyDown, station, kind]
    have portS : (u.receiveError .s .framing).portS = s.portS.endFrame.takeError s.bridgeTime .framing := by
      refine (receiveError_port u .s .framing).trans ?_
      rw [hu]
      simp [State.port]
      rfl
    have portF : (u.receiveError .s .framing).portF = s.portF := by
      refine (receiveError_other u .s .f .framing (by decide)).trans ?_
      rw [hu]
      simp [State.port]
      rfl
    have counter : (u.receiveError .s .framing).counter .sFraming = counted (s.counter .sFraming) := by
      have same : u.counter .sFraming = s.counter .sFraming := by rw [hu]; simp [State.counter]; rfl
      exact ((receiveError_counter u .s .framing .sFraming).trans (if_pos rfl)).trans (congrArg counted same)
    rw [arrives]
    refine ⟨(close_portS _ _).trans portS, (close_portF _ _).trans portF, (close_counter _ _ _).trans counter, ?_, ?_, ?_,
      fun busy => ?_⟩
    · rw [close_points, receiveError_eq, hu]; simp; rfl
    · rw [close_settings, receiveError_eq, hu]; simp; rfl
    · rw [close_cursor, receiveError_eq, hu]; simp; rfl
    · have down : (u.receiveError .s .framing).passDown = s.passDown ∧ (u.receiveError .s .framing).wireF = s.wireF
          ∧ (u.receiveError .s .framing).queues = s.queues := by
        rw [receiveError_eq, hu]; simp; exact ⟨rfl, rfl, rfl⟩
      rw [close_fBusy (show (u.receiveError .s .framing).wireF.isSome = true by rw [down.2.1]; exact busy)]
      obtain ⟨passDown, wireF, queues⟩ := noticed_down (u.receiveError .s .framing) s.reportedEmpty
      exact ⟨passDown.trans down.1, wireF.trans down.2.1, queues.trans down.2.2⟩
  case atF =>
    have arrives : s.arrive .f f = (s.endFrame .f).receiveError .f .framing := by
      simp [State.arrive, State.fArrival, invalid]
    rw [arrives]
    refine ⟨(close_portF _ _).trans (receiveError_port (s.endFrame .f) .f _), (close_portS _ _).trans
      (receiveError_other (s.endFrame .f) .f .s _ (by decide)), fun c => (close_counter _ _ _).trans
      (receiveError_counter (s.endFrame .f) .f _ c), ?_, ?_, fun busy => ?_, fun a => ?_⟩
    · rw [close_points, receiveError_eq]; rfl
    · rw [close_silence, receiveError_eq]; rfl
    · rw [passUp_close busy (moves_receiveError (s.endFrame .f) .f .framing).wireS, receiveError_eq]; rfl
    · rw [close_history, receiveError_eq]; cases a <;> rfl

end Sys2Proof.Machine
end

section
/-! SUPPORT. The warm and the cold reset at the leaving of their ANSWER (R186). -/

namespace Sys2Proof.Machine

theorem getAt_replicate {α : Type} (n i : Nat) (x : α) : getAt (Vector.replicate n x) i x = x := by
  simp [getAt]

theorem queue_replicate (s : State) (h : s.queues = Vector.replicate 126 []) (a : Nat) : s.queue a = [] := by
  cases a with
  | zero => rfl
  | succ k => rw [State.queue, h, getAt_replicate]

theorem sLeaves_reset {s : State} {f : Frame} (h : s.wireS = some (.reply { frame := f, isReset := true })) :
    s.sLeaves = State.takeReset { s with wireS := none } := by
  simp [State.sLeaves, h]

/-- A reset leaves no event pending, so its closing places no NOTICE. -/
theorem testNotice_cleared (s : State) (b : Bool) (h : s.noticePending = Vector.replicate 8 0) : s.testNotice b = s := by
  refine testNotice_empty (reportedEmpty_of_cleared s fun g _ => ?_) b
  rw [State.pendingGroup, h]
  exact getAt_replicate 8 g 0

/-- Settles O13: the reset values field by field; the busy F-port takes nothing, and the S-port's choice writes none of them. -/
theorem warmResetTakesEffect : Obligations.WarmResetTakesEffect := by
  unfold Obligations.WarmResetTakesEffect
  intro s f hw hr busy
  have leaves : s.sLeaves = State.warmReset { s with wireS := none } := by
    rw [sLeaves_reset hw]
    simp [State.takeReset, hr]
  obtain ⟨u, hu⟩ : ∃ u, u = State.warmReset { s with wireS := none } := ⟨_, rfl⟩
  have closed : exec .sTransmitComplete s = .next u.sArbiter := by
    show Host.Outcome.next (s.close s.sLeaves) = _
    have sends : u.FBusy := by rw [hu]; exact busy
    rw [leaves, ← hu, close_fBusy sends, testNotice_cleared u _ (by rw [hu]; rfl)]
  refine ⟨_, closed, ?_⟩
  rw [sArbiter_up, hu]
  exact ⟨rfl, warmReset_station { s with wireS := none }, queue_replicate _ rfl, rfl,
    fun n => getAt_replicate 96 n StepEntry.reset, fun i => getAt_replicate 8 i (none : Option InjectionRecord), rfl, rfl, rfl, rfl, rfl,
    rfl, rfl, rfl, fun g => getAt_replicate 8 g 0, rfl, rfl, rfl, rfl,
    rfl, rfl, rfl, rfl, rfl, rfl, rfl, rfl, rfl, rfl, rfl, rfl, rfl⟩

/-! ## The cold reset -/

theorem reset_drainChoice : State.reset.drainChoice = none := by
  have none_offers : State.reset.drainOffers = [] := by
    unfold State.drainOffers
    rw [List.filter_eq_nil_iff]
    intro a _
    simp [reset_station, StationRecord.default]
  simp [State.drainChoice, none_offers]

theorem reset_injectionChoice : State.reset.injectionChoice = none := by
  have none_offers : slotNumbers.filter State.reset.offersInjection = [] := by
    rw [List.filter_eq_nil_iff]
    intro i _
    simp [State.offersInjection, reset_slot]
  simp [State.injectionChoice, none_offers]

/-- Nothing is offered to the F-port right after reset. -/
theorem reset_fChoice : State.reset.fChoice = none := by
  unfold State.fChoice
  rw [reset_drainChoice, reset_injectionChoice]
  rfl

/-- Settles O14: the cold reset's values, of which neither arbiter takes anything. -/
theorem coldResetTakesEffect : Obligations.ColdResetTakesEffect := by
  unfold Obligations.ColdResetTakesEffect
  intro s f hw hr
  have leaves : s.sLeaves = State.coldReset { s with wireS := none } := by
    rw [sLeaves_reset hw]
    simp [State.takeReset, hr]
  have quiet : (State.coldReset { s with wireS := none }).FQuiet :=
    .inr ((fChoice_congr (s := State.reset) rfl rfl rfl rfl rfl rfl rfl).trans reset_fChoice)
  show Host.Outcome.next (s.close s.sLeaves) = _
  rw [leaves, State.close, fArbiter_quiet _ quiet, testNotice_cleared _ _ rfl]
  rfl

end Sys2Proof.Machine
end

section
/-! SUPPORT. Requests that are turned away, and the requests that read: their responses, and the statements about them. -/

namespace Sys2Proof.Machine

variable {s : State}

/-! ## Requests turned away (R19, R176) -/

/-- A REQUEST that is answered without its being executed, whatever its payload. -/
theorem concluded_turnedAway (present : s.silence.silent = false) (room : s.replies.length < 16) (hq : s.FQuiet) (seq : Byte)
    (payload : List Byte) (status : Status) (hr : s.heard.respond payload = s.heard.answer status) :
    s.concluded (s.requestArrival seq payload) = .next (s.answered seq (payload.headD 0) status false []).sArbiter := by
  have quiet : s.heard.FQuiet := FQuiet_congr hq rfl rfl rfl rfl rfl rfl rfl rfl
  have noticed : (s.heard.answer status).afterNotice s.heard s.reportedEmpty = s.heard.answer status := by
    simp [Response.afterNotice, State.answer]
  have requested : s.requestArrival seq payload = s.answered seq (payload.headD 0) status false [] := by
    rw [requestArrival_present present, State.request, hr, noticed, finish_quiet (s.heard.answer status) _ _ _ quiet rfl room]
    simp [State.answer]
    rfl
  rw [requested]
  exact concluded_quiet _ hq rfl rfl rfl rfl rfl rfl rfl rfl rfl rfl

theorem execute_unlisted (code : Byte) (args : List Byte) (h : code.toNat ∉ listedRequestCodes) :
    s.execute code args = s.answer .unknown := by
  unfold State.execute
  split
  case h_23 => rfl
  all_goals
    next k => exact absurd (by rw [k]; decide) h

/-- The requests without arguments, with some. -/
theorem badRecord_of_args (args : List Byte) (h : args ≠ []) :
    s.reqSuspend args = s.answer .badRecord ∧ s.reqResume args = s.answer .badRecord ∧ s.reqAbort args = s.answer .badRecord
      ∧ s.reqRunStatus args = s.answer .badRecord ∧ s.reqReadLine args = s.answer .badRecord
      ∧ s.reqReadCounters args = s.answer .badRecord ∧ s.reqStore args = s.answer .badRecord
      ∧ ∀ k, s.reqReset k args = s.answer .badRecord := by
  cases args with
  | nil => exact absurd rfl h
  | cons => exact ⟨rfl, rfl, rfl, rfl, rfl, rfl, rfl, fun _ => rfl⟩

/-- The requests of one argument byte, with another number of them. -/
theorem badRecord_of_length_ne_one (args : List Byte) (h : args.length ≠ 1) :
    s.reqHold args = s.answer .badRecord ∧ s.reqRelease args = s.answer .badRecord ∧ s.reqClear args = s.answer .badRecord
      ∧ s.reqReadClear args = s.answer .badRecord := by
  match args, h with
  | [], _ => exact ⟨rfl, rfl, rfl, rfl⟩
  | [_], h => exact absurd rfl h
  | _ :: _ :: _, _ => exact ⟨rfl, rfl, rfl, rfl⟩

/-- The requests of two argument bytes, with another number of them. -/
theorem badRecord_of_length_ne_two (args : List Byte) (h : args.length ≠ 2) :
    s.reqPointGet args = s.answer .badRecord ∧ s.reqPointList args = s.answer .badRecord
      ∧ s.reqPointDrop args = s.answer .badRecord := by
  match args, h with
  | [], _ | [_], _ => exact ⟨rfl, rfl, rfl⟩
  | [_, _], h => exact absurd rfl h
  | _ :: _ :: _ :: _, _ => exact ⟨rfl, rfl, rfl⟩

theorem badRecord_of_length_ne_three (args : List Byte) (h : args.length ≠ 3) : s.reqSelect args = s.answer .badRecord := by
  match args, h with
  | [], _ | [_], _ | [_, _], _ => rfl
  | [_, _, _], h => exact absurd rfl h
  | _ :: _ :: _ :: _ :: _, _ => rfl

/-- The requests of five argument bytes, with another number of them. -/
theorem badRecord_of_length_ne_five (args : List Byte) (h : args.length ≠ 5) :
    s.reqPointPut args = s.answer .badRecord ∧ s.reqSetFeed args = s.answer .badRecord := by
  match args, h with
  | [], _ | [_], _ | [_, _], _ | [_, _, _], _ | [_, _, _, _], _ => exact ⟨rfl, rfl⟩
  | [_, _, _, _, _], h => exact absurd rfl h
  | _ :: _ :: _ :: _ :: _ :: _ :: _, _ => exact ⟨rfl, rfl⟩

/-- Settles O48: each turned-away request by its response, which changes nothing. -/
theorem turnedAwayRequestsChangeNothing : Obligations.TurnedAwayRequestsChangeNothing := by
  unfold Obligations.TurnedAwayRequestsChangeNothing
  refine ⟨⟨fun q a s => rfl, fun s seq payload away present room hq => ?busy⟩, fun s seq h hq => ?empty,
    fun s seq code args h hq hc => concluded_answer h hq seq code args .unknown [] (execute_unlisted code args hc),
    fun s seq args h hq => ?listed⟩
  case busy =>
    refine concluded_turnedAway present room hq seq payload .busy ?_
    have loads : s.heard.loading = s.loading := rfl
    have resets : s.heard.resetPending = s.resetPending := rfl
    unfold State.respond
    rw [loads, resets]
    rcases away with loading | pending
    · rw [if_pos loading]
    · rw [if_pos pending, ite_self]
  case empty =>
    refine concluded_turnedAway h.present h.room hq seq [] .unknown ?_
    have loads : s.heard.loading = false := h.loaded
    have resets : s.heard.resetPending = none := h.noReset
    simp [State.respond, loads, resets]
  case listed =>
    have turned : ∀ code, s.heard.execute code args = s.heard.answer .badRecord → s.concluded
        (s.requestArrival seq (code :: args)) = .next (s.answered seq code .badRecord false []).sArbiter :=
      fun code => concluded_answer h hq seq code args .badRecord []
    refine ⟨fun ha => ?_, fun ha => ?_, fun ha => ?_, fun ha => ?_, fun ha => ?_⟩
    · obtain ⟨suspend, resume, abort, status, line, counters, store, reset⟩ := badRecord_of_args (s := s.heard) args ha
      exact ⟨turned 25 suspend, turned 26 resume, turned 27 abort, turned 28 status, turned 40 line, turned 42 counters,
        turned 48 store, turned 56 (reset .warm), turned 57 (reset .cold)⟩
    · obtain ⟨hold, release, clear, readClear⟩ := badRecord_of_length_ne_one (s := s.heard) args ha
      exact ⟨turned 16 hold, turned 17 release, turned 18 clear, turned 41 readClear⟩
    · obtain ⟨get, list, drop⟩ := badRecord_of_length_ne_two (s := s.heard) args ha
      exact ⟨turned 8 get, turned 9 list, turned 11 drop⟩
    · exact turned 1 (badRecord_of_length_ne_three args ha)
    · obtain ⟨put, feed⟩ := badRecord_of_length_ne_five (s := s.heard) args ha
      exact ⟨turned 10 put, turned 32 feed⟩

/-! ## Read and clear (R17, R193, R195) -/

/-- A flag cleared adds nothing to the reported set. -/
theorem clearGroup_empty (g : Nat) (h : s.reportedEmpty = true) : (s.clearGroup g).reportedEmpty = true := by
  refine clearGroup_reportedEmpty s g fun k hk _ => ?_
  simp only [State.reportedEmpty, State.reported, List.all_map, List.all_eq_true, List.mem_range, Function.comp,
    decide_eq_true_eq] at h
  exact h k hk

/-- Where the reported set did not stand empty before, no NOTICE is placed. -/
theorem testNotice_unasked (t : State) : t.testNotice false = t := by simp [State.testNotice]

/-- Settles O51: the response of each, then its ANSWER; a cleared group places no NOTICE. -/
theorem readAndClearIsOneEvent : Obligations.ReadAndClearIsOneEvent := by
  unfold Obligations.ReadAndClearIsOneEvent
  refine fun s seq h hq => ⟨?line, fun g hg => ?beyond, fun g hg => ?group, ?counters⟩
  case line =>
    exact concluded_ready h seq 40 [] (s.heard.reqReadLine []) rfl (FQuiet_congr hq rfl rfl rfl rfl rfl rfl rfl rfl) rfl rfl rfl
      rfl
  case beyond =>
    refine concluded_answer h hq seq 41 [g] .badIndex [] ?_
    show s.heard.reqReadClear [g] = _
    rw [State.reqReadClear, if_pos hg]
    rfl
  case group =>
    refine ⟨(s.clearGroup g.toNat).answered seq 41 .done false [g, s.pendingGroup g.toNat],
      (concluded_response h seq 41 [g] _ (execute_readClear s.heard g hg)
        (FQuiet_congr hq rfl rfl rfl rfl rfl rfl rfl rfl) rfl rfl).trans ?_, rfl, fun k => ?_⟩
    · refine congrArg (fun t : State => Host.Outcome.next t.sArbiter) ?_
      by_cases empty : s.reportedEmpty = true
      · refine testNotice_empty ?_ _
        refine (reportedEmpty_congr rfl rfl : _ = (s.heard.clearGroup g.toNat).reportedEmpty).trans ?_
        exact clearGroup_empty g.toNat ((heard_reportedEmpty s).trans empty)
      · rw [Bool.not_eq_true] at empty
        rw [empty]
        exact testNotice_unasked _
    · refine (clearGroup_pendingGroup s.heard g.toNat k).trans ?_
      by_cases same : k = g.toNat
      · rw [if_pos ⟨same.symm, by omega⟩, if_pos same]
      · rw [if_neg fun c => same c.1.symm, if_neg same]
        rfl
  case counters =>
    exact concluded_ready h seq 42 [] (s.heard.reqReadCounters []) rfl (FQuiet_congr hq rfl rfl rfl rfl rfl rfl rfl rfl) rfl rfl rfl
      rfl

end Sys2Proof.Machine
end

section
/-! SUPPORT. The cursor after a transfer, the read encodings, and the statement about the reads (R163, R179, R180, R184). -/

namespace Sys2Proof.Machine

variable {s : State}

/-! ## The cursor (R179) -/

/-- A transfer that moves the cursor raises its index, or at the last index of the table wraps it with the mark. -/
theorem movedCursor_eq (b : Bool) (args : List Byte) (moves : Prop) [Decidable moves]
    (h : (b && s.transferMoves args) = true ↔ moves) : s.movedCursor b args =
      ({ s.cursor with index := if moves ∧ s.cursor.table.range.2 ≤ s.cursor.index then s.cursor.table.range.1
                                else if moves then s.cursor.index + 1 else s.cursor.index },
        decide (moves ∧ s.cursor.table.range.2 ≤ s.cursor.index)) := by
  unfold State.movedCursor Cursor.advance
  by_cases m : moves
  · rw [if_pos (h.mpr m)]
    by_cases last : s.cursor.table.range.2 ≤ s.cursor.index <;> simp [m, last]
  · rw [if_neg (fun c => m (h.mp c))]
    simp [m]

/-- A GET that names a record moves its cursor in mode EVERY, on PAYLOAD only after the record's last part (R20, R179). -/
theorem get_moves (args data : List Byte) (h : s.getData args = some data) :
    (decide (s.cursor.mode = .every) && s.transferMoves args) = true ↔
      s.cursor.mode = .every ∧ (s.cursor.table = .payload → args = [1] ∨ (s.payload s.cursor.index).length ≤ 24) := by
  have part : s.cursor.table = .payload → (args.headD 0 = 1 ↔ args = [1]) := by
    intro table
    simp only [State.getData, table] at h
    split at h <;> simp_all
  unfold State.transferMoves
  split
  · next table =>
    simp only [Bool.and_eq_true, Bool.or_eq_true, decide_eq_true_eq, table, true_implies, part table]
  · next table =>
    simp only [Bool.and_true, decide_eq_true_eq]
    exact ⟨fun mode => ⟨mode, fun payload => absurd payload table⟩, And.left⟩

theorem validStation_iff (a : Nat) : validStation a = true ↔ 1 ≤ a ∧ a ≤ 126 := by
  simp [validStation]; omega

theorem reqPointGet_valid (a c : Byte) (h : 1 ≤ a.toNat ∧ a.toNat ≤ 126) : s.reqPointGet [a, c] =
    s.answerDone (fun t => match t.findPoint a.toNat c.toNat with | some p => 1 :: p.encode | none => [0]) :=
  if_pos ((validStation_iff _).mpr h)

theorem reqPointGet_invalid (a c : Byte) (h : ¬ (1 ≤ a.toNat ∧ a.toNat ≤ 126)) :
    s.reqPointGet [a, c] = s.answer .badIndex :=
  if_neg fun v => h ((validStation_iff _).mp v)

theorem flag_decide (p : Prop) [Decidable p] : flag (decide p) = if p then 1 else 0 := by
  by_cases h : p <;> simp [flag, h]

theorem reqPointList_valid (a c : Byte) (h : 1 ≤ a.toNat ∧ a.toNat ≤ 126) : s.reqPointList [a, c] =
    s.answerDone (fun t => [byte (min 14 (t.confirmedIn a.toNat c.toNat 255).length),
        if 14 < (t.confirmedIn a.toNat c.toNat 255).length then 1 else 0]
      ++ pointBytes ((t.confirmedIn a.toNat c.toNat 255).take 14)) := by
  refine (if_pos ((validStation_iff _).mpr h)).trans ?_
  refine congrArg s.answerDone (funext fun t => ?_)
  show [byte ((t.confirmedIn a.toNat c.toNat 255).take 14).length,
    flag (decide (14 < (t.confirmedIn a.toNat c.toNat 255).length))] ++ _ = _
  rw [flag_decide, List.length_take]
  rfl

theorem reqPointList_invalid (a c : Byte) (h : ¬ (1 ≤ a.toNat ∧ a.toNat ≤ 126)) :
    s.reqPointList [a, c] = s.answer .badIndex :=
  if_neg fun v => h ((validStation_iff _).mp v)

theorem execute_get (args : List Byte) : s.execute 2 args = s.reqGet args := rfl

theorem reqGet_some {args data : List Byte} (h : s.getData args = some data) :
    s.reqGet args = s.transferDone (decide (s.cursor.mode = .every)) args data := by
  simp [State.reqGet, h]

theorem reqGet_none {args : List Byte} (h : s.getData args = none) : s.reqGet args = s.answer .badRecord := by
  simp [State.reqGet, h]

/-! ## The read encodings -/

theorem causes_code (c : Causes) : c.code = flag c.management + 2 * flag c.alert + 4 * flag c.silence := by
  obtain ⟨m, a, x⟩ := c
  cases m <;> cases a <;> cases x <;> rfl

theorem runState_code : s.runState.code =
    if s.run.inProgress then (if s.run.halting.isSome then 3 else if s.run.causes = .empty then 1 else 2) else 0 := by
  unfold State.runState
  cases s.run.inProgress
  · rfl
  · by_cases halted : s.run.halting.isSome = true
    · simp [halted]; rfl
    · by_cases clear : s.run.causes = .empty
      · simp [halted, clear]; rfl
      · simp [halted, clear]; rfl

theorem countSteps_eq (x : StepState) : s.countSteps x =
    ((List.range 96).filter (fun n => (s.step n).used && decide ((s.entry n).state = x))).length := by
  unfold State.countSteps stepNumbers
  rfl

theorem point_encode (p : PointRecord) : p.encode =
    [byte p.channel, flag p.confirmed.isSome + 2 * flag p.pending.isSome + 4 * flag p.pinned] ++ bytes2 (p.confirmed.getD 0)
      ++ (match p.pending with | some x => bytes2 x.value ++ [x.seq] | none => [0, 0, 0]) := by
  have flags : ∀ a b c : Bool, flag a ||| (flag b <<< 1) ||| (flag c <<< 2) = flag a + 2 * flag b + 4 * flag c := by decide
  unfold PointRecord.encode
  rw [flags] <;> rfl

theorem eventEnables_toList (v : Vector Byte 8) : v.toList = (List.range 8).map (fun g => getAt v g 0) := by
  apply List.ext_getElem
  · simp
  · intro i h _
    have : i < 8 := by simpa using h
    simp [getAt, this]

/-- The reads of the tables at the cursor, each in its encoding of section 1.8. -/
theorem getData_feeds (h : s.cursor.table = .feeds) : s.getData [] = some (
    let f : Feed := if s.cursor.index = 0 then .a else .b
    let r := s.feed f
    bytes2 r.budget ++ bytes2 r.standing
      ++ (match r.measured with | some m => 1 :: bytes2 m | none => [0, 0, 0]) ++ bytes4 r.measuredTime
      ++ [flag (s.metered f), (match r.head with | some n => byte n | none => 255)]
      ++ (match r.waitStart with | some x => bytes4 x | none => [0, 0, 0, 0]) ++ [flag r.foldSaturated]
      ++ [byte ((s.contributions.filter (fun c => c.feed = f)).length)] ++ bytes2 (min 65535 (s.estimate f))) := by
  have read : ∀ f : Feed, s.readFeed f =
      bytes2 (s.feed f).budget ++ bytes2 (s.feed f).standing
        ++ (match (s.feed f).measured with | some m => 1 :: bytes2 m | none => [0, 0, 0]) ++ bytes4 (s.feed f).measuredTime
        ++ [flag (s.metered f), (match (s.feed f).head with | some n => byte n | none => 255)]
        ++ (match (s.feed f).waitStart with | some x => bytes4 x | none => [0, 0, 0, 0]) ++ [flag (s.feed f).foldSaturated]
        ++ [byte ((s.contributions.filter (fun c => c.feed = f)).length)] ++ bytes2 (min 65535 (s.estimate f)) := by
    intro f
    unfold State.readFeed State.contributionsOn
    dsimp only
    cases (s.feed f).measured <;> cases (s.feed f).head <;> cases (s.feed f).waitStart <;> rfl
  simp only [State.getData, h]
  exact congrArg some (read _)

/-- Settles O50: the response of each read, then its ANSWER; the encodings by their definitions. -/
theorem readsAnswerTheRecord : Obligations.ReadsAnswerTheRecord := by
  unfold Obligations.ReadsAnswerTheRecord
  intro s seq h hq
  have quiet : ∀ c : Cursor, State.FQuiet { s.heard with cursor := c } := fun c =>
    FQuiet_congr hq rfl rfl rfl rfl rfl rfl rfl rfl
  refine ⟨fun args data hd => ?get, fun args hd => ?badGet, fun a c => ?pointGet, fun a c => ?pointList, ?runStatus, ?block,
    ?tables, point_encode, fun n => rfl, fun b => rfl, rfl, rfl, rfl, rfl, rfl, rfl, rfl, rfl, rfl, rfl, rfl, rfl⟩
  case get =>
    have moved := movedCursor_eq (s := s.heard) _ args _ (get_moves (s := s.heard) args data hd)
    refine (concluded_ready h seq 2 args _ ((execute_get args).trans (reqGet_some (s := s.heard) hd)) (quiet _) rfl rfl rfl
      rfl).trans ?_
    rw [transferDone_eq, moved]
    rfl
  case badGet => exact concluded_answer h hq seq 2 args .badRecord [] (reqGet_none (s := s.heard) hd)
  case pointGet =>
    split
    · next valid =>
      exact concluded_ready h seq 8 [a, c] _ (reqPointGet_valid (s := s.heard) a c valid) (quiet s.cursor) rfl rfl rfl rfl
    · next invalid => exact concluded_answer h hq seq 8 [a, c] .badIndex [] (reqPointGet_invalid a c invalid)
  case pointList =>
    split
    · next valid =>
      exact concluded_ready h seq 9 [a, c] _ (reqPointList_valid (s := s.heard) a c valid) (quiet s.cursor) rfl rfl rfl rfl
    · next invalid => exact concluded_answer h hq seq 9 [a, c] .badIndex [] (reqPointList_invalid a c invalid)
  case runStatus =>
    exact concluded_ready h seq 28 [] (s.heard.reqRunStatus []) rfl (quiet s.cursor) rfl rfl rfl rfl
  case block =>
    unfold State.runStatusBlock
    rw [runState_code, causes_code]
    simp only [countSteps_eq]
    cases s.run.halting <;> rfl
  case tables =>
    refine ⟨fun t => ?_, fun t => ?_, fun t => ?_, getData_feeds, fun t => ?_, fun t => ?_, fun t => ?_⟩
    all_goals simp only [State.getData, t]
    · unfold State.readStation faultCauseCode State.retained StationConfig.encode
      rfl
    · rfl
    · exact ⟨rfl, rfl⟩
    · rfl
    · rfl
    · rw [← eventEnables_toList]
      rfl

end Sys2Proof.Machine
end

section
/-! SUPPORT. The enumerated codes and the written encodings (section 1.8, R19): which bytes a reader refuses, and what it has read. -/

namespace Sys2Proof.Machine

/-! ## Codes: undefined ones, and the byte that a value is read from -/

theorem byte_of_toNat {b c : Byte} (h : b.toNat = c.toNat) : c = b := (BitVec.eq_of_toNat_eq h).symm

theorem readFlag_none (b : Byte) : readFlag b = none ↔ 1 < b.toNat := by
  unfold readFlag; split <;> simp_all; omega

theorem readRole_none (b : Byte) : readRole b = none ↔ 4 < b.toNat := by
  unfold readRole; split <;> simp_all; omega

theorem readFeedChoice_none (b : Byte) : readFeedChoice b = none ↔ 2 < b.toNat := by
  unfold readFeedChoice; split <;> simp_all; omega

theorem readHoldPolicy_none (b : Byte) : readHoldPolicy b = none ↔ 2 < b.toNat := by
  unfold readHoldPolicy; split <;> simp_all; omega

theorem readAction_none (b : Byte) : readAction b = none ↔ b.toNat = 0 ∨ 6 < b.toNat := by
  unfold readAction; split <;> simp_all; omega

theorem readCriticality_none (b : Byte) : readCriticality b = none ↔ 1 < b.toNat := by
  unfold readCriticality; split <;> simp_all; omega

theorem readSilenceResponse_none (b : Byte) : readSilenceResponse b = none ↔ 1 < b.toNat := by
  unfold readSilenceResponse; split <;> simp_all; omega

theorem readFlag_flag (x : Bool) : readFlag (flag x) = some x := by cases x <;> rfl

theorem readRole_code (x : Role) : readRole x.code = some x := by cases x <;> rfl

theorem readFeedChoice_code (x : FeedChoice) : readFeedChoice x.code = some x := by cases x <;> rfl

theorem readHoldPolicy_code (x : HoldPolicy) : readHoldPolicy x.code = some x := by cases x <;> rfl

theorem readAction_code (x : Action) : readAction (actionCode (some x)) = some x := by cases x <;> rfl

theorem readCriticality_code (x : Criticality) : readCriticality x.code = some x := by cases x <;> rfl

theorem readPayloadKind_code (x : PayloadKind) : readPayloadKind x.code = some x := by cases x <;> rfl

theorem readSilenceResponse_code (x : SilenceResponse) : readSilenceResponse x.code = some x := by cases x <;> rfl

theorem flag_of_readFlag {b : Byte} {x : Bool} (h : readFlag b = some x) : flag x = b := by
  unfold readFlag at h
  split at h <;> cases h <;> exact byte_of_toNat (by assumption)

theorem code_of_readAction {b : Byte} {x : Action} (h : readAction b = some x) : actionCode (some x) = b := by
  unfold readAction at h
  split at h <;> cases h <;> exact byte_of_toNat (by assumption)

theorem code_of_readFeedChoice {b : Byte} {x : FeedChoice} (h : readFeedChoice b = some x) : x.code = b := by
  unfold readFeedChoice at h
  split at h <;> cases h <;> exact byte_of_toNat (by assumption)

theorem code_of_readCriticality {b : Byte} {x : Criticality} (h : readCriticality b = some x) : x.code = b := by
  unfold readCriticality at h
  split at h <;> cases h <;> exact byte_of_toNat (by assumption)

theorem code_of_readPayloadKind {b : Byte} {x : PayloadKind} (h : readPayloadKind b = some x) : x.code = b := by
  unfold readPayloadKind at h
  split at h <;> cases h <;> exact byte_of_toNat (by assumption)

theorem readFlag_some (b : Byte) (x : Bool) : readFlag b = some x ↔ flag x = b :=
  ⟨flag_of_readFlag, fun h => h ▸ readFlag_flag x⟩

theorem readPayloadKind_some (b : Byte) (x : PayloadKind) : readPayloadKind b = some x ↔ x.code = b :=
  ⟨code_of_readPayloadKind, fun h => h ▸ readPayloadKind_code x⟩

/-! ## The written STATIONS and SETTINGS records -/

theorem readStationConfig_none (args : List Byte) : readStationConfig args = none ↔
    args.length ≠ 7 ∨ 4 < (args.getD 0 0).toNat ∨ 2 < (args.getD 1 0).toNat ∨ 2 < (args.getD 3 0).toNat
      ∨ 1 < (args.getD 6 0).toNat := by
  by_cases h : args.length = 7
  · match args, h with
    | [role, feed, channel, policy, hold, retention, auto], _ =>
      show readStationConfig [role, feed, channel, policy, hold, retention, auto] = none ↔
        7 ≠ 7 ∨ 4 < role.toNat ∨ 2 < feed.toNat ∨ 2 < policy.toNat ∨ 1 < auto.toNat
      rw [← readRole_none, ← readFeedChoice_none, ← readHoldPolicy_none, ← readFlag_none]
      cases h1 : readRole role <;> cases h2 : readFeedChoice feed <;> cases h3 : readHoldPolicy policy <;>
        cases h4 : readFlag auto <;> simp [readStationConfig, h1, h2, h3, h4]
  · refine ⟨fun _ => .inl h, fun _ => ?_⟩
    unfold readStationConfig
    split
    · exact absurd rfl h
    · rfl

theorem readSettings_none (args : List Byte) : readSettings args = none ↔
    args.length ≠ 15 ∨ 1 < (args.getD 1 0).toNat := by
  by_cases h : args.length = 15
  · match args, h with
    | [time, response, spacing, stormH, stormL, limit, groups, e0, e1, e2, e3, e4, e5, e6, e7], _ =>
      show readSettings [time, response, spacing, stormH, stormL, limit, groups, e0, e1, e2, e3, e4, e5, e6, e7] = none ↔
        15 ≠ 15 ∨ 1 < response.toNat
      rw [← readSilenceResponse_none]
      cases h1 : readSilenceResponse response <;> simp [readSettings, h1]
  · refine ⟨fun _ => .inl h, fun _ => ?_⟩
    unfold readSettings
    split
    · exact absurd rfl h
    · rfl

/-- The enables that a SETTINGS write stores: none at a position without an event (R182). -/
theorem clamp_eventEnables (t : Settings) (g : Nat) (h : g < 8) :
    getAt t.clamp.eventEnables g 0 = getAt t.eventEnables g 0 &&& getAt Settings.allEvents g 0 := by
  show getAt (tableOf 8 (List.zipWith (fun e m => e &&& m) t.eventEnables.toList Settings.allEvents.toList) 0) g 0 = _
  rw [getAt_tableOf _ _ _ _ h, List.getD_eq_getElem _ _ (by simpa using h)]
  simp [getAt, h]

/-! ## The written PLAN record (R99) -/

theorem readStep_none (args : List Byte) : readStep args = none ↔
    args.length ≠ 26 ∨ 1 < (args.getD 0 0).toNat ∨ (args.getD 2 0).toNat = 0 ∨ 6 < (args.getD 2 0).toNat
      ∨ 2 < (args.getD 14 0).toNat ∨ 1 < (args.getD 24 0).toNat := by
  by_cases h : args.length = 26
  · match args, h with
    | [used, station, action, p0, p1, p2, p3, p4, p5, count, q0, q1, q2, q3, feed, peakH, peakL, steadyH, steadyL, ramp,
        settleH, settleL, timeout, retries, crit, mask], _ =>
      show readStep [used, station, action, p0, p1, p2, p3, p4, p5, count, q0, q1, q2, q3, feed, peakH, peakL, steadyH, steadyL,
        ramp, settleH, settleL, timeout, retries, crit, mask] = none ↔
        26 ≠ 26 ∨ 1 < used.toNat ∨ action.toNat = 0 ∨ 6 < action.toNat ∨ 2 < feed.toNat ∨ 1 < crit.toNat
      rw [← or_assoc (a := action.toNat = 0), ← readFlag_none, ← readAction_none, ← readFeedChoice_none, ← readCriticality_none]
      cases h1 : readFlag used <;> cases h2 : readAction action <;> cases h3 : readFeedChoice feed <;>
        cases h4 : readCriticality crit <;> simp [readStep, h1, h2, h3, h4]
  · refine ⟨fun _ => .inl h, fun _ => ?_⟩
    unfold readStep
    split
    · exact absurd rfl h
    · rfl

/-- Within the count the stored predecessors are the bytes written. -/
theorem storedPredecessors_take (count : Nat) (ps : List Byte) (h : ps.length = 4) :
    (storedPredecessors count ps).take count = (ps.map BitVec.toNat).take count := by
  unfold storedPredecessors
  rw [List.map_take, List.take_append, List.take_take, Nat.min_self]
  by_cases few : count ≤ 4
  · simp [h, few]
  · simp [Nat.sub_eq_zero_of_le (show 4 ≤ count by omega)]

/-- The fields that a PLAN record was read from. -/
theorem readStep_some (args : List Byte) (r : StepRecord) (h : readStep args = some r) :
    let b (i : Nat) : Nat := (args.getD i 0).toNat
    flag r.used = args.getD 0 0 ∧ r.station = b 1 ∧ actionCode r.action = args.getD 2 0 ∧ r.params = (args.drop 3).take 6
      ∧ r.predCount = b 9 ∧ r.predecessors.take r.predCount = (((args.drop 10).take 4).map BitVec.toNat).take (b 9)
      ∧ r.feed.code = args.getD 14 0 ∧ r.peak = b 15 * 256 + b 16 ∧ r.steady = b 17 * 256 + b 18 ∧ r.ramp = b 19
      ∧ r.settle = b 20 * 256 + b 21 ∧ r.replyTimeout = b 22 ∧ r.retries = b 23 ∧ r.criticality.code = args.getD 24 0
      ∧ r.causeMask = args.getD 25 0 := by
  unfold readStep at h
  split at h
  · simp only [Option.bind_eq_bind, Option.bind_eq_some_iff, Option.pure_def, Option.some.injEq] at h
    obtain ⟨used, hu, action, ha, feed, hf, crit, hc, rfl⟩ := h
    exact ⟨flag_of_readFlag hu, rfl, code_of_readAction ha, rfl, rfl, storedPredecessors_take _ _ rfl,
      code_of_readFeedChoice hf, rfl, rfl, rfl, rfl, rfl, rfl, code_of_readCriticality hc, rfl⟩
  · cases h

theorem clampParams_eq (action : Option Action) (params : List Byte) : clampParams action params =
    if action = some .await ∧ params.length = 6 ∧ params.getD 5 0 = 0 then params.take 5 ++ [1] else params := by
  unfold clampParams
  split
  · next c lh ll hh hl limit =>
    by_cases zero : limit = 0#8 <;> simp [zero]
  · next h =>
    rw [if_neg]
    rintro ⟨rfl, length, _⟩
    match params, length, h with
    | [c, lh, ll, hh, hl, limit], _, h => exact h c lh ll hh hl limit rfl rfl

theorem clamp_step (r : StepRecord) : r.clamp = { r with
    params := if r.action = some .await ∧ r.params.length = 6 ∧ r.params.getD 5 0 = 0 then r.params.take 5 ++ [1] else r.params
    peak := min r.peak 16383
    steady := min r.steady (min r.peak 16383)
    ramp := max r.ramp 1
    settle := min r.settle 600
    replyTimeout := max r.replyTimeout 1
    retries := min r.retries 3 } := by
  rw [← clampParams_eq]
  rfl

theorem badRecord_iff (r : StepRecord) (n : Nat) : r.badRecord n = true ↔ r.used = true ∧
    (r.station = 0 ∨ 126 < r.station ∨ 4 < r.predCount ∨ (∃ p ∈ r.predecessors.take r.predCount, n ≤ p)
      ∨ ((r.action = some .release ∨ r.action = some .mark) ∧ r.feed ≠ .none)
      ∨ ((r.action = some .fixedSet ∨ r.action = some .order) ∧ 63 < (r.params.getD 0 0).toNat)) := by
  simp only [StepRecord.badRecord, StepRecord.preds, Bool.and_eq_true, Bool.or_eq_true, decide_eq_true_eq, List.any_eq_true,
    or_assoc]
  exact Iff.rfl

/-! ## The written PAYLOAD parts (R20, R100) -/

/-- Part 0 writes the used flag, the kind, the length and the first 24 data bytes; part 1 the other 24. -/
theorem writePayload_some (old : PayloadRecord) (args : List Byte) (p : PayloadRecord) : writePayload old args = some p ↔
    (args.length = 28 ∧ args.getD 0 0 = 0 ∧ flag p.used = args.getD 1 0 ∧ p.kind.code = args.getD 2 0
      ∧ p.length = min (args.getD 3 0).toNat 48 ∧ p.data = args.drop 4 ++ old.data.drop 24)
    ∨ (args.length = 25 ∧ args.getD 0 0 = 1 ∧ p = { old with data := old.data.take 24 ++ args.drop 1 }) := by
  have toNat_zero : ∀ b : Byte, b.toNat = 0 ↔ b = 0 := fun b =>
    ⟨fun h => BitVec.eq_of_toNat_eq h, fun h => h ▸ rfl⟩
  have toNat_one : ∀ b : Byte, b.toNat = 1 ↔ b = 1 := fun b =>
    ⟨fun h => BitVec.eq_of_toNat_eq h, fun h => h ▸ rfl⟩
  cases args with
  | nil => simp [writePayload]
  | cons part rest =>
    have zero_one : (0 : Byte) ≠ 1 := by decide
    unfold writePayload
    dsimp only
    split
    · next h =>
      rw [toNat_zero] at h
      subst h
      split
      · next used kind len data =>
        split
        · next hl =>
          simp only [Option.bind_eq_bind, Option.bind_eq_some_iff, Option.pure_def, Option.some.injEq, readFlag_some,
            readPayloadKind_some]
          constructor
          · rintro ⟨u, hu, k, hk, rfl⟩
            exact .inl ⟨by simp [hl], rfl, hu, hk, rfl, rfl⟩
          · rintro (⟨-, -, hu, hk, hlen, hd⟩ | ⟨-, h1, -⟩)
            · refine ⟨p.used, hu, p.kind, hk, ?_⟩
              obtain ⟨used', kind', length', data'⟩ := p
              simp only at hlen hd
              rw [hlen, hd]
              rfl
            · exact absurd h1 zero_one
        · next hl =>
          refine ⟨fun h => (by cases h), ?_⟩
          rintro (⟨h28, -⟩ | ⟨-, h1, -⟩)
          · simp only [List.length_cons] at h28
            omega
          · exact absurd h1 zero_one
      · next short =>
        refine ⟨fun h => (by cases h), ?_⟩
        rintro (⟨h28, -⟩ | ⟨-, h1, -⟩)
        · match rest, h28, short with
          | _ :: _ :: _ :: _, _, short => exact absurd rfl (short _ _ _ _)
        · exact absurd h1 zero_one
    · next h =>
      rw [toNat_one] at h
      subst h
      split
      · next hl =>
        constructor
        · rintro h
          cases h
          exact .inr ⟨by simp [hl], rfl, rfl⟩
        · rintro (⟨-, h0, -⟩ | ⟨-, -, hp⟩)
          · exact absurd h0.symm zero_one
          · rw [hp]; rfl
      · next hl =>
        refine ⟨fun h => (by cases h), ?_⟩
        rintro (⟨-, h0, -⟩ | ⟨h25, -, -⟩)
        · exact absurd h0.symm zero_one
        · simp only [List.length_cons] at h25
          omega
    · next h0 h1 =>
      refine ⟨fun h => (by cases h), ?_⟩
      rintro (⟨-, hp, -⟩ | ⟨-, hp, -⟩)
      · exact absurd ((toNat_zero part).mpr hp) h0
      · exact absurd ((toNat_one part).mpr hp) h1

end Sys2Proof.Machine
end

section
/-! SUPPORT. The PUTs (R57, R58, R99, R100, R179, R181, R182): their tests in order, what they write, and the statements about them. -/

namespace Sys2Proof.Machine

variable {s : State}

/-! ## What the NOTICE and the S-port's choice leave -/

/-- The NOTICE and the S-port's choice write the upward side alone. -/
theorem noticed_up (t : State) (b : Bool) : (t.testNotice b).sArbiter =
    { t with passUp := (t.testNotice b).sArbiter.passUp, replies := (t.testNotice b).sArbiter.replies
             replyGuard := (t.testNotice b).sArbiter.replyGuard, noticeSlot := (t.testNotice b).sArbiter.noticeSlot
             noticeNumber := (t.testNotice b).sArbiter.noticeNumber, wireS := (t.testNotice b).sArbiter.wireS } := by
  unfold State.testNotice
  split
  all_goals
    unfold State.sArbiter State.sChoose State.sendReply State.sendPassUp State.sendNotice
    repeat' split
    all_goals rfl

/-- The S-port's choice on a busy port leaves the replies. -/
theorem sArbiter_replies {t : State} (h : t.SBusy) : t.sArbiter.replies = t.replies := by rw [sArbiter_busy t h]

/-! ## The cursor of a PUT -/

/-- A cursor in its range is moved by 1, or from the last index to the first with the mark (R179). -/
theorem movedCursor_inRange (b : Bool) (args : List Byte) (moves : Prop) [Decidable moves] (hr : s.cursor.InRange)
    (h : (b && s.transferMoves args) = true ↔ moves) : s.movedCursor b args =
      ({ s.cursor with index := if moves then (if s.cursor.index = s.cursor.table.range.2 then s.cursor.table.range.1
                                               else s.cursor.index + 1) else s.cursor.index },
        decide (moves ∧ s.cursor.index = s.cursor.table.range.2)) := by
  have last : s.cursor.table.range.2 ≤ s.cursor.index ↔ s.cursor.index = s.cursor.table.range.2 :=
    ⟨fun k => le_antisymm hr.2 k, fun k => k.ge⟩
  rw [movedCursor_eq b args moves h]
  by_cases m : moves <;> simp [m, last]

/-- A PUT moves the cursor unless its mode is NONE, on PAYLOAD only after the record's last part (R20, R179). -/
theorem put_moves (args : List Byte) : (decide (s.cursor.mode ≠ .none) && s.transferMoves args) = true ↔
    s.cursor.mode ≠ .none ∧ (s.cursor.table = .payload → args.headD 0 = 1 ∨ (s.payload s.cursor.index).length ≤ 24) := by
  unfold State.transferMoves
  split
  · next table => simp only [Bool.and_eq_true, Bool.or_eq_true, decide_eq_true_eq, table, true_implies]
  · next table =>
    simp only [Bool.and_true, decide_eq_true_eq]
    exact ⟨fun mode => ⟨mode, fun payload => absurd payload table⟩, And.left⟩

theorem putDone_eq (args : List Byte) : s.putDone args = s.transferDone (decide (s.cursor.mode ≠ .none)) args [] := rfl

/-- The cursor after a PUT at a table other than PAYLOAD. -/
theorem movedCursor_put (args : List Byte) (hr : s.cursor.InRange) (ht : s.cursor.table ≠ .payload) :
    s.movedCursor (decide (s.cursor.mode ≠ .none)) args =
      ({ s.cursor with index := if s.cursor.mode = .none then s.cursor.index
                                else if s.cursor.index = s.cursor.table.range.2 then s.cursor.table.range.1
                                else s.cursor.index + 1 },
        decide (s.cursor.mode ≠ .none ∧ s.cursor.index = s.cursor.table.range.2)) := by
  have moves : (decide (s.cursor.mode ≠ .none) && s.transferMoves args) = true ↔ s.cursor.mode ≠ .none :=
    (put_moves args).trans ⟨And.left, fun m => ⟨m, fun c => absurd c ht⟩⟩
  rw [movedCursor_inRange _ args _ hr moves]
  by_cases mode : s.cursor.mode = .none <;> simp [mode]

/-! ## A PUT that is turned away -/

/-- A request that is refused for a reason changes nothing (R177). -/
theorem concluded_refused (h : Ready s) (hq : s.FQuiet) (seq code : Byte) (args : List Byte) (reason : Reason)
    (hr : s.heard.execute code args = s.heard.refuseFor reason) :
    s.concluded (s.requestArrival seq (code :: args)) = .next (s.answered seq code .refused false reason.bytes).sArbiter :=
  concluded_answer h hq seq code args .refused reason.bytes hr

/-- A request that is answered with a status alone changes nothing (R177). -/
theorem concluded_status (h : Ready s) (hq : s.FQuiet) (seq code : Byte) (args : List Byte) (status : Status)
    (hr : s.heard.execute code args = s.heard.answer status) :
    s.concluded (s.requestArrival seq (code :: args)) = .next (s.answered seq code status false []).sArbiter :=
  concluded_answer h hq seq code args status [] hr

/-! ## PUT at STATIONS (R57, R58) -/

theorem reqPut_stations (ht : s.cursor.table = .stations) (args : List Byte) : s.reqPut args = s.putStations args := by
  simp [State.reqPut, ht]

section
variable {args : List Byte} {c : StationConfig} (hc : readStationConfig args = some c)
include hc

theorem putStations_storing (h : s.storing.isSome = true) : s.putStations args = s.refuseFor .storing := by
  simp [State.putStations, hc, h]

theorem putStations_busy (h : s.storing = none) (role : c.role ≠ (s.station s.cursor.index).config.role)
    (online : (s.station s.cursor.index).state ≠ .online) (unlisted : (s.station s.cursor.index).state ≠ .unlisted) :
    s.putStations args = s.refuseFor .stationBusy := by
  simp [State.putStations, hc, h, role, online, unlisted]

theorem putStations_writes (h : s.storing = none) (free : c.role = (s.station s.cursor.index).config.role
      ∨ (s.station s.cursor.index).state = .online ∨ (s.station s.cursor.index).state = .unlisted) :
    s.putStations args = (s.setStation s.cursor.index { s.station s.cursor.index with
      config := c.clamp, state := roleWritten c.role (s.station s.cursor.index).state }).putDone args := by
  unfold State.putStations
  rw [hc]
  dsimp only
  rw [if_neg (by simp [h]), if_neg]
  simp only [Bool.and_eq_true, decide_eq_true_eq, not_and, not_not]
  rintro ⟨role, online⟩
  exact (free.resolve_left role).resolve_left online
end

/-- The state that a role write leaves (R58). -/
theorem roleWritten_eq (role : Role) (x : StationState) : roleWritten role x =
    if role = .none then (if x = .online then .unlisted else x) else if x = .unlisted then .online else x := by
  cases role <;> cases x <;> rfl

/-- A station record written at an address of the table. -/
theorem setStation_pos (a : Nat) (r : StationRecord) (h : 1 ≤ a) :
    s.setStation a r = { s with stations := putAt s.stations (a - 1) r } := by
  cases a with
  | zero => exact absurd h (by decide)
  | succ a => rfl

theorem station_congr {t : State} (h : t.stations = s.stations) (a : Nat) : t.station a = s.station a := by
  cases a <;> simp [State.station, h]

/-! ## A PUT that writes -/

/-- The state after the F-port's choice and the ANSWER of a PUT that has written `w`: the cursor moved, and what the S-port takes. -/
def State.putWritten (w : State) (args : List Byte) (v : State) : State :=
  { w with cursor := (w.movedCursor (decide (w.cursor.mode ≠ .none)) args).1
           passUp := v.passUp, replies := v.replies, replyGuard := v.replyGuard, noticeSlot := v.noticeSlot
           noticeNumber := v.noticeNumber, wireS := v.wireS }

section
variable {w : State} {args : List Byte} (h : Ready s) (seq : Byte) (hr : s.heard.reqPut args = w.putDone args) (hq : w.FQuiet)
  (replies : w.replies = s.replies)
include h hr hq replies

/-- A PUT that writes leaves what it wrote, with the cursor moved. -/
theorem concluded_put : ∃ v, s.concluded (s.requestArrival seq (3 :: args)) = .next (w.putWritten args v) := by
  rw [putDone_eq, transferDone_eq] at hr
  exact ⟨_, (concluded_response h seq 3 args _ hr (FQuiet_congr hq rfl rfl rfl rfl rfl rfl rfl rfl) rfl replies).trans
    (congrArg _ (noticed_up _ _))⟩

/-- A PUT that leaves the SETTINGS and the notices puts its ANSWER at the tail of the reply queue while the S-port sends. -/
theorem concluded_put_replies (settings : w.settings = s.settings) (pending : w.noticePending = s.noticePending)
    (sends : w.SBusy) (t : State) (ht : s.concluded (s.requestArrival seq (3 :: args)) = .next t) :
    t.replies = s.replies ++ [{ isReset := false, frame := (answerFrame seq 3 .done
      (w.movedCursor (decide (w.cursor.mode ≠ .none)) args).2 [w.cursor.table.code, byte w.cursor.index]) }] := by
  rw [putDone_eq, transferDone_eq] at hr
  rw [concluded_ready h seq 3 args _ hr (FQuiet_congr hq rfl rfl rfl rfl rfl rfl rfl rfl) rfl replies settings pending] at ht
  cases ht
  exact sArbiter_replies sends
end

/-! ## The two tables -/

/-- A PUT at STATIONS that passes its tests. -/
theorem putStations_effect (h : Ready s) (busy : s.FBusy) (ht : s.cursor.table = .stations) (hr : s.cursor.InRange) (seq : Byte)
    {args : List Byte} {c : StationConfig} (hc : readStationConfig args = some c) (hs : s.storing = none)
    (free : c.role = (s.station s.cursor.index).config.role ∨ (s.station s.cursor.index).state = .online
      ∨ (s.station s.cursor.index).state = .unlisted) :
    ∃ t, exec (.putStations seq args) s = .next t
      ∧ t.station s.cursor.index = { s.station s.cursor.index with
          config := c.clamp, state := roleWritten c.role (s.station s.cursor.index).state }
      ∧ (∀ b, b ≠ s.cursor.index → t.station b = s.station b)
      ∧ t.cursor = { s.cursor with index := if s.cursor.mode = .none then s.cursor.index
                                            else if s.cursor.index = 126 then 1 else s.cursor.index + 1 }
      ∧ t.points = s.points ∧ t.queues = s.queues ∧ t.plan = s.plan
      ∧ t.run = s.run ∧ t.settings = s.settings ∧ t.counters = s.counters
      ∧ (s.SBusy → t.replies = s.replies ++ [{ isReset := false, frame := (answerFrame seq 3 .done
          (decide (s.cursor.mode ≠ .none ∧ s.cursor.index = 126)) [1, byte s.cursor.index]) }]) := by
  have range : 1 ≤ s.cursor.index ∧ s.cursor.index ≤ 126 := by simpa [Cursor.InRange, ht, Table.range] using hr
  obtain ⟨w, hw⟩ : ∃ w, w = s.heard.setStation s.cursor.index { s.heard.station s.cursor.index with
      config := c.clamp, state := roleWritten c.role (s.heard.station s.cursor.index).state } := ⟨_, rfl⟩
  have wrote : s.heard.reqPut args = w.putDone args :=
    hw ▸ (reqPut_stations (s := s.heard) ht args).trans (putStations_writes (s := s.heard) hc hs free)
  have station : ∀ b, w.station b = if s.cursor.index = b ∧ validStation b = true then { s.station s.cursor.index with
      config := c.clamp, state := roleWritten c.role (s.station s.cursor.index).state } else s.station b := fun b =>
    hw ▸ setStation_station s.heard s.cursor.index b _
  rw [setStation_pos _ _ range.1] at hw
  have cursor : w.cursor = s.cursor := by rw [hw]; rfl
  have moved := movedCursor_put (s := w) args (cursor ▸ hr) (by rw [cursor, ht]; decide)
  rw [cursor, ht] at moved
  have quiet : w.FQuiet := .inl (by subst hw; exact busy)
  obtain ⟨v, done⟩ := concluded_put h seq wrote quiet (by rw [hw]; rfl)
  have same : ∀ b, (w.putWritten args v).station b = w.station b := station_congr (s := w) rfl
  refine ⟨_, done, ?_, fun b other => ?_, ?_, ?_, ?_, ?_, ?_, ?_, ?_, fun sends => ?_⟩
  · rw [same, station, if_pos ⟨rfl, (validStation_iff _).2 range⟩]
  · rw [same, station, if_neg fun this => other this.1.symm]
  · show (w.movedCursor (decide (w.cursor.mode ≠ .none)) args).1 = _
    rw [cursor, moved]
    rfl
  · exact hw ▸ rfl
  · exact hw ▸ rfl
  · exact hw ▸ rfl
  · exact hw ▸ rfl
  · exact hw ▸ rfl
  · exact hw ▸ rfl
  · rw [concluded_put_replies h seq wrote quiet (by rw [hw]; rfl) (by rw [hw]; rfl) (by rw [hw]; rfl)
      (by subst hw; exact sends) _ done, cursor, moved, ht]
    rfl

theorem reqPut_settings (ht : s.cursor.table = .settings) (args : List Byte) : s.reqPut args = s.putSettings args := by
  simp [State.reqPut, ht]

/-- A PUT at SETTINGS that passes its tests. -/
theorem putSettings_effect (h : Ready s) (hq : s.FQuiet) (ht : s.cursor.table = .settings) (seq : Byte)
    {args : List Byte} {x : Settings} (hx : readSettings args = some x) (hs : s.storing = none) :
    ∃ v, exec (.putSettings seq args) s = .next (State.putWritten { s.heard with settings := x.clamp } args v) := by
  refine concluded_put h seq ((reqPut_settings (s := s.heard) ht args).trans ?_)
    (FQuiet_congr hq rfl rfl rfl rfl rfl rfl rfl rfl) rfl
  unfold State.putSettings
  rw [hx]
  have idle : s.heard.storing.isSome = false := by show s.storing.isSome = false; rw [hs]; rfl
  simp [idle]

/-- The three read-only tables have no written encoding (R181). -/
theorem reqPut_readOnly (args : List Byte) (h : s.cursor.table = .feeds ∨ s.cursor.table = .history ∨ s.cursor.table = .stepState) :
    s.reqPut args = s.answer .badRecord := by
  rcases h with h | h | h <;> simp [State.reqPut, h]

/-- Settles O52: the tests of each PUT in their order, then what it writes. -/
theorem putWritesStationsAndSettings : Obligations.PutWritesStationsAndSettings := by
  unfold Obligations.PutWritesStationsAndSettings
  refine ⟨fun s seq args h busy ht hr => ⟨fun hc => ?badStation, fun c hc => ⟨fun hs => ?storing, fun hs role online unlisted =>
      ?roleChange, fun hs free => ?written⟩⟩, fun s seq args h hq => ⟨fun ht => ⟨fun hx => ?badSettings, fun x hx =>
      ⟨fun hs => ?storingSettings, fun hs => ?settings⟩⟩, fun ht => ?readOnly⟩, readStationConfig_none, readSettings_none⟩
  case badStation =>
    refine concluded_status h (.inl busy) seq 3 args .badRecord ((reqPut_stations (s := s.heard) ht args).trans ?_)
    simp [State.putStations, hc]
  case storing =>
    exact concluded_refused h (.inl busy) seq 3 args .storing
      ((reqPut_stations (s := s.heard) ht args).trans (putStations_storing hc hs))
  case roleChange =>
    exact concluded_refused h (.inl busy) seq 3 args .stationBusy
      ((reqPut_stations (s := s.heard) ht args).trans (putStations_busy (s := s.heard) hc hs role online unlisted))
  case written =>
    simp only [← roleWritten_eq]
    exact putStations_effect h busy ht hr seq hc hs free
  case badSettings =>
    refine concluded_status h hq seq 3 args .badRecord ((reqPut_settings (s := s.heard) ht args).trans ?_)
    simp [State.putSettings, hx]
  case storingSettings =>
    refine concluded_refused h hq seq 3 args .storing ((reqPut_settings (s := s.heard) ht args).trans ?_)
    have idle : s.heard.storing.isSome = true := hs
    simp [State.putSettings, hx, idle]
  case settings =>
    obtain ⟨v, done⟩ := putSettings_effect h hq ht seq hx hs
    exact ⟨_, done, rfl, rfl, rfl, rfl, rfl, rfl, clamp_eventEnables x, rfl, rfl, rfl, rfl, rfl, rfl, rfl, rfl⟩
  case readOnly => exact concluded_status h hq seq 3 args .badRecord (reqPut_readOnly (s := s.heard) args ht)

end Sys2Proof.Machine
end

section
/-! SUPPORT. The PUTs at PLAN and at PAYLOAD (R99, R100): their tests in order and what they write. -/

namespace Sys2Proof.Machine

variable {s : State}

/-- A PLAN step written with its state entry reset touches the plan, the entries and the feeds' heads, nothing that `State.core`
keeps besides. -/
theorem setEntry_written (n : Nat) (r : StepRecord) (e : StepEntry) :
    (State.setEntry { s with plan := putAt s.plan n r } n e).core = { s.core with plan := putAt s.plan n r } := setEntry_core _ n e

section
variable {args : List Byte}

theorem reqPut_plan (ht : s.cursor.table = .plan) : s.reqPut args = s.putPlan args := by simp [State.reqPut, ht]

theorem reqPut_payload (ht : s.cursor.table = .payload) : s.reqPut args = s.putPayload args := by simp [State.reqPut, ht]

theorem putPlan_storing {r : StepRecord} (hr : readStep args = some r) (hs : s.storing.isSome = true) :
    s.putPlan args = s.refuseFor .storing := by
  simp [State.putPlan, hr, hs]

theorem putPlan_active {r : StepRecord} (hr : readStep args = some r) (hs : s.storing = none) (run : s.run.inProgress = true) :
    s.putPlan args = s.refuseFor .runActive := by
  simp [State.putPlan, hr, hs, run]

theorem putPlan_bad {r : StepRecord} (hr : readStep args = some r) (hs : s.storing = none) (run : s.run.inProgress = false)
    (bad : r.badRecord s.cursor.index = true) : s.putPlan args = s.answer .badRecord := by
  simp [State.putPlan, hr, hs, run, bad]

theorem putPlan_writes {r : StepRecord} (hr : readStep args = some r) (hs : s.storing = none) (run : s.run.inProgress = false)
    (good : r.badRecord s.cursor.index = false) : s.putPlan args =
      (State.setEntry { s with plan := putAt s.plan s.cursor.index r.clamp } s.cursor.index .reset).putDone args := by
  simp [State.putPlan, hr, hs, run, good]

theorem putPayload_storing {p : PayloadRecord} (hp : writePayload (s.payload s.cursor.index) args = some p)
    (hs : s.storing.isSome = true) : s.putPayload args = s.refuseFor .storing := by
  simp [State.putPayload, hp, hs]

theorem putPayload_active {p : PayloadRecord} (hp : writePayload (s.payload s.cursor.index) args = some p)
    (hs : s.storing = none) (run : s.run.inProgress = true) : s.putPayload args = s.refuseFor .runActive := by
  simp [State.putPayload, hp, hs, run]

theorem putPayload_writes {p : PayloadRecord} (hp : writePayload (s.payload s.cursor.index) args = some p)
    (hs : s.storing = none) (run : s.run.inProgress = false) : s.putPayload args =
      State.putDone { s with payloads := putAt s.payloads s.cursor.index p } args := by
  simp [State.putPayload, hp, hs, run]
end

/-! ## What they write -/

/-- A PUT at PLAN that passes its tests. -/
theorem putPlan_effect (h : Ready s) (busy : s.FBusy) (ht : s.cursor.table = .plan) (range : s.cursor.InRange) (seq : Byte)
    {args : List Byte} {r : StepRecord} (hr : readStep args = some r) (hs : s.storing = none) (run : s.run.inProgress = false)
    (good : r.badRecord s.cursor.index = false) :
    ∃ t, exec (.putPlan seq args) s = .next t ∧ t.step s.cursor.index = r.clamp
      ∧ (∀ m, m ≠ s.cursor.index → t.step m = s.step m ∧ t.entry m = s.entry m)
      ∧ t.entry s.cursor.index = .reset ∧ t.payloads = s.payloads ∧ t.stations = s.stations ∧ t.points = s.points
      ∧ t.counters = s.counters ∧ t.run = s.run ∧ t.slots = s.slots
      ∧ t.cursor.index = (if s.cursor.mode = .none then s.cursor.index
          else if s.cursor.index = 95 then 0 else s.cursor.index + 1) := by
  have last : s.cursor.index < 96 := by
    have := range.2
    rw [ht] at this
    exact Nat.lt_succ_of_le this
  obtain ⟨w, hw⟩ : ∃ w, w = State.setEntry { s.heard with plan := putAt s.plan s.cursor.index r.clamp } s.cursor.index .reset :=
    ⟨_, rfl⟩
  have wrote : s.heard.reqPut args = w.putDone args :=
    hw ▸ (reqPut_plan (s := s.heard) ht).trans (putPlan_writes (s := s.heard) hr hs run good)
  have core : w.core = _ := hw ▸ setEntry_written (s := s.heard) s.cursor.index r.clamp .reset
  have plan : w.plan = putAt s.plan s.cursor.index r.clamp := hw ▸ setEntry_plan _ _ _
  have cursor : w.cursor = s.cursor := (congrArg State.cursor core).trans rfl
  have moved := movedCursor_put (s := w) args (cursor ▸ range) (by rw [cursor, ht]; decide)
  rw [cursor, ht] at moved
  have wire : w.wireF = s.wireF := (congrArg State.wireF core).trans rfl
  have quiet : w.FQuiet := .inl (by show w.wireF.isSome = true; rw [wire]; exact busy)
  obtain ⟨v, done⟩ := concluded_put h seq wrote quiet ((congrArg State.replies core).trans rfl)
  refine ⟨_, done, ?_, fun m other => ⟨?_, ?_⟩, ?_, (congrArg State.payloads core).trans rfl, hw ▸ setEntry_stations _ _ _,
    (congrArg State.points core).trans rfl, (congrArg State.counters core).trans rfl, hw ▸ setEntry_run _ _ _,
    hw ▸ setEntry_slots _ _ _, ?_⟩
  · show getAt w.plan _ _ = _
    rw [plan, getAt_putAt_self _ _ _ _ last]
  · show getAt w.plan _ _ = _
    rw [plan, getAt_putAt_ne _ _ _ _ _ other.symm]
    rfl
  · show w.entry m = _
    rw [hw, setEntry_entry, if_neg fun this => other this.1.symm]
    rfl
  · show w.entry _ = _
    rw [hw, setEntry_entry, if_pos ⟨rfl, last⟩]
  · show (w.movedCursor (decide (w.cursor.mode ≠ .none)) args).1.index = _
    rw [cursor, moved]
    rfl

/-- A PUT at PAYLOAD that passes its tests. -/
theorem putPayload_effect (h : Ready s) (busy : s.FBusy) (ht : s.cursor.table = .payload) (range : s.cursor.InRange) (seq : Byte)
    {args : List Byte} {p : PayloadRecord} (hp : writePayload (s.payload s.cursor.index) args = some p)
    (hs : s.storing = none) (run : s.run.inProgress = false) :
    ∃ t, exec (.putPayload seq args) s = .next t ∧ t.payload s.cursor.index = p
      ∧ (∀ m, m ≠ s.cursor.index → t.payload m = s.payload m) ∧ t.plan = s.plan ∧ t.entries = s.entries
      ∧ t.stations = s.stations ∧ t.points = s.points ∧ t.counters = s.counters ∧ t.run = s.run
      ∧ t.cursor.index = (if s.cursor.mode ≠ .none ∧ (args.headD 0 = 1 ∨ p.length ≤ 24) then
          (if s.cursor.index = 63 then 0 else s.cursor.index + 1) else s.cursor.index) := by
  have last : s.cursor.index < 64 := by
    have := range.2
    rw [ht] at this
    exact Nat.lt_succ_of_le this
  obtain ⟨w, hw⟩ : ∃ w, w = { s.heard with payloads := putAt s.payloads s.cursor.index p } := ⟨_, rfl⟩
  have wrote : s.heard.reqPut args = w.putDone args :=
    hw ▸ (reqPut_payload (s := s.heard) ht).trans (putPayload_writes (s := s.heard) hp hs run)
  have cursor : w.cursor = s.cursor := by rw [hw]; rfl
  have payload : ∀ m, w.payload m = if s.cursor.index = m ∧ m < 64 then p else s.payload m := fun m =>
    hw ▸ getAt_putAt s.payloads s.cursor.index m p .default
  have moves := put_moves (s := w) args
  rw [cursor, payload, if_pos ⟨rfl, last⟩, ht] at moves
  have moved := movedCursor_inRange (s := w) (decide (s.cursor.mode ≠ .none)) args
    (s.cursor.mode ≠ .none ∧ (args.headD 0 = 1 ∨ p.length ≤ 24)) (cursor ▸ range)
    (moves.trans (and_congr_right fun _ => ⟨fun k => k rfl, fun k _ => k⟩))
  rw [cursor, ht] at moved
  have quiet : w.FQuiet := .inl (by subst hw; exact busy)
  obtain ⟨v, done⟩ := concluded_put h seq wrote quiet (by rw [hw]; rfl)
  refine ⟨_, done, ?_, fun m other => ?_, hw ▸ rfl, hw ▸ rfl, hw ▸ rfl, hw ▸ rfl, hw ▸ rfl, hw ▸ rfl, ?_⟩
  · show w.payload _ = _
    rw [payload, if_pos ⟨rfl, last⟩]
  · show w.payload _ = _
    rw [payload, if_neg fun this => other this.1.symm]
  · show (w.movedCursor (decide (w.cursor.mode ≠ .none)) args).1.index = _
    rw [cursor, moved]
    rfl

/-- Settles O53: the tests of each PUT in their order, then what it writes; the records by their readings. -/
theorem putWritesPlanAndPayload : Obligations.PutWritesPlanAndPayload := by
  unfold Obligations.PutWritesPlanAndPayload
  refine ⟨fun s seq args h busy range => ⟨fun ht => ⟨fun hr => ?badStep, fun r hr => ⟨fun hs => ?storing, fun hs run => ?active,
      fun hs run bad => ?bad, fun hs run good => putPlan_effect h busy ht range seq hr hs run good⟩⟩,
      fun ht => ⟨fun hp => ?badPart, fun p hp => ⟨fun hs => ?storingPart, fun hs run => ?activePart,
      fun hs run => putPayload_effect h busy ht range seq hp hs run⟩⟩⟩, clamp_step, badRecord_iff, readStep_none, readStep_some,
      writePayload_some⟩
  case badStep =>
    refine concluded_status h (.inl busy) seq 3 args .badRecord ((reqPut_plan (s := s.heard) ht).trans ?_)
    simp [State.putPlan, hr]
  case storing =>
    exact concluded_refused h (.inl busy) seq 3 args .storing
      ((reqPut_plan (s := s.heard) ht).trans (putPlan_storing (s := s.heard) hr hs))
  case active =>
    exact concluded_refused h (.inl busy) seq 3 args .runActive
      ((reqPut_plan (s := s.heard) ht).trans (putPlan_active (s := s.heard) hr hs run))
  case bad =>
    exact concluded_status h (.inl busy) seq 3 args .badRecord
      ((reqPut_plan (s := s.heard) ht).trans (putPlan_bad (s := s.heard) hr hs run bad))
  case badPart =>
    refine concluded_status h (.inl busy) seq 3 args .badRecord ((reqPut_payload (s := s.heard) ht).trans ?_)
    have none : writePayload (s.heard.payload s.heard.cursor.index) args = none := hp
    simp [State.putPayload, none]
  case storingPart =>
    exact concluded_refused h (.inl busy) seq 3 args .storing
      ((reqPut_payload (s := s.heard) ht).trans (putPayload_storing (s := s.heard) hp hs))
  case activePart =>
    exact concluded_refused h (.inl busy) seq 3 args .runActive
      ((reqPut_payload (s := s.heard) ht).trans (putPayload_active (s := s.heard) hp hs run))

end Sys2Proof.Machine
end

section
/-! SUPPORT. POINT-PUT and POINT-DROP (R74, R75). POINT-DROP ends with the Run Engine's follow-up, and the follow-up neither reads nor
writes what the REQUEST itself has left at the S-port: it commutes with `State.hearing`. -/

namespace Sys2Proof.Machine

variable {s : State}

/-! ## The S-port's receiver and the silence set, all else kept -/

/-- A state with the S-port's receiver and the silence as given. -/
def State.hearing (s : State) (x : PortState) (y : Silence) : State := { s with portS := x, silence := y }

section
variable (x : PortState) (y : Silence) (n a i : Nat) (f : Feed)

@[simp] theorem station_hearing : (s.hearing x y).station a = s.station a := by cases a <;> rfl
@[simp] theorem queue_hearing : (s.hearing x y).queue a = s.queue a := by cases a <;> rfl
@[simp] theorem step_hearing : (s.hearing x y).step n = s.step n := rfl
@[simp] theorem entry_hearing : (s.hearing x y).entry n = s.entry n := rfl
@[simp] theorem stepState_hearing : (s.hearing x y).stepState n = s.stepState n := rfl
@[simp] theorem stepsOf_hearing : (s.hearing x y).stepsOf a = s.stepsOf a := rfl
@[simp] theorem slot_hearing : (s.hearing x y).slot i = s.slot i := rfl
@[simp] theorem slotOf_hearing : (s.hearing x y).slotOf a = s.slotOf a := rfl
@[simp] theorem run_hearing : (s.hearing x y).run = s.run := rfl
@[simp] theorem bridgeTime_hearing : (s.hearing x y).bridgeTime = s.bridgeTime := rfl
@[simp] theorem feed_hearing : (s.hearing x y).feed f = s.feed f := by cases f <;> rfl
@[simp] theorem headOf_hearing : (s.hearing x y).headOf f = s.headOf f := rfl
@[simp] theorem mayAct_hearing : (s.hearing x y).mayAct n = s.mayAct n := rfl
@[simp] theorem restartCause_hearing : (s.hearing x y).restartCause a = s.restartCause a := by simp [State.restartCause]
@[simp] theorem verdict_hearing : (s.hearing x y).verdict n = s.verdict n := rfl
@[simp] theorem nextFrameless_hearing : (s.hearing x y).nextFrameless = s.nextFrameless := rfl
@[simp] theorem headTested_hearing : (s.hearing x y).headTested n = s.headTested n := rfl
@[simp] theorem estimate_hearing : (s.hearing x y).estimate f = s.estimate f := by
  simp [State.estimate, State.feedBase]; rfl
@[simp] theorem admits_hearing : (s.hearing x y).admits f n = s.admits f n := by simp [State.admits]; rfl
@[simp] theorem eligible_hearing : (s.hearing x y).eligible = s.eligible := by
  funext n
  simp only [State.eligible, mayAct_hearing, step_hearing, headOf_hearing, admits_hearing]
  rfl
@[simp] theorem nextGrant_hearing : (s.hearing x y).nextGrant = s.nextGrant := by
  simp only [State.nextGrant, eligible_hearing]
  rfl
@[simp] theorem inFlight_hearing : (s.hearing x y).inFlight = s.inFlight := rfl
@[simp] theorem membersFinished_hearing : (s.hearing x y).membersFinished = s.membersFinished := by
  simp [State.membersFinished]
@[simp] theorem grantMoment_hearing (t : State) : (s.hearing x y).grantMoment (t.hearing x y) = s.grantMoment t := rfl

/-! ## The operations of the follow-up, in the order of their definitions -/

@[simp] theorem hearing_raise (e : NoticeEvent) : (s.hearing x y).raise e = (s.raise e).hearing x y := rfl
@[simp] theorem hearing_setStation (r : StationRecord) : (s.hearing x y).setStation a r = (s.setStation a r).hearing x y := by
  cases a <;> rfl
@[simp] theorem hearing_updateStation (g : StationRecord → StationRecord) :
    (s.hearing x y).updateStation a g = (s.updateStation a g).hearing x y := by simp [State.updateStation]
@[simp] theorem hearing_clearMembers : (s.hearing x y).clearMembers = s.clearMembers.hearing x y := rfl
@[simp] theorem hearing_setFeedRecord (r : FeedRecord) :
    (s.hearing x y).setFeedRecord f r = (s.setFeedRecord f r).hearing x y := by cases f <;> rfl
@[simp] theorem hearing_syncHead : (s.hearing x y).syncHead f = (s.syncHead f).hearing x y := by
  simp only [State.syncHead, feed_hearing, headOf_hearing, hearing_setFeedRecord]
  split <;> rfl
@[simp] theorem hearing_setEntry (e : StepEntry) : (s.hearing x y).setEntry n e = (s.setEntry n e).hearing x y := by
  have written : ∀ t : State, (t.hearing x y).syncHeads = t.syncHeads.hearing x y := fun t => by simp [State.syncHeads]
  exact written { s with entries := putAt s.entries n e }
@[simp] theorem hearing_setStepState (k : StepState) :
    (s.hearing x y).setStepState n k = (s.setStepState n k).hearing x y := by simp [State.setStepState]
@[simp] theorem hearing_setSlot (r : Option InjectionRecord) : (s.hearing x y).setSlot i r = (s.setSlot i r).hearing x y := rfl
@[simp] theorem hearing_createContribution :
    (s.hearing x y).createContribution f n = (s.createContribution f n).hearing x y := rfl
@[simp] theorem hearing_startClock : (s.hearing x y).startClock n = (s.startClock n).hearing x y := rfl

@[simp] theorem hearing_evaluate : (s.hearing x y).evaluate n = (s.evaluate n).hearing x y := by
  simp only [State.evaluate, stepState_hearing, verdict_hearing, step_hearing, restartCause_hearing, hearing_setStepState]
  split
  · split
    · rfl
    · rfl
    · split <;> rfl
  · rfl

/-- What commutes step by step commutes along a list. -/
theorem foldl_hearing {β : Type} (g : State → β → State) (each : ∀ t b, g (t.hearing x y) b = (g t b).hearing x y) (l : List β) :
    l.foldl g (s.hearing x y) = (l.foldl g s).hearing x y := by
  induction l generalizing s with
  | nil => rfl
  | cons b l ih => rw [List.foldl_cons, List.foldl_cons, each, ih]

@[simp] theorem hearing_evaluateAll : (s.hearing x y).evaluateAll = s.evaluateAll.hearing x y :=
  foldl_hearing x y _ (fun _ _ => hearing_evaluate x y _) _
@[simp] theorem hearing_makeAttempt : (s.hearing x y).makeAttempt i = (s.makeAttempt i).hearing x y := by
  simp only [State.makeAttempt, slot_hearing]
  split <;> rfl
@[simp] theorem hearing_openRecord (k c : Nat) : (s.hearing x y).openRecord i n k c = (s.openRecord i n k c).hearing x y := by
  simp [State.openRecord]
@[simp] theorem hearing_cancelRecord : (s.hearing x y).cancelRecord i = (s.cancelRecord i).hearing x y := by
  simp only [State.cancelRecord, slot_hearing, hearing_setSlot]
  split
  · split
    · rfl
    · split <;> rfl
  · rfl
@[simp] theorem hearing_cancelRecordOf : (s.hearing x y).cancelRecordOf a n = (s.cancelRecordOf a n).hearing x y := by
  simp only [State.cancelRecordOf, slotOf_hearing, slot_hearing, hearing_cancelRecord]
  split
  · split
    · split <;> rfl
    · rfl
  · rfl
@[simp] theorem hearing_leaveStep (d : Bool) : State.leaveStep a d (s.hearing x y) n = (State.leaveStep a d s n).hearing x y := by
  simp only [State.leaveStep, entry_hearing, hearing_setStepState, hearing_cancelRecordOf, hearing_startClock, hearing_setEntry]
  split
  case h_4 => split <;> rfl
  all_goals rfl
@[simp] theorem hearing_leaveSteps (d : Bool) : (s.hearing x y).leaveSteps a d = (s.leaveSteps a d).hearing x y :=
  foldl_hearing x y _ (fun _ _ => hearing_leaveStep x y _ _ _) _
@[simp] theorem hearing_settleStep : (s.hearing x y).settleStep n = (s.settleStep n).hearing x y := by
  simp only [State.settleStep, step_hearing, entry_hearing, hearing_setEntry]
  split <;> rfl
@[simp] theorem hearing_leaveRun (d : Bool) : (s.hearing x y).leaveRun a d = (s.leaveRun a d).hearing x y := by
  simp only [State.leaveRun, station_hearing, hearing_updateStation, run_hearing, hearing_leaveSteps]
  split <;> rfl
@[simp] theorem hearing_drainEnd : (s.hearing x y).drainEnd a = (s.drainEnd a).hearing x y := by
  simp only [State.drainEnd, station_hearing, hearing_updateStation, hearing_raise]
  split <;> simp
@[simp] theorem hearing_checkDrain : (s.hearing x y).checkDrain a = (s.checkDrain a).hearing x y := by
  simp only [State.checkDrain, station_hearing, queue_hearing, hearing_drainEnd]
  split <;> rfl
@[simp] theorem hearing_enterDraining : (s.hearing x y).enterDraining a = (s.enterDraining a).hearing x y := by
  simp only [State.enterDraining, station_hearing, hearing_updateStation, hearing_checkDrain]
  split <;> rfl
@[simp] theorem hearing_completeFrameless : (s.hearing x y).completeFrameless n = (s.completeFrameless n).hearing x y := by
  simp only [State.completeFrameless, step_hearing, hearing_settleStep, hearing_enterDraining]
  split <;> rfl
@[simp] theorem hearing_markWait : (s.hearing x y).markWait f = (s.markWait f).hearing x y := by
  simp only [State.markWait, headOf_hearing, headTested_hearing, admits_hearing, feed_hearing, bridgeTime_hearing,
    hearing_setFeedRecord]
  split
  · split <;> rfl
  · rfl

/-- What a grant of a step with a given record does before its station is taken to RESTORING (R127). -/
def State.issue (s : State) (i n : Nat) (r : StepRecord) : State :=
  ((match r.feed.feed with
    | some f => s.createContribution f n
    | none => s).openRecord i n 0 (if r.action = some Action.restore then r.first else 0)).setStepState n .issued

theorem grant_eq : s.grant i n =
    if ((s.issue i n (s.step n)).station (s.step n).station).state = .held then
      (s.issue i n (s.step n)).updateStation (s.step n).station (fun k => { k with state := .restoring })
    else s.issue i n (s.step n) := rfl

theorem hearing_issue (r : StepRecord) : (s.hearing x y).issue i n r = (s.issue i n r).hearing x y := by
  unfold State.issue
  split
  · rw [hearing_createContribution, hearing_openRecord, hearing_setStepState]
  · rw [hearing_openRecord, hearing_setStepState]

@[simp] theorem hearing_grant : (s.hearing x y).grant i n = (s.grant i n).hearing x y := by
  rw [grant_eq, grant_eq, step_hearing, hearing_issue, station_hearing, hearing_updateStation]
  split <;> rfl

theorem hearing_settleLoop (fuel : Nat) (due : Bool) :
    State.settleLoop fuel due (s.hearing x y) = (State.settleLoop fuel due s).hearing x y := by
  induction fuel generalizing due s with
  | zero => rfl
  | succ k ih =>
    simp only [State.settleLoop, hearing_evaluateAll, grantMoment_hearing, nextFrameless_hearing, hearing_completeFrameless,
      hearing_markWait, nextGrant_hearing, hearing_grant]
    split
    · exact ih _
    · split
      · split
        · exact ih _
        · rfl
      · rfl

@[simp] theorem hearing_drainMembers : (s.hearing x y).drainMembers = s.drainMembers.hearing x y := by
  simp only [State.drainMembers, station_hearing]
  rw [foldl_hearing x y _ fun _ _ => hearing_enterDraining x y _, hearing_clearMembers]
@[simp] theorem hearing_closeRun (o : RunOutcome) : (s.hearing x y).closeRun o = (s.closeRun o).hearing x y := rfl
@[simp] theorem hearing_testRunEnd : (s.hearing x y).testRunEnd = s.testRunEnd.hearing x y := by
  simp only [State.testRunEnd, State.endRun, run_hearing, inFlight_hearing, membersFinished_hearing, stepState_hearing,
    hearing_drainMembers, hearing_closeRun]
  split <;> rfl

/-- The Run Engine's follow-up neither reads nor writes the S-port's receiver and the silence. -/
theorem hearing_followUp (due : Bool) : State.followUp due (s.hearing x y) = (State.followUp due s).hearing x y := by
  simp only [State.followUp, run_hearing, hearing_settleLoop, hearing_testRunEnd]
  split <;> rfl
end

/-! ## POINT-PUT (R74) -/

section
variable {a c hi lo pin : Byte}

theorem reqPointPut_unread (h : 1 < pin.toNat) : s.reqPointPut [a, c, hi, lo, pin] = s.answer .badRecord := by
  simp [State.reqPointPut, (readFlag_none pin).2 h]

variable {pinned : Bool} (read : readFlag pin = some pinned)
include read

theorem reqPointPut_invalid (h : validStation a.toNat = false) : s.reqPointPut [a, c, hi, lo, pin] = s.answer .badIndex := by
  simp [State.reqPointPut, read, h]

theorem reqPointPut_storing (valid : validStation a.toNat = true) (h : s.storing.isSome = true) :
    s.reqPointPut [a, c, hi, lo, pin] = s.refuseFor .storing := by
  simp [State.reqPointPut, read, valid, h]

/-- The pool has no place for the record: none for a new one, or none for one more that is pinned (R62, R74). -/
def State.pointFull (s : State) (a c : Nat) (pinned : Bool) : Prop :=
  (s.findPoint a c = none ∧ ¬ (s.retained a < (s.station a).config.retentionQuota ∧ s.points.length < Config.pointRecords))
    ∨ (pinned = true ∧ (∀ p, s.findPoint a c = some p → p.pinned = false) ∧ Config.pinnedRecords ≤ s.pinnedCount)

omit read in
theorem pointRoom_iff (a : Nat) : s.pointRoom a = true ↔
    s.retained a < (s.station a).config.retentionQuota ∧ s.points.length < Config.pointRecords := by
  simp [State.pointRoom]

theorem reqPointPut_full (valid : validStation a.toNat = true) (h : s.storing = none)
    (full : s.pointFull a.toNat c.toNat pinned) : s.reqPointPut [a, c, hi, lo, pin] = s.refuseFor .full := by
  unfold State.pointFull at full
  rw [← pointRoom_iff] at full
  cases old : s.findPoint a.toNat c.toNat <;> cases room : s.pointRoom a.toNat <;>
    simp_all [State.reqPointPut]

theorem reqPointPut_writes (valid : validStation a.toNat = true) (h : s.storing = none)
    (room : ¬ s.pointFull a.toNat c.toNat pinned) : s.reqPointPut [a, c, hi, lo, pin] =
      (s.writePoint { station := a.toNat, channel := c.toNat, confirmed := some (word hi lo), pending := none
                      pinned := pinned }).answerDone (fun _ => []) := by
  unfold State.pointFull at room
  rw [← pointRoom_iff] at room
  cases old : s.findPoint a.toNat c.toNat <;>
    simp_all [State.reqPointPut]
end

/-! ## POINT-DROP (R75) -/

/-- The drop of a point is no moment of a grant test (R126). -/
theorem grantMoment_dropPoint (a c : Nat) : s.grantMoment (s.dropPoint a c) = false := by
  have kept : s.grantMoment s = false := by
    have closed : ∀ i, s.recordClosed s i = false := fun i => by
      unfold State.recordClosed
      cases s.slot i <;> simp
    simp [State.grantMoment, closed]
  exact kept

section
variable {a c : Byte}

theorem reqPointDrop_invalid (h : validStation a.toNat = false) : s.reqPointDrop [a, c] = s.answer .badIndex := by
  simp [State.reqPointDrop, h]

theorem reqPointDrop_storing (valid : validStation a.toNat = true) (h : s.storing.isSome = true) :
    s.reqPointDrop [a, c] = s.refuseFor .storing := by
  simp [State.reqPointDrop, valid, h]

theorem reqPointDrop_absent (valid : validStation a.toNat = true) (h : s.storing = none)
    (absent : s.findPoint a.toNat c.toNat = none) : s.reqPointDrop [a, c] = s.answerDone (fun _ => [0]) := by
  simp [State.reqPointDrop, valid, h, absent]

theorem reqPointDrop_present (valid : validStation a.toNat = true) (h : s.storing = none)
    (present : (s.findPoint a.toNat c.toNat).isSome = true) :
    s.reqPointDrop [a, c] = (State.followUp false (s.dropPoint a.toNat c.toNat)).answerDone (fun _ => [1]) := by
  simp [State.reqPointDrop, valid, h, present, State.settleFrom, grantMoment_dropPoint]
end

/-- What leaves all that `State.core` keeps leaves what no event of the Run Engine's kind writes. -/
theorem untouched_of_core {t : State} (h : t.core = s.core) : Untouched s t := by
  have stations : mapTable t.stations StationRecord.fixed = mapTable s.stations StationRecord.fixed := congrArg State.stations h
  have record : ∀ a, (t.station a).fixed = (s.station a).fixed := by
    intro a
    cases a with
    | zero => rfl
    | succ k =>
      have := getAt_mapTable t.stations StationRecord.fixed k .default
      rw [stations, getAt_mapTable] at this
      exact this.symm
  have keep {α : Type} (f : State → α) : f t.core = f s.core := congrArg f h
  exact ⟨keep State.pending, keep State.bridgeTime, keep State.portS, keep State.portF, keep State.points, keep State.plan,
    keep State.payloads, keep State.sliceDeadline, keep State.silence, keep State.cursor, keep State.resetPending,
    keep State.settings, keep State.spacing, keep State.straps, keep State.loading, keep State.imageStatus, keep State.storing,
    keep State.configMemory, fun a => (StationRecord.mk.inj (record a)).1, fun a => (StationRecord.mk.inj (record a)).2.2.2.2.2⟩

theorem Untouched.trans {t u : State} (h : Untouched s t) (k : Untouched t u) : Untouched s u :=
  ⟨k.pending.trans h.pending, k.bridgeTime.trans h.bridgeTime, k.portS.trans h.portS, k.portF.trans h.portF,
    k.points.trans h.points, k.plan.trans h.plan, k.payloads.trans h.payloads, k.sliceDeadline.trans h.sliceDeadline,
    k.silence.trans h.silence, k.cursor.trans h.cursor, k.resetPending.trans h.resetPending, k.settings.trans h.settings,
    k.spacing.trans h.spacing, k.straps.trans h.straps, k.loading.trans h.loading, k.imageStatus.trans h.imageStatus,
    k.storing.trans h.storing, k.configMemory.trans h.configMemory, fun a => (k.configs a).trans (h.configs a),
    fun a => (k.histories a).trans (h.histories a)⟩

/-- A state with the upward side of another. -/
def State.upward (w v : State) : State :=
  { w with passUp := v.passUp, replies := v.replies, replyGuard := v.replyGuard, noticeSlot := v.noticeSlot
           noticeNumber := v.noticeNumber, wireS := v.wireS }

/-- A request that leaves the F-port nothing to take: what its response leaves, and the upward side, in which its ANSWER stands at
the tail of the reply queue while the S-port sends. -/
theorem concluded_upward (h : Ready s) (seq code : Byte) (args : List Byte) (r : Response)
    (hr : s.heard.execute code args = r) (hq : r.state.FQuiet) (hreset : r.isReset = false)
    (hroom : r.state.replies = s.replies) :
    ∃ v, s.concluded (s.requestArrival seq (code :: args)) = .next (r.state.upward v)
      ∧ (r.state.SBusy → v.replies = s.replies ++
        [{ frame := answerFrame seq code r.status r.wrapped (r.detail r.state), isReset := false }]) := by
  refine ⟨_, (concluded_response h seq code args r hr hq hreset hroom).trans (congrArg _ (noticed_up _ _)), fun busy => ?_⟩
  rw [sArbiter_replies]
  · unfold State.testNotice
    split <;> rfl
  · unfold State.testNotice
    split <;> exact busy

theorem untouched_upward (w v : State) : Untouched w (w.upward v) := by
  have station : ∀ a, (w.upward v).station a = w.station a := station_congr rfl
  exact ⟨rfl, rfl, rfl, rfl, rfl, rfl, rfl, rfl, rfl, rfl, rfl, rfl, rfl, rfl, rfl, rfl, rfl, rfl,
    fun a => congrArg StationRecord.config (station a), fun a => congrArg StationRecord.history (station a)⟩

/-- A POINT-DROP that removes a record (R75, log 32). -/
theorem pointDrop_effect (h : Ready s) (busy : s.FBusy) (seq : Byte) {a c : Byte} (valid : validStation a.toNat = true)
    (hs : s.storing = none) (present : (s.findPoint a.toNat c.toNat).isSome = true) :
    ∃ t, exec (.pointDrop seq [a, c]) s = .next t
      ∧ t.points = s.points.filter (fun p => !(p.station = a.toNat && p.channel = c.toNat))
      ∧ Untouched { s.heard with points := t.points } t ∧ t.counters = s.counters ∧ t.queues = s.queues
      ∧ (let u := State.followUp false { s with points := t.points }
        SameRun t u ∧ t.feedA = u.feedA ∧ t.feedB = u.feedB)
      ∧ (s.SBusy → t.replies = s.replies ++ [{ frame := answerFrame seq 11 .done false [1], isReset := false }]) := by
  obtain ⟨u, hu⟩ : ∃ u, u = State.followUp false (s.dropPoint a.toNat c.toNat) := ⟨_, rfl⟩
  have follow : State.followUp false (s.heard.dropPoint a.toNat c.toNat) = u.hearing s.heard.portS s.heard.silence :=
    hu ▸ hearing_followUp (s := s.dropPoint a.toNat c.toNat) _ _ false
  have points : u.points = (s.dropPoint a.toNat c.toNat).points := hu ▸ followUp_points _ _
  have core : u.core = (s.dropPoint a.toNat c.toNat).core := hu ▸ followUp_core _ _
  have response : s.heard.execute 11 [a, c] = _ := (reqPointDrop_present (s := s.heard) valid hs present)
  rw [follow] at response
  have wire : u.wireF = s.wireF := hu ▸ followUp_wireF _ _
  have queue : u.replies = s.replies := hu ▸ followUp_replies _ _
  obtain ⟨v, done, answer⟩ := concluded_upward h seq 11 [a, c] _ response
    (.inl (by show u.wireF.isSome = true; rw [wire]; exact busy)) rfl queue
  have left : Untouched { s.heard with points := u.points } (u.hearing s.heard.portS s.heard.silence) := by
    rw [points]
    refine untouched_of_core ?_
    show u.core.hearing _ _ = (s.dropPoint a.toNat c.toNat).core.hearing _ _
    rw [core]
    rfl
  have engine : State.followUp false { s with points := u.points } = u := by rw [hu, followUp_points]; rfl
  refine ⟨_, done, points, left.trans (untouched_upward _ v), hu ▸ followUp_counters _ _, hu ▸ followUp_queues _ _, ?_, fun sends =>
    answer ?_⟩
  · show (let w := State.followUp false { s with points := u.points }
      SameRun ((u.hearing s.heard.portS s.heard.silence).upward v) w ∧ u.feedA = w.feedA ∧ u.feedB = w.feedB)
    rw [engine]
    exact ⟨⟨rfl, rfl, rfl, rfl, rfl, rfl⟩, rfl, rfl⟩
  · show u.wireS.isSome = true
    rw [show u.wireS = s.wireS from hu ▸ followUp_wireS _ _]
    exact sends

/-- Settles O54: the tests of each request in their order; a record written replaces the one of its station and channel; a drop is
followed by the Run Engine. -/
theorem pointWritesAct : Obligations.PointWritesAct := by
  unfold Obligations.PointWritesAct
  have outside : ∀ a : Byte, a.toNat = 0 ∨ 126 < a.toNat → validStation a.toNat = false := fun a h => by
    rw [Bool.eq_false_iff, ne_eq, validStation_iff]
    omega
  refine ⟨fun s seq a c hi lo pin pinned h hq _ read => ⟨fun invalid => ?badIndex, fun valid hs => ?storing,
    fun valid hs full => ?full, fun valid hs room => ?written⟩, fun s seq a c hi lo pin h hq undefined => ?unread,
    fun s seq a c h busy => ⟨fun invalid => ?dropIndex, fun valid hs => ?dropStoring, fun valid hs absent => ?absent,
    fun valid hs present => pointDrop_effect h busy seq valid hs present⟩⟩
  case badIndex =>
    exact concluded_status h hq seq 10 _ .badIndex (reqPointPut_invalid (s := s.heard) read (outside a invalid))
  case storing => exact concluded_refused h hq seq 10 _ .storing (reqPointPut_storing (s := s.heard) read valid hs)
  case full => exact concluded_refused h hq seq 10 _ .full (reqPointPut_full (s := s.heard) read valid hs full)
  case written =>
    refine ⟨_, concluded_ready h seq 10 _ _ (reqPointPut_writes (s := s.heard) read valid hs room)
      (FQuiet_congr hq rfl rfl rfl rfl rfl rfl rfl rfl) rfl rfl rfl rfl, rfl, ?_, fun b d other => ?_⟩
    · exact (writePoint_findPoint (s := s) _ _ _).trans (if_pos (by simp [PointRecord.names]))
    · refine (writePoint_findPoint (s := s) _ _ _).trans (if_neg ?_)
      simp only [PointRecord.names, Bool.and_eq_true, decide_eq_true_eq]
      rintro ⟨rfl, rfl⟩
      simp at other
  case unread => exact concluded_status h hq seq 10 _ .badRecord (reqPointPut_unread (s := s.heard) undefined)
  case dropIndex =>
    exact concluded_status h (.inl busy) seq 11 _ .badIndex (reqPointDrop_invalid (s := s.heard) (outside a invalid))
  case dropStoring =>
    exact concluded_refused h (.inl busy) seq 11 _ .storing (reqPointDrop_storing (s := s.heard) valid hs)
  case absent =>
    exact concluded_answer h (.inl busy) seq 11 _ .done [0] (reqPointDrop_absent (s := s.heard) valid hs absent)

end Sys2Proof.Machine
end

section
/-! SUPPORT. What an entry to a hold queue writes (R79 to R86): the queues, the high-water flag, the replies, the counters and the
pending flags, from these, the quota and the pass-down FIFO alone. So an entry commutes with `State.holding`, and a hand-over of one
state is the hand-over of another that holds the same. -/

namespace Sys2Proof.Machine

variable {s : State}

/-- `v` with all that an entry to a hold queue writes taken from `s`. -/
def State.holding (v s : State) : State :=
  { v with queues := s.queues, highWaterArmed := s.highWaterArmed, replies := s.replies, counters := s.counters
           noticePending := s.noticePending }

theorem holding_self (s : State) : s.holding s = s := rfl

section
variable (v : State) (a : Nat) (f : Frame)

theorem queue_holding : (v.holding s).queue a = s.queue a := by cases a <;> rfl
theorem station_holding : (v.holding s).station a = v.station a := by cases a <;> rfl
theorem occupancy_holding : (v.holding s).occupancy = s.occupancy := rfl
theorem replies_holding : (v.holding s).replies = s.replies := rfl

theorem holding_raise (e : NoticeEvent) : (v.holding s).raise e = v.holding (s.raise e) := rfl
theorem holding_setQueue (q : List Frame) : (v.holding s).setQueue a q = v.holding (s.setQueue a q) := by cases a <;> rfl
theorem holding_count (c : Counter) : (v.holding s).count c = v.holding (s.count c) := by
  show (if 255 ≤ s.counter c then v.holding s
    else if s.counter c = 127 then
      v.holding (State.raise { s with counters := putAt s.counters c.index (s.counter c + 1) } .counter128)
    else v.holding { s with counters := putAt s.counters c.index (s.counter c + 1) }) = _
  unfold State.count
  dsimp only
  split
  · rfl
  · split <;> rfl
theorem holding_placeReply (r : Reply) : (v.holding s).placeReply r = v.holding (s.placeReply r) := by
  simp only [State.placeReply, replies_holding, holding_count]
  split <;> rfl
theorem holding_replyHold (d : Disposition) (len : Nat) : (v.holding s).replyHold f d len = v.holding (s.replyHold f d len) :=
  holding_placeReply v _
theorem holding_rearm : (v.holding s).rearm = v.holding s.rearm := by
  show (if s.occupancy < Config.highWaterRearm then v.holding { s with highWaterArmed := true } else v.holding s) = _
  unfold State.rearm
  split <;> rfl
theorem holding_replySuperseded (len : Nat) (l : List Frame) :
    (v.holding s).replySuperseded len l = v.holding (s.replySuperseded len l) := by
  induction l generalizing s len with
  | nil => rfl
  | cons f l ih => simp only [State.replySuperseded, holding_replyHold, holding_count, ih]
theorem holding_supersede : (v.holding s).supersede a f = v.holding (s.supersede a f) := by
  simp only [State.supersede, queue_holding, holding_setQueue, holding_rearm, holding_replySuperseded]
  split
  · split <;> rfl
  · rfl
theorem holding_testHighWater : (v.holding s).testHighWater = v.holding s.testHighWater := by
  show (if s.occupancy = Config.highWater && s.highWaterArmed then
      v.holding (State.raise { s with highWaterArmed := false } .highWater) else v.holding s) = _
  unfold State.testHighWater
  split <;> rfl
theorem holding_appendHeld : (v.holding s).appendHeld a f = v.holding (s.appendHeld a f) := by
  simp only [State.appendHeld, queue_holding, holding_setQueue, holding_testHighWater, holding_replyHold]
theorem holding_defer (len : Nat) : (v.holding s).defer f len = v.holding (s.defer f len) := by
  simp only [State.defer, holding_replyHold, holding_count, holding_raise]

/-- Nothing drains while the station is not DRAINING. -/
theorem checkDrain_of_ne (h : (s.station a).state ≠ .draining) : s.checkDrain a = s := by simp [State.checkDrain, h]

/-! What an entry leaves: the station records. -/

theorem supersede_holds : s.supersede a f = s.holding (s.supersede a f) := by
  conv_lhs => rw [← holding_self s, holding_supersede]
theorem defer_holds (len : Nat) : s.defer f len = s.holding (s.defer f len) := by
  conv_lhs => rw [← holding_self s, holding_defer]

/-- An entry that ends no drain takes nothing but the quota from outside what it writes. -/
theorem holding_holdEntry (quota : (v.station a).config.holdQuota = (s.station a).config.holdQuota)
    (hv : (v.station a).state ≠ .draining) (hs : (s.station a).state ≠ .draining) :
    State.holdEntry a (v.holding s) f = v.holding (State.holdEntry a s f) := by
  have station : (s.supersede a f).station a = s.station a := by rw [supersede_holds, station_holding]
  have room : (v.holding (s.supersede a f)).holdRoom a = (s.supersede a f).holdRoom a := by
    simp only [State.holdRoom, queue_holding, station_holding, occupancy_holding, quota, station]
    rfl
  have ends : ∀ len, ((s.supersede a f).defer f len).checkDrain a = (s.supersede a f).defer f len := fun len =>
    checkDrain_of_ne a (by rw [defer_holds, station_holding, station]; exact hs)
  simp only [State.holdEntry, holding_supersede, room, queue_holding, holding_appendHeld, holding_defer, ends]
  rw [checkDrain_of_ne a (by rw [station_holding]; exact hv)]
  split <;> rfl

theorem holdEntry_holds (hs : (s.station a).state ≠ .draining) : State.holdEntry a s f = s.holding (State.holdEntry a s f) :=
  holding_holdEntry s a f rfl hs hs

/-- Entries one after another. -/
theorem holding_holdEntries (l : List Frame) (quota : (v.station a).config.holdQuota = (s.station a).config.holdQuota)
    (hv : (v.station a).state ≠ .draining) (hs : (s.station a).state ≠ .draining) :
    l.foldl (State.holdEntry a) (v.holding s) = v.holding (l.foldl (State.holdEntry a) s) := by
  induction l generalizing s with
  | nil => rfl
  | cons f l ih =>
    have station : (State.holdEntry a s f).station a = s.station a := by rw [holdEntry_holds a f hs, station_holding]
    rw [List.foldl_cons, List.foldl_cons, holding_holdEntry v a f quota hv hs, ih (by rw [station]; exact quota)
      (by rw [station]; exact hs)]

/-- Entries leave what they do not write. -/
theorem holdEntries_hold (l : List Frame) (hs : (s.station a).state ≠ .draining) :
    l.foldl (State.holdEntry a) s = s.holding (l.foldl (State.holdEntry a) s) :=
  holding_holdEntries s a l rfl hs hs

/-- What a hand-over leaves in the pass-down FIFO (R29). -/
theorem handOver_passDown (hs : (s.station a).state ≠ .draining) :
    (s.handOver a).passDown = s.passDown.filter (fun f => !handedOver a f) := by
  unfold State.handOver
  exact congrArg State.passDown
    (holdEntries_hold (s := { s with passDown := s.passDown.filter (fun f => !handedOver a f) }) a _ hs)

/-- A hand-over takes nothing but the quota and the pass-down FIFO from outside what it writes (R29). -/
theorem holding_handOver (fifo : v.passDown = s.passDown)
    (quota : (v.station a).config.holdQuota = (s.station a).config.holdQuota)
    (hv : (v.station a).state ≠ .draining) (hs : (s.station a).state ≠ .draining) :
    (v.holding s).handOver a =
      State.holding { v with passDown := s.passDown.filter (fun f => !handedOver a f) } (s.handOver a) := by
  have taken : (v.holding s).passDown = s.passDown := fifo
  unfold State.handOver
  rw [taken]
  exact holding_holdEntries (s := { s with passDown := s.passDown.filter (fun f => !handedOver a f) })
    { v with passDown := s.passDown.filter (fun f => !handedOver a f) } a _ quota hv hs

/-- A hand-over with nothing to hand over changes nothing (R29). -/
theorem handOver_none (h : ∀ f ∈ s.passDown, handedOver a f = false) : s.handOver a = s := by
  have taken : s.passDown.filter (handedOver a) = [] := List.filter_eq_nil_iff.2 fun f hf => by simp [h f hf]
  have left : s.passDown.filter (fun f => !handedOver a f) = s.passDown := List.filter_eq_self.2 fun f hf => by simp [h f hf]
  unfold State.handOver
  rw [taken, left]
  rfl
end

end Sys2Proof.Machine
end

section
/-! SUPPORT. START-RUN (R101, R106, R107, R109): validation, the holding stage, the members and steps at the start, and the run that
the follow-up leaves. -/

namespace Sys2Proof.Machine

variable {s : State}

/-! ## The run record through the follow-up: only the end of the run writes it (R116) -/

section
variable (n a i : Nat)

theorem setStepState_run (x : StepState) : (s.setStepState n x).run = s.run := setEntry_run ..
theorem evaluate_run : (s.evaluate n).run = s.run := by
  unfold State.evaluate
  split
  · split
    · exact setStepState_run _ _
    · rfl
    · split <;> exact setStepState_run _ _
  · rfl
theorem evaluateAll_run : s.evaluateAll.run = s.run := foldl_keeps State.run _ (fun s n => evaluate_run (s := s) n) _ s
theorem makeAttempt_run : (s.makeAttempt i).run = s.run := by
  unfold State.makeAttempt
  split <;> rfl
theorem openRecord_run (k c : Nat) : (s.openRecord i n k c).run = s.run := makeAttempt_run i
theorem cancelRecord_run : (s.cancelRecord i).run = s.run := by
  unfold State.cancelRecord
  split
  · split
    · rfl
    · split <;> rfl
  · rfl
theorem cancelRecordOf_run : (s.cancelRecordOf a n).run = s.run := by
  unfold State.cancelRecordOf
  split
  · split
    · split
      · exact cancelRecord_run _
      · rfl
    · rfl
  · rfl
theorem leaveStep_run (d : Bool) : (State.leaveStep a d s n).run = s.run := by
  unfold State.leaveStep
  split
  · exact setStepState_run _ _
  · exact setStepState_run _ _
  · exact (cancelRecordOf_run _ _).trans (setStepState_run _ _)
  · split
    · rfl
    · exact setEntry_run ..
  · rfl
theorem leaveSteps_run (d : Bool) : (s.leaveSteps a d).run = s.run :=
  foldl_keeps State.run _ (fun s n => leaveStep_run (s := s) n a d) _ s
theorem leaveRun_run (d : Bool) : (s.leaveRun a d).run = s.run := by
  unfold State.leaveRun
  dsimp only
  split
  · exact (leaveSteps_run _ _).trans (updateStation_run ..)
  · exact updateStation_run ..
theorem drainEnd_run : (s.drainEnd a).run = s.run := by
  unfold State.drainEnd
  refine (leaveRun_run _ _).trans ?_
  split <;> exact updateStation_run ..
theorem enterDraining_run : (s.enterDraining a).run = s.run := by
  unfold State.enterDraining State.checkDrain
  split
  · split
    · exact (drainEnd_run _).trans (updateStation_run ..)
    · exact updateStation_run ..
  · rfl
theorem settleStep_run : (s.settleStep n).run = s.run := by
  unfold State.settleStep
  split <;> exact setEntry_run ..
theorem completeFrameless_run : (s.completeFrameless n).run = s.run := by
  unfold State.completeFrameless
  dsimp only
  split
  · exact (enterDraining_run _).trans (settleStep_run _)
  · exact settleStep_run _
theorem markWait_run (f : Feed) : (s.markWait f).run = s.run := by
  unfold State.markWait
  split
  · split
    · cases f <;> rfl
    · rfl
  · rfl
theorem issue_run (r : StepRecord) : (s.issue i n r).run = s.run := by
  unfold State.issue
  refine (setStepState_run _ _).trans ((openRecord_run _ _ _ _).trans ?_)
  split <;> rfl
theorem grant_run : (s.grant i n).run = s.run := by
  rw [grant_eq]
  split
  · exact (updateStation_run ..).trans (issue_run _ _ _)
  · exact issue_run _ _ _

theorem settleLoop_run (fuel : Nat) (due : Bool) : (State.settleLoop fuel due s).run = s.run := by
  induction fuel generalizing due s with
  | zero => rfl
  | succ k ih =>
    have waits : ((s.evaluateAll.markWait .a).markWait .b).run = s.run :=
      (markWait_run _).trans ((markWait_run _).trans evaluateAll_run)
    unfold State.settleLoop
    dsimp only
    split
    · exact (ih _).trans ((completeFrameless_run _).trans evaluateAll_run)
    · split
      · split
        · exact (ih _).trans ((grant_run _ _).trans waits)
        · exact waits
      · exact evaluateAll_run
end

/-- No station is a member once the members are drained (R116). -/
theorem drainMembers_member (a : Nat) : (s.drainMembers.station a).member = false := by
  cases a with
  | zero => rfl
  | succ k =>
    exact congrArg StationRecord.member (getAt_mapTable
      ((stationNumbers.filter (fun a => (s.station a).member)).foldl State.enterDraining s).stations
      (fun r => { r with member := false }) k .default)

/-- What the follow-up leaves of the run: as it stood, or the run over with "ended" raised and no member left (R115, R116). -/
theorem followUp_ends (due : Bool) : (State.followUp due s).run = s.run
    ∨ ((State.followUp due s).run.halting = none ∧ (State.followUp due s).run.causes = .empty
      ∧ (State.followUp due s).isPending .ended = true ∧ ∀ a, ((State.followUp due s).station a).member = false) := by
  unfold State.followUp State.testRunEnd
  split
  · split
    · refine .inr ⟨rfl, rfl, raise_isPending _ _, fun a => ?_⟩
      exact drainMembers_member a
    · exact .inl (settleLoop_run _ _)
  · exact .inl rfl

end Sys2Proof.Machine
end

section
/-! SUPPORT. The tests of START-RUN: the selection (R19), a step's validation and the plan's (R101). -/

namespace Sys2Proof.Machine

variable {s : State}

/-! ## Validation (R101) -/

theorem stepFault_eq (s : State) (n : Nat) :
    let r := s.step n
    let p := s.payload (r.params.getD 0 0).toNat
    s.stepFault n =
      if (s.station r.station).config.role = .none then some 1
      else if r.action = some .fixedSet ∧ ¬ (p.used = true ∧ p.kind = .set ∧ p.length ≠ 0 ∧ p.length % 3 = 0) then some 2
      else if r.action = some .order ∧ ¬ (p.used = true ∧ p.kind = .order) then some 2
      else if r.action = some .restore ∧ (r.params.getD 1 0).toNat < (r.params.getD 0 0).toNat then some 3
      else if r.action = some .await ∧ (r.params.getD 3 0).toNat * 256 + (r.params.getD 4 0).toNat
        < (r.params.getD 1 0).toNat * 256 + (r.params.getD 2 0).toNat then some 4
      else if (r.feed = .a ∧ s.feedA.budget < r.peak) ∨ (r.feed = .b ∧ s.feedB.budget < r.peak) then some 5
      else none := by
  dsimp only
  unfold State.stepFault
  refine if_congr ?role rfl (if_congr ?set rfl (if_congr ?order rfl (if_congr ?restore rfl (if_congr ?await rfl ?feed))))
  case role => simp [State.listed]
  case set =>
    simp only [pointLength, Bool.and_eq_true, Bool.not_eq_true', ← Bool.not_eq_true, decide_eq_true_eq, and_assoc]
    exact Iff.rfl
  case order =>
    simp only [Bool.and_eq_true, Bool.not_eq_true', ← Bool.not_eq_true, decide_eq_true_eq]
    exact Iff.rfl
  case restore =>
    simp only [Bool.and_eq_true, decide_eq_true_eq]
    exact Iff.rfl
  case await =>
    simp only [Bool.and_eq_true, decide_eq_true_eq]
    exact Iff.rfl
  case feed =>
    cases feed : (s.step n).feed with
    | none => exact (if_neg (by simp)).symm
    | a => exact if_congr (by simp [State.feed]) rfl rfl
    | b => exact if_congr (by simp [State.feed]) rfl rfl

/-- The steps outside the plan are not used. -/
theorem step_used_lt {n : Nat} (h : (s.step n).used = true) : n < 96 := by
  by_contra out
  have : s.step n = .default := by simp [State.step, getAt, out]
  rw [this] at h
  exact absurd h (by decide)

/-- What a step contributes to the search of `State.validate`. -/
theorem faultAt_none (n : Nat) : (if (s.step n).used then (s.stepFault n).map (fun reason => (reason, n)) else none) = none
    ↔ ((s.step n).used = true → s.stepFault n = none) := by
  cases (s.step n).used <;> simp

theorem validate_none : s.validate = none ↔ ∀ n, (s.step n).used = true → s.stepFault n = none := by
  unfold State.validate stepNumbers
  rw [List.findSome?_eq_none_iff]
  simp only [List.mem_range, faultAt_none]
  exact ⟨fun h n used => h n (step_used_lt used) used, fun h n _ => h n⟩

/-- The first step of the search that fails is the lowest (R101). -/
theorem findSome_range {α : Type} (f : Nat → Option α) (k : Nat) (x : α) :
    (List.range k).findSome? f = some x ↔ ∃ n < k, f n = some x ∧ ∀ m < n, f m = none := by
  induction k with
  | zero => simp
  | succ k ih =>
    rw [List.range_succ, List.findSome?_append, Option.or_eq_some_iff, ih, List.findSome?_eq_none_iff]
    simp only [List.mem_range, List.findSome?_singleton]
    constructor
    · rintro (⟨n, lt, here, before⟩ | ⟨before, here⟩)
      · exact ⟨n, by omega, here, before⟩
      · exact ⟨k, by omega, here, before⟩
    · rintro ⟨n, lt, here, before⟩
      by_cases last : n = k
      · subst last
        exact .inr ⟨before, here⟩
      · exact .inl ⟨n, by omega, here, before⟩

theorem validate_some (reason n : Nat) : s.validate = some (reason, n) ↔
    (s.step n).used = true ∧ s.stepFault n = some reason ∧ ∀ m, m < n → (s.step m).used = true → s.stepFault m = none := by
  unfold State.validate stepNumbers
  rw [findSome_range]
  simp only [faultAt_none]
  constructor
  · rintro ⟨m, lt, here, before⟩
    cases used : (s.step m).used with
    | false => simp [used] at here
    | true =>
      simp only [used, if_true, Option.map_eq_some_iff, Prod.mk.injEq] at here
      obtain ⟨x, fault, rfl, rfl⟩ := here
      exact ⟨used, fault, before⟩
  · rintro ⟨used, fault, before⟩
    exact ⟨n, step_used_lt used, by simp [used, fault], before⟩

/-! ## The selection (R19) -/

theorem readSelection_some (args : List Byte) (l : List Nat) : readSelection args = some l ↔
    (args = [0] ∧ l = []) ∨ (∃ stations : List Byte, 1 ≤ stations.length ∧ stations.length ≤ 16
      ∧ args = 1 :: byte stations.length :: stations ∧ l = stations.map BitVec.toNat) := by
  constructor
  · intro h
    unfold readSelection at h
    split at h
    · exact absurd h (by simp)
    · next sel rest =>
      split at h
      · next zero =>
        cases h
        exact .inl ⟨by rw [← byte_of_toNat (b := 0) (c := sel) zero.symm], rfl⟩
      · next n stations one =>
        split at h
        · next tests =>
          simp only [Bool.and_eq_true, decide_eq_true_eq] at tests
          cases h
          refine .inr ⟨stations, by omega, by omega, ?_, rfl⟩
          rw [byte_of_toNat (b := 1) (c := sel) one.symm, tests.2]
          simp [byte]
        · exact absurd h (by simp)
      · exact absurd h (by simp)
  · rintro (⟨rfl, rfl⟩ | ⟨stations, few, many, rfl, rfl⟩)
    · rfl
    · have length : (byte stations.length).toNat = stations.length := by rw [byte_toNat]; omega
      show (if decide (1 ≤ (byte stations.length).toNat) && decide ((byte stations.length).toNat ≤ 16)
          && decide (stations.length = (byte stations.length).toNat) then some (stations.map BitVec.toNat) else none) = _
      simp [length, few, many]

end Sys2Proof.Machine
end

section
/-! SUPPORT. The start of a run (R106, R107): the holding stage, the members and their steps, and what START-RUN leaves. -/

namespace Sys2Proof.Machine

variable {s : State}

/-! ## The holding stage (R106) -/

theorem updateStation_stations (a : Nat) (g : StationRecord → StationRecord) :
    s.updateStation a g = { s with stations := (s.updateStation a g).stations } := by cases a <;> rfl

/-- The hand-overs of the holding stage, tested on the stations as they stood. -/
def State.handOvers (s : State) (l : List Nat) : State :=
  l.foldl (fun u a => if (s.station a).state = .online then u.handOver a else u) s

/-- The holding stage over `l` of the state that a REQUEST has reached, `t`, and the hand-overs alone, `u`: `t` holds what `u` holds
of all that an entry writes, and the listed ONLINE stations are HELD. -/
structure Staged (s : State) (l : List Nat) (t u : State) : Prop where
  shape : t = State.holding { s.heard with passDown := u.passDown, stations := t.stations } u
  kept  : u = State.holding { s with passDown := u.passDown } u
  taken : ∀ b, t.station b = if b ∈ l ∧ (s.station b).state = .online then { s.station b with state := .held } else s.station b
  left  : ∀ b ∈ l, (s.station b).state = .online → ∀ f ∈ u.passDown, handedOver b f = false

theorem staged_nil (s : State) : Staged s [] s.heard s :=
  ⟨rfl, rfl, fun b => by cases b <;> rfl, fun b h => absurd h (by simp)⟩

section
variable {l : List Nat} {t u : State} (h : Staged s l t u) {a : Nat}
include h

theorem Staged.station (b : Nat) : u.station b = s.station b := by
  rw [h.kept, station_holding]
  cases b <;> rfl

/-- A station that is not ONLINE is left out. -/
theorem staged_skip (other : (s.station a).state ≠ .online) : Staged s (l ++ [a]) t u := by
  refine ⟨h.shape, h.kept, fun b => ?_, fun b mem online => ?_⟩
  · rw [h.taken]
    refine if_congr ?_ rfl rfl
    simp only [List.mem_append, List.mem_singleton]
    constructor
    · rintro ⟨mem, online⟩
      exact ⟨.inl mem, online⟩
    · rintro ⟨mem | rfl, online⟩
      · exact ⟨mem, online⟩
      · exact absurd online other
  · rcases List.mem_append.1 mem with mem | mem
    · exact h.left b mem online
    · rw [List.mem_singleton.1 mem] at online
      exact absurd online other

/-- A station taken once is HELD, and nothing of it waits. -/
theorem staged_again (mem : a ∈ l) : Staged s (l ++ [a]) t u := by
  have same : ∀ b, b ∈ l ++ [a] ↔ b ∈ l := fun b => by
    simp only [List.mem_append, List.mem_singleton]
    exact ⟨fun k => k.elim id fun e => e ▸ mem, .inl⟩
  refine ⟨h.shape, h.kept, fun b => ?_, fun b m online => h.left b ((same b).1 m) online⟩
  rw [h.taken]
  exact if_congr (and_congr_left fun _ => (same b).symm) rfl rfl

/-- A listed ONLINE station enters HELD, with its hand-over. -/
theorem staged_take (fresh : a ∉ l) (valid : validStation a = true) (online : (s.station a).state = .online)
    (idle : s.run.inProgress = false) : Staged s (l ++ [a]) (t.enterHeld a .held) (u.handOver a) := by
  have held : ∀ b, (t.updateStation a (fun r => { r with state := .held })).station b =
      if b = a then { s.station a with state := .held } else t.station b := fun b => by
    rw [updateStation_station]
    by_cases this : b = a
    · subst this
      rw [if_pos ⟨rfl, valid⟩, if_pos rfl, h.taken, if_neg fun k => fresh k.1]
    · rw [if_neg fun k => this k.1.symm, if_neg this]
  obtain ⟨table, htable⟩ : ∃ table, table = (t.updateStation a (fun r => { r with state := .held })).stations := ⟨_, rfl⟩
  obtain ⟨v, hv⟩ : ∃ v, v = { s.heard with passDown := u.passDown, stations := table } := ⟨_, rfl⟩
  have entered : t.updateStation a (fun r => { r with state := .held }) = v.holding u := by
    rw [updateStation_stations, ← htable, hv]
    exact congrArg (fun x : State => { x with stations := table }) h.shape
  have stations : ∀ b, v.station b = (t.updateStation a (fun r => { r with state := .held })).station b :=
    station_congr (by rw [hv, htable])
  have record : v.station a = { s.station a with state := .held } := by rw [stations, held, if_pos rfl]
  have undrained : (u.station a).state ≠ .draining := by rw [h.station, online]; decide
  have handed : (v.holding u).handOver a = State.holding { v with passDown := (u.handOver a).passDown } (u.handOver a) := by
    rw [handOver_passDown a undrained]
    exact holding_handOver v a (by rw [hv]) (by rw [record, h.station]) (by rw [record]; exact fun k => by cases k) undrained
  have alone : t.enterHeld a .held = State.holding { v with passDown := (u.handOver a).passDown } (u.handOver a) := by
    unfold State.enterHeld State.joinRun
    rw [entered, handed]
    exact if_neg (by rw [hv]; exact Bool.eq_false_iff.1 idle)
  refine ⟨?_, ?_, fun b => ?_, fun b mem online f hf => ?_⟩
  · rw [alone, hv]
    rfl
  · have := holding_handOver (s := u) { s with passDown := u.passDown } a rfl (by rw [h.station]; rfl)
      (by show (s.station a).state ≠ _; rw [online]; decide) undrained
    rw [← h.kept, ← handOver_passDown a undrained] at this
    exact this
  · rw [alone, station_holding]
    refine (station_congr (s := v) rfl b).trans ?_
    rw [stations, held]
    simp only [List.mem_append, List.mem_singleton]
    by_cases this : b = a
    · subst this
      rw [if_pos rfl, if_pos ⟨.inr rfl, online⟩]
    · rw [if_neg this, h.taken]
      exact if_congr (and_congr_left fun _ => ⟨.inl, fun k => k.resolve_right this⟩) rfl rfl
  · rw [handOver_passDown a undrained] at hf
    obtain ⟨hf, gone⟩ := List.mem_filter.1 hf
    rcases List.mem_append.1 mem with mem | mem
    · exact h.left b mem online f hf
    · rw [List.mem_singleton.1 mem]
      simpa using gone

/-- One listed station. -/
theorem staged_step (valid : validStation a = true) (idle : s.run.inProgress = false) : Staged s (l ++ [a])
    (if (t.station a).state = .online then t.enterHeld a .held else t)
    (if (s.station a).state = .online then u.handOver a else u) := by
  have record := h.taken a
  by_cases online : (s.station a).state = .online
  · by_cases mem : a ∈ l
    · rw [if_pos ⟨mem, online⟩] at record
      rw [if_neg (by rw [record]; exact fun k => by cases k), if_pos online, handOver_none a (h.left a mem online)]
      exact staged_again h mem
    · rw [if_neg fun k => mem k.1] at record
      rw [if_pos (by rw [record]; exact online), if_pos online]
      exact staged_take h mem valid online idle
  · rw [if_neg fun k => online k.2] at record
    rw [if_neg (by rw [record]; exact online), if_neg online]
    exact staged_skip h online
end

/-- The holding stage is the hand-overs, with the listed ONLINE stations HELD. -/
theorem staged_holdList (l : List Nat) (valid : ∀ a ∈ l, validStation a = true) (idle : s.run.inProgress = false) :
    Staged s l (s.heard.holdList l) (s.handOvers l) := by
  induction l using List.reverseRecOn with
  | nil => exact staged_nil s
  | append_singleton l a ih =>
    unfold State.holdList State.handOvers
    rw [List.foldl_append, List.foldl_append]
    exact staged_step (ih fun b mem => valid b (List.mem_append_left _ mem)) (valid a (by simp)) idle

/-! ## The start (R107) -/

/-- The state of a start before the follow-up. -/
def State.started (s : State) : State :=
  let r := { s with run := { s.run with inProgress := true, number := s.run.number + 1, startTime := s.bridgeTime
                                        halting := none, causes := .empty } }
  r.takeMembers.startEntries.raise .started

theorem startEntries_core : s.startEntries.core = s.core := syncHeads_core _

theorem started_run : s.started.run = { inProgress := true, number := s.run.number + 1, startTime := s.bridgeTime, halting := none
                                        causes := .empty, lastOutcome := s.run.lastOutcome } := by
  simp [State.started, State.startEntries, State.syncHeads, State.takeMembers]

theorem started_slots : s.started.slots = s.slots := by
  simp [State.started, State.startEntries, State.syncHeads, State.takeMembers, State.raise]

theorem started_contributions : s.started.contributions = s.contributions := by
  simp [State.started, State.startEntries, State.syncHeads, State.takeMembers, State.raise]

theorem started_injectionSeq : s.started.injectionSeq = s.injectionSeq := by
  simp [State.started, State.startEntries, State.syncHeads, State.takeMembers, State.raise]

/-- Every HELD station becomes a member (R107, step 2). -/
theorem started_station (a : Nat) : s.started.station a =
    if (s.station a).state = .held then { s.station a with member := true } else s.station a := by
  have stations : s.started.stations = s.takeMembers.stations := by
    simp [State.started, State.startEntries, State.syncHeads, State.takeMembers, State.raise]
  rw [station_congr stations]
  cases a with
  | zero => rfl
  | succ k => exact getAt_mapTable s.stations (fun r => if r.state = .held then { r with member := true } else r) k .default

/-- A member's used steps become PENDING, all others IDLE (R107, step 3). -/
theorem started_entry (n : Nat) : s.started.entry n =
    { state := if (s.step n).used = true ∧ (s.started.station (s.step n).station).member = true then .pending else .idle
      cause := .none, nak := 0, attempts := 0, settle := none } := by
  have entries : s.started.entries = tableOf 96 (stepNumbers.map (fun n => { StepEntry.reset with
      state := if (s.step n).used && (s.started.station (s.step n).station).member then .pending else .idle })) .reset := by
    have stations : ∀ a, s.started.station a = s.takeMembers.station a := station_congr (by
      simp [State.started, State.startEntries, State.syncHeads, State.takeMembers, State.raise])
    simp only [stations]
    unfold State.started State.startEntries State.syncHeads State.raise
    exact (syncHead_entries _ _).trans (syncHead_entries _ _)
  unfold State.entry
  rw [entries]
  by_cases lt : n < 96
  · rw [getAt_tableOf _ _ _ _ lt, List.getD_eq_getElem _ _ (by simpa [stepNumbers] using lt)]
    simp [stepNumbers, StepEntry.reset]
  · have unused : (s.step n).used ≠ true := fun used => lt (step_used_lt used)
    rw [if_neg fun k => unused k.1]
    simp [getAt, lt, StepEntry.reset]

theorem takeMembers_core : s.takeMembers.core = s.core := by
  simp only [State.core, State.takeMembers]
  rw [mapTable_mapTable_same]
  intro r
  split <;> rfl

theorem started_core : s.started.core = { s.core with run := s.started.run.fixed } := by
  rw [started_run]
  exact (startEntries_core.trans takeMembers_core).trans rfl

theorem untouched_started : Untouched s s.started := by
  have run : Untouched s { s with run := s.started.run } :=
    ⟨rfl, rfl, rfl, rfl, rfl, rfl, rfl, rfl, rfl, rfl, rfl, rfl, rfl, rfl, rfl, rfl, rfl, rfl,
      fun a => by cases a <;> rfl, fun a => by cases a <;> rfl⟩
  exact run.trans (untouched_of_core started_core)

/-! ## The ANSWER when the reply queue may be full -/

/-- A reply placed writes the replies, the counters and the pending flags alone. -/
theorem placeReply_holds (r : Reply) : s.placeReply r = s.holding (s.placeReply r) := by
  conv_lhs => rw [← holding_self s, holding_placeReply]

theorem testNotice_upward (b : Bool) : s.testNotice b = s.upward (s.testNotice b) := by
  unfold State.testNotice
  split <;> rfl

theorem testNotice_replies (b : Bool) : (s.testNotice b).replies = s.replies := by
  unfold State.testNotice
  split <;> rfl

/-- A request that leaves the F-port sending: what its response leaves, its ANSWER placed or lost, and the upward side. -/
theorem concluded_placed (h : Ready s) (seq code : Byte) (args : List Byte) (r : Response)
    (hr : s.heard.execute code args = r) (busy : r.state.FBusy) (hreset : r.isReset = false) :
    ∃ v, s.concluded (s.requestArrival seq (code :: args)) = .next (State.upward (r.state.placeReply
        { frame := answerFrame seq code r.status r.wrapped (r.detail r.state), isReset := false }) v)
      ∧ (r.state.SBusy → v.replies = (r.state.placeReply
        { frame := answerFrame seq code r.status r.wrapped (r.detail r.state), isReset := false }).replies) := by
  obtain ⟨p, hp⟩ : ∃ p, p = r.state.placeReply
      { frame := answerFrame seq code r.status r.wrapped (r.detail r.state), isReset := false } := ⟨_, rfl⟩
  have finished : ∀ b, r.finish b seq code = p := fun b => by
    unfold Response.finish
    rw [fArbiter_quiet _ (.inl busy), hp]
    simp [hreset]
  have arrival : ∃ v, s.requestArrival seq (code :: args) = p.upward v ∧ v.replies = p.replies ∧ v.wireS = p.wireS := by
    rw [requestArrival_ready h, hr, finished]
    split
    · refine ⟨_, testNotice_upward true, testNotice_replies true, ?_⟩
      rw [testNotice_wireS]
    · exact ⟨p, rfl, rfl, rfl⟩
  obtain ⟨x, arrival, replies, wire⟩ := arrival
  have sends : (p.upward x).FBusy := by
    show p.wireF.isSome = true
    rw [hp, placeReply_holds]
    exact busy
  rw [← hp]
  refine ⟨((p.upward x).testNotice s.reportedEmpty).sArbiter, ?_, fun sendsUp => ?_⟩
  · unfold State.concluded State.close
    rw [arrival, fArbiter_quiet _ (.inl sends)]
    exact congrArg _ (noticed_up _ _)
  · rw [sArbiter_replies, testNotice_replies]
    · exact replies
    · show State.SBusy _
      unfold State.SBusy
      rw [testNotice_wireS]
      show x.wireS.isSome = true
      rw [wire, hp, placeReply_holds]
      exact sendsUp

end Sys2Proof.Machine
end

section
/-! SUPPORT. START-RUN itself (R106, R107, R109). -/

namespace Sys2Proof.Machine

variable {s : State}

/-! ## What the stages leave -/

theorem untouched_holding (v : State) : Untouched v (v.holding s) := by
  have station : ∀ a, (v.holding s).station a = v.station a := station_holding v
  exact ⟨rfl, rfl, rfl, rfl, rfl, rfl, rfl, rfl, rfl, rfl, rfl, rfl, rfl, rfl, rfl, rfl, rfl, rfl,
    fun a => congrArg StationRecord.config (station a), fun a => congrArg StationRecord.history (station a)⟩

theorem untouched_placeReply (r : Reply) : Untouched s (s.placeReply r) := by
  rw [placeReply_holds]
  exact untouched_holding s

section
variable {l : List Nat} {t u : State} (h : Staged s l t u)
include h

theorem untouched_staged : Untouched s.heard t := by
  have record : ∀ a, (t.station a).config = (s.station a).config ∧ (t.station a).history = (s.station a).history := fun a => by
    rw [h.taken]
    split <;> exact ⟨rfl, rfl⟩
  have heard : ∀ a, s.heard.station a = s.station a := station_congr rfl
  refine ⟨?_, ?_, ?_, ?_, ?_, ?_, ?_, ?_, ?_, ?_, ?_, ?_, ?_, ?_, ?_, ?_, ?_, ?_, fun a => ?_, fun a => ?_⟩
  case refine_19 => rw [(record a).1, heard]
  case refine_20 => rw [(record a).2, heard]
  all_goals
    rw [h.shape]
    rfl

theorem sameGround_staged : SameGround u t := by
  constructor
  case feeds =>
    rw [h.shape, h.kept]
    exact fun f => ⟨by cases f <;> rfl, by cases f <;> rfl, by cases f <;> rfl, by cases f <;> rfl, by cases f <;> rfl,
      by cases f <;> rfl⟩
  all_goals
    rw [h.shape, h.kept]
    rfl
end

theorem sameGround_started : SameGround s s.started := by
  have feeds : ∀ f, (s.started.feed f).fixed = (s.feed f).fixed := fun f => by
    cases f with
    | a => exact congrArg State.feedA started_core
    | b => exact congrArg State.feedB started_core
  have kept := untouched_started (s := s)
  have queues : s.started.core.queues = s.core.queues := by rw [started_core]
  refine ⟨kept.bridgeTime, kept.settings, kept.plan, kept.payloads, kept.points, queues,
    started_injectionSeq, fun f => ?_⟩
  obtain ⟨budget, standing, measured, time, stale, folded, _, _, _⟩ := FeedRecord.mk.inj (feeds f)
  exact ⟨budget, standing, measured, time, stale, folded⟩

theorem SameGround.trans {t u : State} (h : SameGround s t) (k : SameGround t u) : SameGround s u := by
  refine ⟨k.bridgeTime.trans h.bridgeTime, k.settings.trans h.settings, k.plan.trans h.plan, k.payloads.trans h.payloads,
    k.points.trans h.points, k.queues.trans h.queues, k.injectionSeq.trans h.injectionSeq, fun f => ?_⟩
  obtain ⟨b, st, m, mt, sl, fo⟩ := h.feeds f
  obtain ⟨b', st', m', mt', sl', fo'⟩ := k.feeds f
  exact ⟨b'.trans b, st'.trans st, m'.trans m, mt'.trans mt, sl'.trans sl, fo'.trans fo⟩

/-! ## The tests -/

section
variable {args : List Byte}

theorem reqStart_unread (h : readSelection args = none) : s.reqStart args = s.answer .badRecord := by simp [State.reqStart, h]

variable {l : List Nat} (read : readSelection args = some l)
include read

theorem reqStart_badIndex (h : ∃ a ∈ l, a = 0 ∨ 126 < a) : s.reqStart args = s.answer .badIndex := by
  have bad : l.any (fun a => !validStation a) = true := by
    obtain ⟨a, mem, out⟩ := h
    refine List.any_eq_true.2 ⟨a, mem, ?_⟩
    rw [Bool.not_eq_true', Bool.eq_false_iff, ne_eq, validStation_iff]
    omega
  simp only [State.reqStart, read, bad, if_true]

variable (valid : ∀ a ∈ l, validStation a = true)
include valid

theorem reqStart_tested : s.reqStart args =
    if s.run.inProgress then s.refuseFor .runActive
    else match s.validate with
      | some (reason, n) => s.refuseFor (.invalidPlan reason n)
      | none => (s.holdList l).beginRun.answerDone
          (fun t => [t.run.number, byte t.memberCount, byte (s.leftOut l).length]) := by
  have good : l.any (fun a => !validStation a) = false := by
    rw [List.any_eq_false]
    intro a mem
    simp [valid a mem]
  simp only [State.reqStart, read, good]
  rfl

theorem reqStart_active (run : s.run.inProgress = true) : s.reqStart args = s.refuseFor .runActive := by
  rw [reqStart_tested read valid, if_pos run]

theorem reqStart_invalid (run : s.run.inProgress = false) {reason n : Nat} (fault : s.validate = some (reason, n)) :
    s.reqStart args = s.refuseFor (.invalidPlan reason n) := by
  rw [reqStart_tested read valid, if_neg (by simp [run]), fault]

theorem reqStart_starts (run : s.run.inProgress = false) (fault : s.validate = none) :
    s.reqStart args = (s.holdList l).started.settle.answerDone
      (fun t => [t.run.number, byte t.memberCount, byte (s.leftOut l).length]) := by
  rw [reqStart_tested read valid, if_neg (by simp [run]), fault]
  rfl
end

/-! ## The start -/

/-- What the follow-up leaves of a run just started (R107, R116). -/
theorem settle_started (s : State) : s.started.settle.run.number = s.run.number + 1
    ∧ s.started.settle.run.startTime = s.bridgeTime ∧ s.started.settle.run.halting = none
    ∧ s.started.settle.run.causes = .empty ∧ s.started.settle.isPending .started = true
    ∧ (s.started.settle.run.inProgress = false →
      s.started.settle.isPending .ended = true ∧ ∀ a, (s.started.settle.station a).member = false) := by
  have fixed : s.started.settle.run.fixed = s.started.run.fixed := congrArg State.run (settle_core s.started)
  obtain ⟨-, number, time, -⟩ := RunRecord.mk.inj fixed
  rw [started_run] at number time
  refine ⟨number, time, ?_⟩
  have pending : s.started.settle.isPending .started = true :=
    (follows_settle s.started).pending .started (raise_isPending _ _)
  rcases followUp_ends (s := s.started) true with run | ⟨halting, causes, ended, members⟩
  · have run : s.started.settle.run = s.started.run := run
    rw [run, started_run]
    exact ⟨rfl, rfl, pending, fun ended => absurd ended Bool.noConfusion⟩
  · exact ⟨halting, causes, pending, fun _ => ⟨ended, members⟩⟩

/-- A reply placed keeps every event but COUNT as it stood. -/
theorem placeReply_isPending (r : Reply) (e : NoticeEvent) (h : e ≠ .counter128) :
    (s.placeReply r).isPending e = s.isPending e := by
  unfold State.placeReply
  split
  · rfl
  · exact count_isPending_of_ne s _ e h

theorem placeReply_replies (h : s.replies.length < 16) (r : Reply) : (s.placeReply r).replies = s.replies ++ [r] := by
  rw [placeReply_eq, if_pos h]

theorem placeReply_queues (r : Reply) : (s.placeReply r).queues = s.queues := by
  unfold State.placeReply
  split
  · rfl
  · rw [count_eq]

/-- A START-RUN that passes its tests: the hand-overs `u`, the start `w`, and the follow-up. -/
theorem startRun_effect (h : Ready s) (busy : s.FBusy) (seq : Byte) {args : List Byte} {l : List Nat}
    (read : readSelection args = some l) (valid : ∀ a ∈ l, validStation a = true) (idle : s.run.inProgress = false)
    (fault : s.validate = none) :
    ∃ w t : State, exec (.startRun seq args) s = .next t ∧ Untouched s.heard t ∧ SameGround (s.handOvers l) w
      ∧ t.queues = (s.handOvers l).queues ∧ t.passDown = (s.handOvers l).passDown
      ∧ w.run = { inProgress := true, number := s.run.number + 1, startTime := s.bridgeTime, halting := none
                  causes := .empty, lastOutcome := s.run.lastOutcome }
      ∧ (∀ a, w.station a = if a ∈ l ∧ (s.station a).state = .online then { s.station a with state := .held, member := true }
          else if (s.station a).state = .held then { s.station a with member := true } else s.station a)
      ∧ (∀ n, w.entry n = { state := if (s.step n).used = true ∧ (w.station (s.step n).station).member = true then .pending
                                     else .idle
                            cause := .none, nak := 0, attempts := 0, settle := none })
      ∧ w.slots = s.slots ∧ w.contributions = s.contributions ∧ SameRun t w.settle
      ∧ t.run.number = s.run.number + 1 ∧ t.run.startTime = s.bridgeTime ∧ t.run.halting = none
      ∧ t.run.causes = .empty ∧ t.isPending .started = true
      ∧ (t.run.inProgress = false → t.isPending .ended = true ∧ ∀ a, (t.station a).member = false)
      ∧ (s.SBusy → (s.handOvers l).replies.length < 16 → t.replies = (s.handOvers l).replies ++
          [{ isReset := false, frame := (answerFrame seq 24 .done false
          [t.run.number, byte t.memberCount, byte (l.dedup.filter (fun a =>
            decide ((s.station a).state ≠ .online) && decide ((s.station a).state ≠ .held))).length]) }]) := by
  have stage := staged_holdList (s := s) l valid idle
  have response := reqStart_starts (s := s.heard) read valid idle fault
  obtain ⟨u, hu⟩ : ∃ u, u = s.handOvers l := ⟨_, rfl⟩
  obtain ⟨x, hx⟩ : ∃ x, x = s.heard.holdList l := ⟨_, rfl⟩
  rw [← hu, ← hx] at stage
  rw [← hx] at response
  rw [← hu]
  have core : x.started.settle.core = { x.core with run := x.started.run.fixed } := (settle_core x.started).trans started_core
  have wireF : x.started.settle.wireF = s.wireF := by
    refine (congrArg State.wireF core).trans ?_
    rw [stage.shape]
    rfl
  have wireS : x.started.settle.wireS = s.wireS := by
    refine (congrArg State.wireS core).trans ?_
    rw [stage.shape]
    rfl
  have replies : x.started.settle.replies = u.replies := by
    refine (congrArg State.replies core).trans ?_
    rw [stage.shape]
    rfl
  obtain ⟨v, done, answer⟩ := concluded_placed h seq 24 args _ response
    (by show x.started.settle.wireF.isSome = true; rw [wireF]; exact busy) rfl
  obtain ⟨number, time, halting, causes, started, ended⟩ := settle_started x
  obtain ⟨p, hp⟩ : ∃ p, p = x.started.settle.placeReply { isReset := false, frame := (answerFrame seq 24 .done false
      [x.started.settle.run.number, byte x.started.settle.memberCount, byte (s.heard.leftOut l).length]) } := ⟨_, rfl⟩
  have shape : p = x.started.settle.holding p := hp ▸ placeReply_holds _
  have keeps {α : Type} (f : State → α) : f p = f (x.started.settle.holding p) := congrArg f shape
  have record : p.run = x.started.settle.run := keeps State.run
  have stations : p.stations = x.started.settle.stations := keeps State.stations
  have pending : ∀ e, e ≠ .counter128 → p.isPending e = x.started.settle.isPending e := fun e ne =>
    hp ▸ placeReply_isPending _ e ne
  have reached : Untouched s.heard p :=
    (((untouched_staged stage).trans untouched_started).trans (untouched_of_core (settle_core _))).trans
      (hp ▸ untouched_placeReply _)
  have run : x.run = s.run := by rw [stage.shape]; rfl
  have now : x.bridgeTime = s.bridgeTime := by rw [stage.shape]; rfl
  have plan : x.plan = s.plan := by rw [stage.shape]; rfl
  refine ⟨x.started, p.upward v, hp ▸ done, reached.trans (untouched_upward p v), (sameGround_staged stage).trans sameGround_started,
    ?queues, ?fifo, ?run, fun a => ?station, fun n => ?entry, ?slots, ?contributions, ?same, ?number, ?time, ?halting, ?causes,
    (pending _ (by decide)).trans started, fun finished => ?ended, fun sends room => ?answer⟩
  case queues =>
    have placed : p.queues = x.started.settle.queues := hp ▸ placeReply_queues _
    refine placed.trans ((congrArg State.queues core).trans ?_)
    rw [stage.shape]
    rfl
  case fifo =>
    refine (congrArg State.passDown shape).trans ((congrArg State.passDown core).trans ?_)
    rw [stage.shape]
    rfl
  case run => rw [started_run, run, now]
  case station =>
    rw [started_station, stage.taken]
    by_cases taken : a ∈ l ∧ (s.station a).state = .online
    · rw [if_pos taken, if_pos taken, if_pos rfl]
    · rw [if_neg taken, if_neg taken]
  case entry =>
    rw [started_entry]
    have step : x.step n = s.step n := by unfold State.step; rw [plan]
    rw [step]
  case slots =>
    rw [started_slots, stage.shape]
    rfl
  case contributions =>
    rw [started_contributions, stage.shape]
    rfl
  case same =>
    rw [shape]
    exact ⟨rfl, rfl, rfl, rfl, rfl, rfl⟩
  case number =>
    rw [← run, ← number, shape]
    rfl
  case time =>
    rw [← now, ← time, shape]
    rfl
  case halting =>
    rw [← halting, shape]
    rfl
  case causes =>
    rw [← causes, shape]
    rfl
  case ended =>
    have seats : ∀ a, (p.upward v).station a = x.started.settle.station a := station_congr stations
    obtain ⟨done, members⟩ := ended (record ▸ finished)
    exact ⟨(pending .ended (by decide)).trans done, fun a => (congrArg StationRecord.member (seats a)).trans (members a)⟩
  case answer =>
    have fits : x.started.settle.replies.length < 16 := by rw [replies]; exact room
    refine (answer (by show x.started.settle.wireS.isSome = true; rw [wireS]; exact sends)).trans ?_
    refine (placeReply_replies fits _).trans ?_
    show x.started.settle.replies ++ _ = _
    rw [replies]
    unfold State.memberCount
    rw [show (p.upward v).run = _ from record, show (p.upward v).stations = _ from stations]
    rfl

/-- Settles O57: the tests in their order, then the holding stage, the start and the follow-up. -/
theorem startRunValidatesThenStarts : Obligations.StartRunValidatesThenStarts := by
  unfold Obligations.StartRunValidatesThenStarts
  refine ⟨fun s seq args h busy => ⟨fun unread => ?unread, fun l read => ⟨fun bad => ?bad, fun valid run => ?active,
    fun reason n valid idle fault => ?invalid, fun valid idle fault => startRun_effect h busy seq read valid idle fault⟩⟩,
    stepFault_eq, fun s => validate_none, fun s => validate_some, readSelection_some⟩
  case unread => exact concluded_status h (.inl busy) seq 24 args .badRecord (reqStart_unread (s := s.heard) unread)
  case bad => exact concluded_status h (.inl busy) seq 24 args .badIndex (reqStart_badIndex (s := s.heard) read bad)
  case active => exact concluded_refused h (.inl busy) seq 24 args .runActive (reqStart_active (s := s.heard) read valid run)
  case invalid =>
    exact concluded_refused h (.inl busy) seq 24 args (.invalidPlan reason n)
      (reqStart_invalid (s := s.heard) read valid idle fault)

end Sys2Proof.Machine
end

section
/-! SUPPORT. The image that a STORE writes, read back (R198): each record of section 1.8 from its own bytes, each section at its
place. -/

namespace Sys2Proof.Machine

variable {s : State}

/-! ## Numbers in one and in two bytes -/

theorem byte_toNat_of_le {n : Nat} (h : n ≤ 255) : (byte n).toNat = n := byte_toNat n (by omega)

theorem word_bytes2 {n : Nat} (h : n ≤ 65535) : word (byte (n / 256)) (byte n) = n := by
  have low : (byte n).toNat = n % 256 := BitVec.toNat_ofNat n 8
  unfold word
  rw [byte_toNat_of_le (by omega), low]
  omega

/-! ## Each record from its own bytes, and its clamping -/

theorem readStationConfig_encode {c : StationConfig} (h : StationStorable c) : readStationConfig c.encode = some c := by
  obtain ⟨channel, hold, retention⟩ := h
  simp only [StationConfig.encode, readStationConfig, readRole_code, readFeedChoice_code, readHoldPolicy_code, readFlag_flag,
    Option.bind_eq_bind, Option.bind_some, byte_toNat_of_le channel, byte_toNat_of_le (hold.trans (by decide : 32 ≤ 255)),
    byte_toNat_of_le (retention.trans (by decide : 64 ≤ 255))]
  rfl

theorem clamp_stationConfig {c : StationConfig} (h : StationStorable c) : c.clamp = c := by
  obtain ⟨-, hold, retention⟩ := h
  simp only [StationConfig.clamp, Nat.min_eq_left hold, Nat.min_eq_left retention]

theorem readSettings_encode {t : Settings} (h : SettingsStorable t) : readSettings t.encode = some t := by
  obtain ⟨silence, spacing, storm, limit, -⟩ := h
  obtain ⟨time, response, notice, window, admission, groups, ⟨⟨enables⟩, eight⟩⟩ := t
  match enables, eight with
  | [e0, e1, e2, e3, e4, e5, e6, e7], _ =>
    simp only [Settings.encode, bytes2, Vector.toList_mk, List.cons_append, List.nil_append, readSettings, readSilenceResponse_code,
      Option.bind_eq_bind, Option.bind_some, byte_toNat_of_le (silence.2.trans (by decide : 60 ≤ 255)),
      byte_toNat_of_le spacing.2, word_bytes2 (storm.2.trans (by decide : 600 ≤ 65535)), byte_toNat_of_le limit.2]
    rfl

theorem clamp_settings {t : Settings} (h : SettingsStorable t) : t.clamp = t := by
  obtain ⟨silence, spacing, storm, limit, enables⟩ := h
  have kept : t.clamp.eventEnables = t.eventEnables := by
    refine Vector.ext fun g lt => ?_
    have := (clamp_eventEnables t g lt).trans (enables g lt)
    simpa [getAt, lt] using this
  have time : clampRange 1 60 t.silenceTime = t.silenceTime := by unfold clampRange; omega
  have window : clampRange 10 600 t.stormWindow = t.stormWindow := by unfold clampRange; omega
  have parts : t.clamp = { t with
      silenceTime := clampRange 1 60 t.silenceTime, noticeSpacing := max t.noticeSpacing 1
      stormWindow := clampRange 10 600 t.stormWindow, admissionLimit := max t.admissionLimit 1
      eventEnables := t.clamp.eventEnables } := rfl
  rw [parts, kept, time, window, max_eq_left spacing.1, max_eq_left limit.1]

theorem readFeedImage_bytes {b l : Nat} (hb : b ≤ 16383) (hl : l ≤ 16383) :
    readFeedImage (bytes2 b ++ bytes2 l) = some (b, l) := by
  simp only [bytes2, List.cons_append, List.nil_append, readFeedImage, word_bytes2 (hb.trans (by decide : 16383 ≤ 65535)),
    word_bytes2 (hl.trans (by decide : 16383 ≤ 65535)), Config.loadTop, Nat.min_eq_left hb, Nat.min_eq_left hl]

theorem readStep_encode {r : StepRecord} {n : Nat} (h : StepStorable r n) : readStep r.encode = some r := by
  obtain ⟨action, params, -, station, count, four, preds, -, peak, steady, ramp, settle, timeout, retries, -⟩ := h
  obtain ⟨used, at', act, ps, few, qs, feed, pk, st, rp, sl, tm, rt, cr, mk⟩ := r
  obtain ⟨act, rfl⟩ := Option.isSome_iff_exists.1 action
  match ps, params, qs, four with
  | [p0, p1, p2, p3, p4, p5], _, [q0, q1, q2, q3], _ =>
    have preds : [q0, q1, q2, q3] = storedPredecessors few [byte q0, byte q1, byte q2, byte q3] := preds
    simp only at station count peak steady ramp settle timeout retries
    simp only [StepRecord.encode, bytes2, List.cons_append, List.nil_append, List.map_cons, List.map_nil, readStep, readFlag_flag,
      readAction_code, readFeedChoice_code, readCriticality_code, Option.bind_eq_bind, Option.bind_some,
      byte_toNat_of_le station, byte_toNat_of_le count, ← preds, byte_toNat_of_le ramp.2, byte_toNat_of_le timeout.2,
      word_bytes2 (peak.trans (by decide : 16383 ≤ 65535)),
      word_bytes2 ((steady.trans peak).trans (by decide : 16383 ≤ 65535)),
      word_bytes2 (settle.trans (by decide : 600 ≤ 65535)), byte_toNat_of_le (retries.trans (by decide : 3 ≤ 255))]
    rfl

theorem encode_step_length {r : StepRecord} {n : Nat} (h : StepStorable r n) : r.encode.length = 26 := by
  simp [StepRecord.encode, bytes2, h.params, h.four]

theorem clamp_step_storable {r : StepRecord} {n : Nat} (h : StepStorable r n) : r.clamp = r := by
  have params : clampParams r.action r.params = r.params := by
    rw [clampParams_eq]
    exact if_neg fun k => h.poll k.1 k.2.2
  unfold StepRecord.clamp Config.loadTop
  dsimp only
  rw [params, Nat.min_eq_left h.peak, Nat.min_eq_left h.steady, max_eq_left h.ramp.1, Nat.min_eq_left h.settle,
    max_eq_left h.timeout.1, Nat.min_eq_left h.retries]

theorem readPayloadImage_encode {p : PayloadRecord} (h : PayloadStorable p) : readPayloadImage p.encodeImage = some p := by
  obtain ⟨length, data⟩ := h
  have rest : ([] ++ p.data).length = 48 := data
  simp only [PayloadRecord.encodeImage, List.cons_append, List.nil_append, readPayloadImage, data, if_true, readFlag_flag,
    readPayloadKind_code, Option.bind_eq_bind, Option.bind_some, byte_toNat_of_le (length.trans (by decide : 48 ≤ 255)),
    Config.payloadTop, Nat.min_eq_left length]
  rfl

theorem readPointEntry_entry {p : Nat × Nat × Nat} (ha : p.1 ≤ 255) (hc : p.2.1 ≤ 255) (hv : p.2.2 ≤ 65535) :
    readPointEntry (pointEntry p) = some p := by
  simp only [pointEntry, bytes2, List.cons_append, List.nil_append, readPointEntry, byte_toNat_of_le ha, byte_toNat_of_le hc,
    word_bytes2 hv]

/-! ## The sections of the image, each at its place (R198) -/

section
variable {m x y : List Byte} {i k : Nat} (h : m.drop i = x ++ y) (hx : x.length = k)
include h hx

/-- A section read. -/
theorem take_section : (m.drop i).take k = x := by rw [h, ← hx, List.take_left]

/-- A section passed over. -/
theorem next_section : m.drop (i + k) = y := by rw [← List.drop_drop, h, ← hx, List.drop_left]
end

theorem getD_drop (m : List Byte) (k i : Nat) : (m.drop k).getD i 0 = m.getD (k + i) 0 := by
  simp [List.getD_eq_getElem?_getD]

/-- A section of records of one size. -/
theorem flatMap_length {α : Type} (size : Nat) (write : α → List Byte) (rs : List α) (h : ∀ r ∈ rs, (write r).length = size) :
    (rs.flatMap write).length = size * rs.length := by
  induction rs with
  | nil => rfl
  | cons r rs ih =>
    rw [List.flatMap_cons, List.length_append, h r (List.mem_cons_self ..), ih fun x mem => h x (List.mem_cons_of_mem _ mem),
      List.length_cons, Nat.mul_succ, Nat.add_comm]

/-- The image from the number of its points on. -/
def State.imageEnd (s : State) : List Byte :=
  bytes2 s.pinnedPoints.length ++ (s.pinnedPoints.flatMap pointEntry ++ checkBytes s.imageBody)

/-- The image, section by section. -/
theorem image_sections (s : State) : s.image = imageMarker ++ (s.settings.encode
    ++ ((bytes2 s.feedA.budget ++ bytes2 s.feedA.standing) ++ ((bytes2 s.feedB.budget ++ bytes2 s.feedB.standing)
    ++ (s.stations.toList.flatMap (fun r => r.config.encode) ++ (s.plan.toList.flatMap StepRecord.encode
    ++ (s.payloads.toList.flatMap PayloadRecord.encodeImage ++ s.imageEnd)))))) := by
  simp only [State.image, State.imageBody, State.imageEnd, List.append_assoc]

theorem step_of_mem {r : StepRecord} (h : r ∈ s.plan.toList) : ∃ n < 96, s.step n = r := by
  obtain ⟨n, lt, rfl⟩ := List.mem_iff_getElem.1 h
  have lt : n < 96 := by simpa using lt
  exact ⟨n, lt, by simp [State.step, getAt, lt]⟩

theorem image_points_length (s : State) : (s.pinnedPoints.flatMap pointEntry).length = 4 * s.pinnedPoints.length :=
  flatMap_length 4 _ _ fun _ _ => rfl

theorem settings_encode_length (t : Settings) : t.encode.length = 15 := by simp [Settings.encode, bytes2]

theorem image_stations_length : (s.stations.toList.flatMap (fun r => r.config.encode)).length = 882 := by
  rw [flatMap_length 7 _ _ fun r _ => rfl]
  simp

section
variable (h : Storable s)
include h

theorem image_plan_length : (s.plan.toList.flatMap StepRecord.encode).length = 2496 := by
  have each : ∀ r ∈ s.plan.toList, r.encode.length = 26 := fun r mem => by
    obtain ⟨n, lt, rfl⟩ := step_of_mem mem
    exact encode_step_length (h.plan n lt)
  rw [flatMap_length 26 _ _ each]
  simp

theorem image_payloads_length : (s.payloads.toList.flatMap PayloadRecord.encodeImage).length = 3264 := by
  have each : ∀ p ∈ s.payloads.toList, p.encodeImage.length = 51 := fun p mem => by
    simp [PayloadRecord.encodeImage, (h.payloads p mem).data]
  rw [flatMap_length 51 _ _ each]
  simp

/-! ### The records of each section -/

theorem read_stations (rest : List Byte) :
    readRecords 7 readStationConfig 126 (s.stations.toList.flatMap (fun r => r.config.encode) ++ rest)
      = some (s.stations.toList.map StationRecord.config) := by
  have := readRecords_flatMap 7 readStationConfig (fun r : StationRecord => r.config.encode) StationRecord.config s.stations.toList
    rest fun r mem => ⟨rfl, readStationConfig_encode (h.stations r mem)⟩
  rwa [Vector.length_toList] at this

theorem read_plan (rest : List Byte) :
    readRecords 26 readStep 96 (s.plan.toList.flatMap StepRecord.encode ++ rest) = some s.plan.toList := by
  have := readRecords_flatMap 26 readStep StepRecord.encode id s.plan.toList rest fun r mem => by
    obtain ⟨n, lt, rfl⟩ := step_of_mem mem
    exact ⟨encode_step_length (h.plan n lt), readStep_encode (h.plan n lt)⟩
  rwa [Vector.length_toList, List.map_id] at this

theorem read_payloads (rest : List Byte) :
    readRecords 51 readPayloadImage 64 (s.payloads.toList.flatMap PayloadRecord.encodeImage ++ rest) = some s.payloads.toList := by
  have := readRecords_flatMap 51 readPayloadImage PayloadRecord.encodeImage id s.payloads.toList rest fun p mem =>
    ⟨by simp [PayloadRecord.encodeImage, (h.payloads p mem).data], readPayloadImage_encode (h.payloads p mem)⟩
  rwa [Vector.length_toList, List.map_id] at this

theorem read_points (rest : List Byte) :
    readRecords 4 readPointEntry s.pinnedPoints.length (s.pinnedPoints.flatMap pointEntry ++ rest) = some s.pinnedPoints := by
  have := readRecords_flatMap 4 readPointEntry pointEntry id s.pinnedPoints rest fun q mem => by
    obtain ⟨p, pooled, rfl⟩ := List.mem_map.1 mem
    have pooled := (List.mem_filter.1 pooled).1
    obtain ⟨valid, channel⟩ := h.points.ranges p pooled
    obtain ⟨-, last⟩ := (validStation_iff _).1 valid
    exact ⟨rfl, readPointEntry_entry (last.trans (by decide)) channel (h.points.values p pooled).1⟩
  rwa [List.map_id] at this

/-- The steps read pass their tests (R99). -/
theorem plan_tests : stepNumbers.any (fun n => (s.plan.toList.getD n .default).badRecord n) = false := by
  rw [List.any_eq_false]
  intro n mem
  have lt : n < 96 := by simpa [stepNumbers] using mem
  have read : s.plan.toList.getD n .default = s.step n := by
    rw [List.getD_eq_getElem _ _ (by simpa using lt)]
    simp [State.step, getAt, lt]
  rw [read, (h.plan n lt).tests]
  decide

/-- The clamping of a load changes nothing that was stored. -/
theorem load_clamps : s.settings.clamp = s.settings
    ∧ (s.stations.toList.map StationRecord.config).map StationConfig.clamp = s.stations.toList.map StationRecord.config
    ∧ s.plan.toList.map StepRecord.clamp = s.plan.toList := by
  refine ⟨clamp_settings h.settings, ?_, ?_⟩
  · rw [List.map_map]
    exact List.map_congr_left fun r mem => clamp_stationConfig (h.stations r mem)
  · refine (List.map_congr_left fun r mem => ?_).trans (List.map_id _)
    obtain ⟨n, lt, rfl⟩ := step_of_mem mem
    exact clamp_step_storable (h.plan n lt)

theorem image_body_length : s.imageBody.length = 6669 + 4 * s.pinnedPoints.length := by
  simp only [State.imageBody, List.length_append, settings_encode_length, image_stations_length, image_plan_length h,
    image_payloads_length h, image_points_length]
  rfl

/-- The image passes its tests, and its sections are what was written, in the order of R198. -/
theorem readImage_image : readImage s.image = some
    { settings := s.settings
      feedA := (s.feedA.budget, s.feedA.standing)
      feedB := (s.feedB.budget, s.feedB.standing)
      stations := s.stations.toList.map StationRecord.config
      plan := s.plan.toList
      payloads := s.payloads.toList
      points := s.pinnedPoints } := by
  have few : s.pinnedPoints.length ≤ 256 := by
    unfold State.pinnedPoints
    rw [List.length_map]
    exact h.points.pinned
  have at0 : s.image.drop 0 = _ := image_sections s
  have at2 : s.image.drop 2 = _ := next_section at0 rfl
  have at17 : s.image.drop 17 = _ := next_section at2 (settings_encode_length s.settings)
  have at21 : s.image.drop 21 = _ := next_section at17 rfl
  have at25 : s.image.drop 25 = _ := next_section at21 rfl
  have at907 : s.image.drop 907 = _ := next_section at25 image_stations_length
  have at3403 : s.image.drop 3403 = _ := next_section at907 (image_plan_length h)
  have at6667 : s.image.drop 6667 = s.imageEnd := next_section at3403 (image_payloads_length h)
  have at6669 : s.image.drop 6669 = _ := next_section (x := bytes2 s.pinnedPoints.length) at6667 rfl
  have count : imagePoints s.image = s.pinnedPoints.length := by
    have high : s.image.getD 6667 0 = byte (s.pinnedPoints.length / 256) := by
      rw [← Nat.add_zero 6667, ← getD_drop, at6667]
      rfl
    have low : s.image.getD 6668 0 = byte s.pinnedPoints.length := by
      rw [← getD_drop s.image 6667 1, at6667]
      rfl
    unfold imagePoints
    rw [high, low, word_bytes2 (few.trans (by decide))]
  have checks : imageChecks s.image = true := by
    refine imageChecks_append _ ?_
    rw [show s.imageBody ++ checkBytes s.imageBody = s.image from rfl, count]
    exact image_body_length h
  obtain ⟨settings, stations, plan⟩ := load_clamps h
  rw [readImage_tests s.image (take_section at0 rfl) (by rw [count]; exact few) checks,
    readImageRecords_eq s.image s.settings (s.feedA.budget, s.feedA.standing) (s.feedB.budget, s.feedB.standing)
      (s.stations.toList.map StationRecord.config) s.plan.toList s.payloads.toList s.pinnedPoints, settings, stations, plan]
  · rw [take_section at2 (settings_encode_length _), readSettings_encode h.settings]
  · rw [take_section (k := 4) at17 rfl]
    exact readFeedImage_bytes (h.feeds .a).1 (h.feeds .a).2
  · rw [take_section (k := 4) at21 rfl]
    exact readFeedImage_bytes (h.feeds .b).1 (h.feeds .b).2
  · rw [at25, read_stations h]
  · rw [at907, read_plan h]
  · rw [at3403, read_payloads h]
  · rw [count, at6669, read_points h]
  · exact plan_tests h
end

/-- Settles O11: the sections of the image, each read back from its own bytes. -/
theorem storedImageLoadsBack : Obligations.StoredImageLoadsBack := by
  unfold Obligations.StoredImageLoadsBack
  exact fun s h => readImage_image h

end Sys2Proof.Machine
end

section
/-! SUPPORT. The closing of an event while the F-port sends, the frames that pass downward (R21, R27), the reply timeout that runs from
the leaving of its frame (R32), and the reset requests (R186). -/

namespace Sys2Proof.Machine

variable {s : State}

/-! ## The closing of an event while the F-port sends -/

/-- Besides what the event has left, the closing writes the upward side, and of that only the NOTICE while the S-port sends too. -/
theorem close_upward {t : State} (h : t.FBusy) : ∃ v, s.close t = t.upward v
    ∧ (t.SBusy → v.replies = t.replies ∧ v.passUp = t.passUp ∧ v.wireS = t.wireS) := by
  refine ⟨_, (close_fBusy h).trans (noticed_up t _), fun sends => ?_⟩
  rw [sArbiter_of_busy sends (testNotice_wireS _ _)]
  exact ⟨testNotice_replies _, testNotice_passUp _ _, testNotice_wireS _ _⟩

/-- A frame reaches the Classifier from a supervisor that is not silent with the assembly in IDLE and the silence timer reloaded. -/
theorem arrive_present (present : s.silence.silent = false) (f : Frame) :
    s.arrive .s f = s.heard.classifyDown s.reportedEmpty f := by
  have heard : (s.endFrame .s).reloadSilence.endSilence = s.heard := by
    unfold State.endSilence State.heard
    simp [State.reloadSilence, State.endFrame, State.setPort, present]
  have set : (s.endFrame .s).reportedEmpty = s.reportedEmpty := reportedEmpty_congr rfl rfl
  unfold State.arrive State.sArrival
  dsimp only
  rw [heard, set]

/-! ## Replies and deferrals -/

theorem placeReply_counter (r : Reply) (c : Counter) (h : c ≠ .repliesLost) : (s.placeReply r).counter c = s.counter c := by
  unfold State.placeReply
  split
  · rfl
  · rw [count_counted, if_neg h]

/-- A reply at a full queue is lost and counted (R34). -/
theorem placeReply_full (r : Reply) (full : 16 ≤ s.replies.length) : s.placeReply r = s.count .repliesLost := by
  rw [placeReply_eq, if_neg (Nat.not_lt.mpr full)]

theorem count_replies (c : Counter) : (s.count c).replies = s.replies := by rw [count_eq]

/-- A reply placed stands at the tail, or the queue is full and stays. -/
theorem placeReply_replies_full (r : Reply) (full : 16 ≤ s.replies.length) : (s.placeReply r).replies = s.replies := by
  rw [placeReply_full r full, count_replies]

section
variable (f : Frame) (len : Nat)

theorem defer_counter (c : Counter) (h : c ≠ .repliesLost) : (s.defer f len).counter c =
    if c = .framesDeferred then counted (s.counter c) else s.counter c := by
  unfold State.defer State.replyHold
  rw [raise_counter, count_counted, placeReply_counter _ _ h]

theorem defer_replies : (s.defer f len).replies = (s.replyHold f .deferred len).replies := by
  unfold State.defer
  rw [raise_replies, count_replies]

theorem defer_isPending : (s.defer f len).isPending .deferral = true := raise_isPending _ _

theorem defer_repliesLost (full : 16 ≤ s.replies.length) :
    (s.defer f len).counter .repliesLost = counted (s.counter .repliesLost) := by
  unfold State.defer State.replyHold
  rw [raise_counter, count_counted, if_neg (by decide), placeReply_full _ full, count_counted, if_pos rfl]
end

/-! ## A frame decided pass (R21, R23, R27) -/

/-- The counting of a passed frame of unknown kind (R23). -/
def State.countUnknown (s : State) (known : Bool) : State := if known then s else s.count .unknownPassed

theorem countUnknown_holds (known : Bool) : s.countUnknown known = s.holding (s.countUnknown known) := by
  unfold State.countUnknown
  split
  · rfl
  · conv_lhs => rw [← holding_self s, holding_count]

theorem countUnknown_counter (known : Bool) (c : Counter) : (s.countUnknown known).counter c =
    if c = .unknownPassed ∧ known = false then counted (s.counter c) else s.counter c := by
  unfold State.countUnknown
  cases known
  · simp [count_counted]
  · simp

theorem countUnknown_replies (known : Bool) : (s.countUnknown known).replies = s.replies := by
  unfold State.countUnknown
  split
  · rfl
  · exact count_replies _

/-- The downward decision of a frame that is neither an ALERT nor for a queue is pass (R21, R23). -/
theorem classifyDown_pass {f : Frame} (b : Bool) (low : 1 ≤ f.station) (kind : f.kind ≠ kindAlert)
    (pass : f.station = 127 ∨ (f.kind ≠ kindSet ∧ f.kind ≠ kindOrder) ∨ (s.seenState f.station).holds = false) :
    s.classifyDown b f = s.passDownFrame f := by
  unfold State.classifyDown
  rw [if_neg (by omega), if_neg kind]
  by_cases all : f.station = 127
  · rw [if_pos all]
  · rw [if_neg all, if_neg]
    rcases pass with pass | ⟨set, order⟩ | state
    · exact absurd pass all
    · simp [set, order]
    · simp [state]

/-- A pass-down FIFO put in. -/
def State.setPassDown (s : State) (x : List Frame) : State := { s with passDown := x }

theorem untouched_setPassDown (x : List Frame) : Untouched s (s.setPassDown x) := by
  have station : ∀ a, (s.setPassDown x).station a = s.station a := station_congr rfl
  exact ⟨rfl, rfl, rfl, rfl, rfl, rfl, rfl, rfl, rfl, rfl, rfl, rfl, rfl, rfl, rfl, rfl, rfl, rfl,
    fun a => congrArg StationRecord.config (station a), fun a => congrArg StationRecord.history (station a)⟩

theorem countUnknown_passDown (known : Bool) : (s.countUnknown known).passDown = s.passDown := by
  rw [countUnknown_holds]; rfl

theorem passDownFrame_eq (f : Frame) : s.passDownFrame f =
    if s.passDown.length < 8 then (s.countUnknown (knownDown f.kind)).setPassDown (s.passDown ++ [f])
    else (s.countUnknown (knownDown f.kind)).defer f 8 := by
  have fifo := countUnknown_passDown (s := s) (knownDown f.kind)
  have split : s.passDownFrame f = if (s.countUnknown (knownDown f.kind)).passDown.length < 8 then
      (s.countUnknown (knownDown f.kind)).setPassDown ((s.countUnknown (knownDown f.kind)).passDown ++ [f])
    else (s.countUnknown (knownDown f.kind)).defer f 8 := rfl
  rw [split, fifo]

theorem countUnknown_queues (known : Bool) : (s.countUnknown known).queues = s.queues := by
  unfold State.countUnknown
  split
  · rfl
  · rw [count_eq]

theorem defer_queues (f : Frame) (len : Nat) : (s.defer f len).queues = s.queues := by
  unfold State.defer State.replyHold
  rw [raise_queues, count_eq]
  exact placeReply_queues _

/-- A frame decided pass writes the pass-down FIFO, the replies, the counters and the pending flags. -/
theorem passDownFrame_holds (f : Frame) :
    s.passDownFrame f = (s.setPassDown (s.passDownFrame f).passDown).holding (s.passDownFrame f)
      ∧ (s.passDownFrame f).queues = s.queues := by
  rw [passDownFrame_eq]
  split
  · rw [countUnknown_holds]
    exact ⟨rfl, countUnknown_queues _⟩
  · refine ⟨?_, (defer_queues _ _).trans (countUnknown_queues _)⟩
    rw [defer_holds, countUnknown_holds]
    rfl

/-- Settles O21: the Classifier's decision, then the FIFO with room and the full one, while both ports send. -/
theorem passDownOrDefer : Obligations.PassDownOrDefer := by
  unfold Obligations.PassDownOrDefer
  intro s f present fBusy sBusy low high kind pass
  obtain ⟨t, ht⟩ : ∃ t, t = s.heard.passDownFrame f := ⟨_, rfl⟩
  have arrives : exec (.sFrameArrival f) s = .next (s.close t) := by
    show Host.Outcome.next (s.close (s.arrive .s f)) = _
    rw [arrive_present present, classifyDown_pass (s := s.heard) _ low kind pass, ht]
  obtain ⟨shape, queues⟩ := passDownFrame_holds (s := s.heard) f
  have cases := passDownFrame_eq (s := s.heard) f
  obtain ⟨c, hc⟩ : ∃ c, c = s.heard.countUnknown (knownDown f.kind) := ⟨_, rfl⟩
  rw [← ht] at shape queues cases
  rw [← hc] at cases
  have counter : ∀ k, c.counter k = if k = .unknownPassed ∧ knownDown f.kind = false then counted (s.counter k) else s.counter k :=
    fun k => hc ▸ countUnknown_counter _ k
  have waiting : c.replies = s.replies := hc ▸ countUnknown_replies _
  have keeps {α : Type} (g : State → α) : g t = g ((s.heard.setPassDown t.passDown).holding t) := congrArg g shape
  obtain ⟨v, closed, up⟩ := close_upward (s := s) (t := t) (show t.wireF.isSome = true by rw [keeps State.wireF]; exact fBusy)
  obtain ⟨replies, passUp, wireS⟩ := up (show t.wireS.isSome = true by rw [keeps State.wireS]; exact sBusy)
  have untouched : Untouched s.heard t := by
    rw [shape]
    exact (untouched_setPassDown _).trans (untouched_holding _)
  refine ⟨_, arrives.trans (by rw [closed]), untouched.trans (untouched_upward t v), ?unknown, queues, keeps State.run,
    keeps State.slots, keeps State.entries, keeps State.stations, passUp.trans (keeps State.passUp), keeps State.alertReserve,
    keeps State.wireF, wireS.trans (keeps State.wireS), fun room => ?room, fun full => ?full⟩
  case unknown =>
    have counts : t.counter .unknownPassed = c.counter .unknownPassed := by
      rw [cases]
      split
      · rfl
      · rw [defer_counter _ _ _ (by decide), if_neg (by decide)]
    refine counts.trans ((counter _).trans ?_)
    cases knownDown f.kind <;> simp
  case room =>
    have placed : t = c.setPassDown (s.passDown ++ [f]) := cases.trans (if_pos room)
    have fifo : t.passDown = s.passDown ++ [f] := by rw [placed]; rfl
    have kept : t.replies = s.replies := by rw [placed]; exact waiting
    have deferred : t.counter .framesDeferred = s.counter .framesDeferred := by
      rw [placed]; exact (counter _).trans (if_neg (by simp))
    exact ⟨fifo, replies.trans kept, deferred⟩
  case full =>
    have dropped : t = c.defer f 8 := cases.trans (if_neg (Nat.not_lt.mpr full))
    have fifo : t.passDown = s.passDown := by
      rw [dropped, defer_holds, hc]; exact countUnknown_passDown _
    have pending : t.isPending .deferral = true := by rw [dropped]; exact defer_isPending _ _
    have deferred : t.counter .framesDeferred = counted (s.counter .framesDeferred) := by
      rw [dropped, defer_counter _ _ _ (by decide), if_pos rfl, counter, if_neg (by simp)]
    refine ⟨fifo, pending, deferred, fun room => replies.trans ?_, fun lost => ⟨replies.trans ?_, ?_⟩⟩
    · rw [dropped, defer_replies, State.replyHold, placeReply_replies (by rw [waiting]; exact room), waiting]
      rfl
    · rw [dropped, defer_replies, State.replyHold, placeReply_replies_full _ (by rw [waiting]; exact lost), waiting]
    · show t.counter .repliesLost = _
      rw [dropped, defer_repliesLost _ _ (by rw [waiting]; exact lost), counter, if_neg (by simp)]

/-! ## The leaving of an injection frame (R32, R129, R136) -/

/-- The slot of a station's record is one of the eight, and its record is the station's (R125). -/
theorem slotOf_some {a i : Nat} (h : s.slotOf a = some i) : i < 8 ∧ ∃ r, s.slot i = some r ∧ r.station = a := by
  have mem : i ∈ slotNumbers := List.mem_of_find?_eq_some h
  have found := List.find?_some h
  refine ⟨by simpa [slotNumbers] using mem, ?_⟩
  cases slot : s.slot i with
  | none => simp [slot] at found
  | some r => exact ⟨r, rfl, by simpa [slot] using found⟩

/-- The transmitter of the F-port with its frame gone. -/
def State.freeF (s : State) : State := { s with wireF := none }

theorem untouched_freeF : Untouched s s.freeF := by
  have station : ∀ a, s.freeF.station a = s.station a := station_congr rfl
  exact ⟨rfl, rfl, rfl, rfl, rfl, rfl, rfl, rfl, rfl, rfl, rfl, rfl, rfl, rfl, rfl, rfl, rfl, rfl,
    fun a => congrArg StationRecord.config (station a), fun a => congrArg StationRecord.history (station a)⟩

theorem fLeaves_injection {f : Frame} {i : Nat} {r : InjectionRecord} (wire : s.wireF = some { frame := f, source := .injection })
    (slot : s.slotOf f.station = some i) (record : s.slot i = some r) (attempt : r.outstanding = some f.seq) :
    s.fLeaves = s.freeF.setSlot i (some { r with deadline := some (s.later (s.step r.step).replyTimeout) }) := by
  have leaves : s.fLeaves = s.freeF.injectionLeft f := by
    unfold State.fLeaves
    rw [wire]
    rfl
  have slot' : s.freeF.slotOf f.station = some i := slot
  have record' : s.freeF.slot i = some r := record
  rw [leaves, State.injectionLeft, slot']
  dsimp only
  rw [record']
  exact if_pos attempt

theorem fLeaves_free (free : s.wireF = none) : s.fLeaves = s := by
  unfold State.fLeaves
  rw [free]

/-- Settles O35: the deadline written at the leaving, then the closing, in which a quiet F-port takes nothing. -/
theorem replyTimeoutRunsFromLeaving : Obligations.ReplyTimeoutRunsFromLeaving := by
  unfold Obligations.ReplyTimeoutRunsFromLeaving
  refine ⟨fun s f i r wire slot record attempt quiet => ?_, fun s free quiet => ?_⟩
  · have lt := (slotOf_some slot).1
    rw [fLeaves_injection wire slot record attempt] at quiet
    obtain ⟨u, hu⟩ : ∃ u, u = s.freeF.setSlot i
      (some { r with deadline := some (s.later (s.step r.step).replyTimeout) }) := ⟨_, rfl⟩
    rw [← hu] at quiet
    have closed : s.close u = u.sArbiter :=
      close_quiet s u quiet (reportedEmpty_congr (by rw [hu]; rfl) (by rw [hu]; rfl))
    have leaves : exec .fTransmitComplete s = .next u.sArbiter := by
      show Host.Outcome.next (s.close s.fLeaves) = _
      rw [fLeaves_injection wire slot record attempt, ← hu, closed]
    have slots : ∀ j, u.sArbiter.slot j =
        if i = j ∧ j < 8 then some { r with deadline := some (s.later (s.step r.step).replyTimeout) } else s.slot j := fun j => by
      rw [sArbiter_up, hu]
      exact setSlot_slot s.freeF i _ j
    refine ⟨_, leaves, ?_, (slots i).trans (if_pos ⟨rfl, lt⟩), fun j other => (slots j).trans (if_neg fun k => other k.1.symm), ?_⟩
    · rw [sArbiter_up, hu]
      rfl
    · have left : Untouched s u := by
        rw [hu]
        exact untouched_freeF.trans (untouched_of_core (setSlot_core s.freeF i _))
      refine ⟨left.trans ?_, ?_⟩
      · rw [← closed]
        exact untouched_close s u
      · rw [sArbiter_up, hu]
        exact ⟨rfl, rfl, rfl, rfl⟩
  · show Host.Outcome.next (s.close s.fLeaves) = _
    rw [fLeaves_free free, close_quiet s s quiet rfl]

/-! ## The run record through the F-port's choice -/

theorem checkDrain_run (a : Nat) : (s.checkDrain a).run = s.run := by
  unfold State.checkDrain
  split
  · exact drainEnd_run a
  · rfl

theorem rearm_run : s.rearm.run = s.run := by
  unfold State.rearm
  split <;> rfl

/-- With no run in progress the F-port's choice leaves the run record: what it has the Run Engine do starts nothing. -/
theorem fChoose_run_idle (fuel : Nat) (idle : s.run.inProgress = false) : (s.fChoose fuel).run = s.run := by
  induction fuel generalizing s with
  | zero => rfl
  | succ k ih =>
    have head : ∀ x g, (s.sendHead x g).run = s.run := fun x g => by
      unfold State.sendHead
      split <;> rfl
    unfold State.fChoose
    split
    · rfl
    · exact head _ _
    · unfold State.sendReserve
      split <;> rfl
    · exact head _ _
    · next a _ =>
      unfold State.sendDrain
      split
      · rfl
      · next f rest _ =>
        have taken : (s.setQueue a rest).rearm.run = s.run := by
          rw [rearm_run]
          cases a <;> rfl
        dsimp only
        split
        · rw [settleFrom_idle]
          · exact (checkDrain_run a).trans taken
          · rw [checkDrain_run]
            exact (congrArg RunRecord.inProgress taken).trans idle
        · exact taken
    · split
      · rfl
      · next i _ _ r _ =>
        split
        · rfl
        · split
          · have ended : (s.finishEmpty i r).run = s.run := by
              have finished : ((s.setSlot i none).finishFrames r.step).run = s.run := settleStep_run _
              unfold State.finishEmpty
              rw [settle_idle _ (by rw [finished]; exact idle), finished]
            rw [ih (by rw [ended]; exact idle), ended]
          · exact setEntry_run ..

theorem fArbiter_run_idle (idle : s.run.inProgress = false) : s.fArbiter.run = s.run := by
  unfold State.fArbiter
  split
  · exact fChoose_run_idle 128 idle
  · rfl

theorem close_run_idle (t : State) (idle : t.run.inProgress = false) : (s.close t).run = t.run := by
  unfold State.close
  rw [noticed_up]
  exact fArbiter_run_idle idle

/-! ## WARM-RESET and COLD-RESET (R34, R186) -/

/-- A reset made pending, or none. -/
def State.setReset (s : State) (k : Option ResetKind) : State := { s with resetPending := k }

/-- The response of a reset request that is executed: the reset pending, DONE to be answered. -/
def resetResponse (z : State) : Response :=
  { state := z, status := .done, wrapped := false, detail := fun _ => [], isReset := true }

/-- A REQUEST that is executed and leaves the reported set empty or not as it found it: its ANSWER alone follows (R176, R191). -/
theorem request_keeps (b : Bool) (seq code : Byte) (args : List Byte) (r : Response) (loaded : s.loading = false)
    (noReset : s.resetPending = none) (hr : s.execute code args = r) (same : r.state.reportedEmpty = s.reportedEmpty) :
    s.request b seq (code :: args) = r.finish b seq code := by
  have responds : s.respond (code :: args) = r := by simp [State.respond, loaded, noReset, hr]
  cases set : s.reportedEmpty <;> simp [State.request, responds, Response.afterNotice, same, set]

section
variable (k : ResetKind)

theorem reqReset_storing (h : s.storing.isSome = true) : s.reqReset k [] = s.refuseFor .storing := by simp [State.reqReset, h]

theorem reqReset_pending (h : s.storing = none) : s.reqReset k [] = resetResponse (s.setReset (some k)) := by
  unfold State.reqReset
  rw [if_neg (by simp [h])]
  rfl

/-- A reset request with room for its ANSWER: the reset waits for the leaving of that ANSWER (R186). -/
theorem concluded_reset (h : Ready s) (hq : s.FQuiet) (seq code : Byte)
    (hr : s.heard.execute code [] = resetResponse (s.heard.setReset (some k))) :
    s.concluded (s.requestArrival seq [code]) = .next (State.sArbiter { s.heard with
      resetPending := some k
      replies := s.replies ++ [{ frame := answerFrame seq code .done false [], isReset := true }] }) := by
  obtain ⟨z, hz⟩ : ∃ z, z = s.heard.setReset (some k) := ⟨_, rfl⟩
  rw [← hz] at hr
  have quiet : z.FQuiet := by rw [hz]; exact FQuiet_congr hq rfl rfl rfl rfl rfl rfl rfl rfl
  have room : z.replies.length < 16 := by rw [hz]; exact h.room
  have reported : z.reportedEmpty = s.reportedEmpty := by rw [hz]; exact reportedEmpty_congr rfl rfl
  have finished : (resetResponse z).finish s.reportedEmpty seq code
      = z.placeReply { frame := answerFrame seq code .done false [], isReset := true } := by
    unfold Response.finish resetResponse
    dsimp only
    rw [fArbiter_quiet z quiet, show decide (Config.replyPlaces ≤ z.replies.length) = false from
      decide_eq_false (Nat.not_le.mpr room)]
    rfl
  have kept : (!s.reportedEmpty && z.reportedEmpty) = false := by rw [reported]; cases s.reportedEmpty <;> rfl
  rw [requestArrival_ready h, hr, finished]
  rw [show (resetResponse z).state = z from rfl, kept, if_neg Bool.false_ne_true, placeReply_eq, if_pos room, hz]
  refine congrArg Host.Outcome.next (close_quiet s _ (FQuiet_congr hq rfl rfl rfl rfl rfl rfl rfl rfl) (reportedEmpty_congr rfl rfl))

/-- A reset request whose ANSWER is lost: the loss is counted, and the reset is taken in the request's own event (R34, R186). -/
theorem concluded_reset_lost (seq code : Byte) (loaded : s.loading = false) (noReset : s.resetPending = none)
    (full : 16 ≤ s.replies.length) (hr : ∀ u : State, u.storing = s.storing →
      u.execute code [] = resetResponse (u.setReset (some k))) :
    ∃ x : State, s.concluded (s.requestArrival seq [code]) = .next (s.close x.takeReset) ∧ x.resetPending = some k
      ∧ x.counter .repliesLost = counted (s.counter .repliesLost) ∧ x.plan = s.plan ∧ x.settings = s.settings
      ∧ x.straps = s.straps ∧ x.configMemory = s.configMemory := by
  obtain ⟨u, hu⟩ : ∃ u, u = (s.endFrame .s).reloadSilence.endSilence := ⟨_, rfl⟩
  have base : { u.core with silence := (s.endFrame .s).reloadSilence.silence } = (s.endFrame .s).reloadSilence.core :=
    hu ▸ endSilence_core _
  have keeps {α : Type} (g : State → α) : g { u.core with silence := (s.endFrame .s).reloadSilence.silence }
      = g (s.endFrame .s).reloadSilence.core := congrArg g base
  have loading : u.loading = false := (keeps State.loading).trans loaded
  have free : u.resetPending = none := (keeps State.resetPending).trans noReset
  have replies : u.replies = s.replies := keeps State.replies
  obtain ⟨z, hz⟩ : ∃ z, z = u.setReset (some k) := ⟨_, rfl⟩
  have executed : u.execute code [] = resetResponse z := hz ▸ hr u (keeps State.storing)
  have reported : z.reportedEmpty = u.reportedEmpty := by rw [hz]; exact reportedEmpty_congr rfl rfl
  obtain ⟨b, hb⟩ : ∃ b, b = (s.endFrame .s).reportedEmpty := ⟨_, rfl⟩
  have down := fArbiter_downBase z
  have arbiter {α : Type} (g : State → α) : g z.fArbiter.downBase = g z.downBase := congrArg g down
  have waiting : z.fArbiter.replies = s.replies := (arbiter State.replies).trans (by rw [hz]; exact replies)
  have finished : (resetResponse z).finish b seq code = ((z.fArbiter.count .repliesLost).testNotice b).takeReset := by
    unfold Response.finish resetResponse
    dsimp only
    rw [decide_eq_true (show Config.replyPlaces ≤ z.fArbiter.replies.length by rw [waiting]; exact full),
      placeReply_full _ (by rw [waiting]; exact full)]
    rfl
  have request : u.request b seq [code] = (resetResponse z).finish b seq code :=
    request_keeps b seq code [] _ loading free executed reported
  have arrives : s.requestArrival seq [code] = ((z.fArbiter.count .repliesLost).testNotice b).takeReset := by
    rw [← finished, ← request, hb, hu]
    simp [State.requestArrival, State.arrive, State.sArrival, State.classifyDown]
  have noticed := noticed_up (z.fArbiter.count .repliesLost) b
  have test {α : Type} (g : State → α) : g ((z.fArbiter.count .repliesLost).testNotice b).base
      = g (z.fArbiter.count .repliesLost).base := congrArg g (testNotice_base _ b)
  refine ⟨_, congrArg (fun x => Host.Outcome.next (s.close x)) arrives, ?_, ?_, ?_, ?_, ?_, ?_⟩
  · refine (test State.resetPending).trans ?_
    rw [count_eq]
    exact (arbiter State.resetPending).trans (by rw [hz]; rfl)
  · have counters : ((z.fArbiter.count .repliesLost).testNotice b).counters = (z.fArbiter.count .repliesLost).counters :=
      test State.counters
    unfold State.counter
    rw [counters]
    refine (count_counted _ _ _).trans ((if_pos rfl).trans (congrArg counted ?_))
    exact (arbiter (fun x => x.counter .repliesLost)).trans (by rw [hz]; exact keeps (fun x => x.counter .repliesLost))
  · refine (test State.plan).trans ?_
    rw [count_eq]
    exact (arbiter State.plan).trans (by rw [hz]; exact keeps State.plan)
  · refine (test State.settings).trans ?_
    rw [count_eq]
    exact (arbiter State.settings).trans (by rw [hz]; exact keeps State.settings)
  · refine (test State.straps).trans ?_
    rw [count_eq]
    exact (arbiter State.straps).trans (by rw [hz]; exact keeps State.straps)
  · refine (test State.configMemory).trans ?_
    rw [count_eq]
    exact (arbiter State.configMemory).trans (by rw [hz]; exact keeps State.configMemory)
end

/-- Settles O15: the response of each request, its ANSWER with room and without, and the reset taken. -/
theorem resetRequestsBecomePending : Obligations.ResetRequestsBecomePending := by
  unfold Obligations.ResetRequestsBecomePending
  refine ⟨fun s seq h hq storing => ⟨?_, ?_⟩, fun s seq h hq storing => ⟨?_, ?_⟩,
    fun s seq loaded noReset storing full => ⟨?warm, ?cold⟩⟩
  · exact concluded_refused h hq seq 56 [] .storing (reqReset_storing (s := s.heard) .warm storing)
  · exact concluded_refused h hq seq 57 [] .storing (reqReset_storing (s := s.heard) .cold storing)
  · exact concluded_reset .warm h hq seq 56 (reqReset_pending (s := s.heard) .warm storing)
  · exact concluded_reset .cold h hq seq 57 (reqReset_pending (s := s.heard) .cold storing)
  case warm =>
    obtain ⟨x, done, pending, lost, plan, settings, -⟩ := concluded_reset_lost .warm seq 56 loaded noReset full
      fun u same => reqReset_pending (s := u) .warm (same.trans storing)
    have taken : x.takeReset = x.warmReset := by rw [State.takeReset, pending]
    rw [taken] at done
    refine ⟨_, done, close_resetPending _ _, ?_, (close_counter _ _ _).trans lost, (close_plan _ _).trans plan,
      (close_settings _ _).trans settings⟩
    rw [close_run_idle _ rfl]
    rfl
  case cold =>
    obtain ⟨x, done, pending, -, -, -, straps, memory⟩ := concluded_reset_lost .cold seq 57 loaded noReset full
      fun u same => reqReset_pending (s := u) .cold (same.trans storing)
    have taken : x.takeReset = x.coldReset := by rw [State.takeReset, pending]
    rw [taken] at done
    exact ⟨_, done, close_resetPending _ _, close_loading _ _, close_bridgeTime _ _, (close_straps _ _).trans straps,
      close_points _ _, (close_configMemory _ _).trans memory⟩

end Sys2Proof.Machine
end

section
/-! SUPPORT. What the Run Engine's follow-up does to the step entries, the station records and the injection slots, said once, by one
induction over its turns (`followUp_turns`). -/

namespace Sys2Proof.Machine

variable {s : State}

/-! ## The induction over the follow-up -/

/-- A relation of states that every turn of the follow-up and the end of a run stand in. -/
structure Turns (R : State → State → Prop) : Prop where
  refl     : ∀ s, R s s
  trans    : ∀ s t u, R s t → R t u → R s u
  evaluate : ∀ s n, R s (s.evaluate n)
  complete : ∀ s n, s.mayAct n = true → R s (s.completeFrameless n)
  wait     : ∀ s f, R s (s.markWait f)
  grant    : ∀ s i n, i < 8 → s.slot i = none → s.eligible n = true → R s (s.grant i n)
  ended    : ∀ s o, s.inFlight = false → R s (s.drainMembers.closeRun o)

theorem nextGrant_free {i n : Nat} (h : s.nextGrant = some (i, n)) : i < 8 ∧ s.slot i = none := by
  unfold State.nextGrant at h
  split at h
  · next j free =>
    obtain ⟨m, -, same⟩ := Option.map_eq_some_iff.mp h
    cases same
    exact ⟨by simpa [slotNumbers] using List.mem_of_find?_eq_some free, by simpa using List.find?_some free⟩
  · cases h

section
variable {R : State → State → Prop} (h : Turns R)
include h

theorem evaluateAll_turns (s : State) : R s s.evaluateAll := by
  unfold State.evaluateAll
  exact foldl_kept (R s) State.evaluate stepNumbers (fun t n _ reached => h.trans _ _ _ reached (h.evaluate t n)) s (h.refl s)

theorem settleLoop_turns (fuel : Nat) (due : Bool) (s : State) : R s (State.settleLoop fuel due s) := by
  induction fuel generalizing due s with
  | zero => exact h.refl s
  | succ k ih =>
    have evaluated := evaluateAll_turns h s
    simp only [State.settleLoop]
    split
    · next n found =>
      have acts := List.find?_some found
      simp only [Bool.and_eq_true] at acts
      exact h.trans _ _ _ (h.trans _ _ _ evaluated (h.complete _ n acts.1)) (ih _ _)
    · have waited := h.trans _ _ _ evaluated (h.trans _ _ _ (h.wait s.evaluateAll .a) (h.wait _ .b))
      split
      · split
        · next i n found =>
          obtain ⟨lt, free⟩ := nextGrant_free found
          exact h.trans _ _ _ (h.trans _ _ _ waited (h.grant _ i n lt free (nextGrant_eligible _ found))) (ih _ _)
        · exact waited
      · exact evaluated

/-- What every turn does, the follow-up does. -/
theorem followUp_turns (due : Bool) (s : State) : R s (State.followUp due s) := by
  unfold State.followUp State.testRunEnd State.endRun
  split
  · split
    · next done =>
      simp only [Bool.and_eq_true, Bool.not_eq_true'] at done
      exact h.trans _ _ _ (settleLoop_turns h 200 due s) (h.ended _ _ done.1.2)
    · exact settleLoop_turns h 200 due s
  · exact h.refl s
end

/-! ## Step entries -/

/-- What the follow-up does to an entry: a step that is IDLE, SETTLING or terminal keeps it, and of the others the failure cause, the
NAK reason and the attempt count stay, and none is PENDING or AWAITING that was neither. -/
structure EntryTurn (e e' : StepEntry) : Prop where
  cause    : e'.cause = e.cause
  nak      : e'.nak = e.nak
  attempts : e'.attempts = e.attempts
  rests    : e.state ≠ .pending → e.state ≠ .awaiting → e.state ≠ .issued → e' = e
  waits    : e'.state = .pending ∨ e'.state = .awaiting → e.state = .pending ∨ e.state = .awaiting

theorem EntryTurn.rfl' (e : StepEntry) : EntryTurn e e := ⟨rfl, rfl, rfl, fun _ _ _ => rfl, id⟩

theorem EntryTurn.trans {e e' e'' : StepEntry} (h : EntryTurn e e') (k : EntryTurn e' e'') : EntryTurn e e'' :=
  ⟨k.cause.trans h.cause, k.nak.trans h.nak, k.attempts.trans h.attempts, fun p a i => by
    have same := h.rests p a i
    rw [k.rests (by rw [same]; exact p) (by rw [same]; exact a) (by rw [same]; exact i), same],
    fun w => h.waits (k.waits w)⟩

/-- From `s` to `t` every entry turns so. -/
def EntriesTurn (s t : State) : Prop := ∀ n, EntryTurn (s.entry n) (t.entry n)

theorem EntriesTurn.rfl' (s : State) : EntriesTurn s s := fun _ => .rfl' _

theorem EntriesTurn.trans {s t u : State} (h : EntriesTurn s t) (k : EntriesTurn t u) : EntriesTurn s u := fun n => (h n).trans (k n)

theorem entry_congr {t : State} (h : t.entries = s.entries) (n : Nat) : t.entry n = s.entry n := by simp [State.entry, h]

theorem entriesTurn_of_same {t : State} (h : t.entries = s.entries) : EntriesTurn s t := fun n => by
  rw [entry_congr h]
  exact .rfl' _

theorem entriesTurn_setEntry (n : Nat) (e : StepEntry) (h : EntryTurn (s.entry n) e) : EntriesTurn s (s.setEntry n e) := fun m => by
  rw [setEntry_entry]
  split
  · next same => exact same.1 ▸ h
  · exact .rfl' _

/-- A waiting or issued step that goes on to a state in which it waits no more. -/
theorem entryTurn_onward {e : StepEntry} (x : StepState) (settle : Option BridgeTime)
    (before : e.state = .pending ∨ e.state = .awaiting ∨ e.state = .issued) (after : x ≠ .pending ∧ x ≠ .awaiting) :
    EntryTurn e { e with state := x, settle := settle } := by
  refine ⟨rfl, rfl, rfl, fun p a i => ?_, fun w => ?_⟩
  · rcases before with b | b | b
    · exact absurd b p
    · exact absurd b a
    · exact absurd b i
  · rcases w with w | w
    · exact absurd w after.1
    · exact absurd w after.2

section
variable (n a i : Nat)

theorem setStepState_entry (m : Nat) (x : StepState) :
    (s.setStepState n x).entry m = if n = m ∧ m < 96 then { s.entry n with state := x } else s.entry m := setEntry_entry ..

theorem entriesTurn_evaluate : EntriesTurn s (s.evaluate n) := by
  unfold State.evaluate
  split
  · next pending =>
    have before : (s.entry n).state = .pending := stepState_entry pending (by decide)
    split
    · exact entriesTurn_setEntry n _ (entryTurn_onward .skipped _ (.inl before) (by decide))
    · exact .rfl' s
    · split
      · exact entriesTurn_setEntry n _ ⟨rfl, rfl, rfl, fun p => absurd before p, fun _ => .inl before⟩
      · exact entriesTurn_setEntry n _ (entryTurn_onward .notApplicable _ (.inl before) (by decide))
  · exact .rfl' s

theorem cancelRecordOf_entries : (s.cancelRecordOf a n).entries = s.entries := by
  unfold State.cancelRecordOf State.cancelRecord
  repeat' split
  all_goals rfl

theorem entriesTurn_leaveStep : EntriesTurn s (State.leaveStep a true s n) := by
  unfold State.leaveStep
  split
  · next before => exact entriesTurn_setEntry n _ (entryTurn_onward .skipped _ (.inl before) (by decide))
  · next before => exact entriesTurn_setEntry n _ (entryTurn_onward .skipped _ (.inr (.inl before)) (by decide))
  · next before =>
    have skipped : EntriesTurn s (s.setStepState n .skipped) :=
      entriesTurn_setEntry n _ (entryTurn_onward .skipped _ (.inr (.inr before)) (by decide))
    exact skipped.trans (entriesTurn_of_same (cancelRecordOf_entries n a))
  · exact .rfl' s
  · exact .rfl' s

theorem entriesTurn_leaveRun : EntriesTurn s (s.leaveRun a true) := by
  have left : EntriesTurn s (s.updateStation a (fun r => { r with member := false })) := entriesTurn_of_same (updateStation_entries ..)
  unfold State.leaveRun State.leaveSteps
  dsimp only
  split
  · exact foldl_kept (EntriesTurn s) _ _ (fun t m _ reached => reached.trans (entriesTurn_leaveStep m a)) _ left
  · exact left

theorem entriesTurn_drainEnd : EntriesTurn s (s.drainEnd a) := by
  unfold State.drainEnd
  refine EntriesTurn.trans (entriesTurn_of_same ?_) (entriesTurn_leaveRun a)
  split <;> exact updateStation_entries ..

theorem entriesTurn_checkDrain : EntriesTurn s (s.checkDrain a) := by
  unfold State.checkDrain
  split
  · exact entriesTurn_drainEnd a
  · exact .rfl' s

theorem entriesTurn_enterDraining : EntriesTurn s (s.enterDraining a) := by
  unfold State.enterDraining
  split
  · exact (entriesTurn_of_same (updateStation_entries ..)).trans (entriesTurn_checkDrain a)
  · exact .rfl' s

theorem mayAct_awaiting (h : s.mayAct n = true) : (s.entry n).state = .awaiting := by
  simp only [State.mayAct, Bool.and_eq_true, decide_eq_true_eq] at h
  exact stepState_entry h.1.1 (by decide)

theorem entriesTurn_settleStep (h : (s.entry n).state = .awaiting) : EntriesTurn s (s.settleStep n) := by
  unfold State.settleStep
  split
  · exact entriesTurn_setEntry n _ (entryTurn_onward .done _ (.inr (.inl h)) (by decide))
  · exact entriesTurn_setEntry n _ (entryTurn_onward .settling _ (.inr (.inl h)) (by decide))

theorem issue_entries (r : StepRecord) : (s.issue i n r).entries = (s.setStepState n .issued).entries := by
  unfold State.issue State.setStepState State.setEntry State.syncHeads
  rw [syncHead_entries, syncHead_entries, syncHead_entries, syncHead_entries]
  have opened : ∀ (t : State) (k c : Nat), (t.openRecord i n k c).entries = t.entries := fun t k c => by
    unfold State.openRecord State.makeAttempt
    split <;> rfl
  have same : ∀ t : State, t.entries = s.entries → putAt t.entries n { t.entry n with state := .issued }
      = putAt s.entries n { s.entry n with state := .issued } := fun t h => by rw [entry_congr h, h]
  refine same _ ((opened _ _ _).trans ?_)
  split <;> rfl

theorem grant_entry (m : Nat) : (s.grant i n).entry m = if n = m ∧ m < 96 then { s.entry n with state := .issued } else s.entry m := by
  have entries : (s.grant i n).entries = (s.setStepState n .issued).entries := by
    rw [grant_eq]
    split
    · exact (updateStation_entries ..).trans (issue_entries ..)
    · exact issue_entries ..
  rw [entry_congr entries, setStepState_entry]

theorem entriesTurn_completeFrameless (acts : s.mayAct n = true) : EntriesTurn s (s.completeFrameless n) := by
  have settled := entriesTurn_settleStep n (mayAct_awaiting n acts)
  unfold State.completeFrameless
  dsimp only
  split
  · exact settled.trans (entriesTurn_enterDraining _)
  · exact settled

theorem markWait_keeps (f : Feed) : (s.markWait f).entries = s.entries ∧ (s.markWait f).slots = s.slots
    ∧ (s.markWait f).stations = s.stations := by
  unfold State.markWait
  repeat' split
  all_goals first | exact ⟨rfl, rfl, rfl⟩ | (cases f <;> exact ⟨rfl, rfl, rfl⟩)

theorem entriesTurn_grant (eligible : s.eligible n = true) : EntriesTurn s (s.grant i n) := fun m => by
  rw [grant_entry]
  split
  · next same =>
    obtain ⟨rfl, -⟩ := same
    exact entryTurn_onward .issued _ (.inr (.inl (mayAct_awaiting n (eligible_mayAct eligible)))) (by decide)
  · exact .rfl' _

theorem entriesTurn_ended (o : RunOutcome) : EntriesTurn s (s.drainMembers.closeRun o) := by
  have drained : EntriesTurn s s.drainMembers := by
    unfold State.drainMembers
    exact (foldl_kept (EntriesTurn s) _ _ (fun u a _ reached => reached.trans (entriesTurn_enterDraining a)) s (.rfl' s)).trans
      (entriesTurn_of_same rfl)
  exact drained.trans (entriesTurn_of_same rfl)
end

/-- The follow-up turns the entries. -/
theorem entriesTurn_followUp (due : Bool) (s : State) : EntriesTurn s (State.followUp due s) :=
  followUp_turns ⟨EntriesTurn.rfl', fun _ _ _ => EntriesTurn.trans, fun _ n => entriesTurn_evaluate n,
    fun _ n acts => entriesTurn_completeFrameless n acts, fun _ f => entriesTurn_of_same (markWait_keeps f).1,
    fun _ i n _ _ eligible => entriesTurn_grant n i eligible, fun _ o _ => entriesTurn_ended o⟩ due s

/-- A SETTLING step goes on settling through the follow-up. -/
theorem followUp_settling (due : Bool) (n : Nat) (h : (s.entry n).state = .settling) :
    (State.followUp due s).entry n = s.entry n :=
  (entriesTurn_followUp due s n).rests (by rw [h]; decide) (by rw [h]; decide) (by rw [h]; decide)

/-! ## Station records -/

/-- What the follow-up does to a station record: a station leaves HELD, RESTORING and DRAINING alone, never to be UNLISTED or
OVERRIDDEN; no member and no pending fault is made, and the fault cause stays. -/
structure StationTurn (r r' : StationRecord) : Prop where
  cause   : r'.faultCause = r.faultCause
  member  : r'.member = true → r.member = true
  pending : r'.faultPending = true → r.faultPending = true
  rests   : r.state ≠ .held → r.state ≠ .restoring → r.state ≠ .draining → r'.state = r.state
  leaves  : r.state = .held ∨ r.state = .restoring ∨ r.state = .draining → r'.state ≠ .unlisted ∧ r'.state ≠ .overridden

theorem StationTurn.rfl' (r : StationRecord) : StationTurn r r :=
  ⟨rfl, id, id, fun _ _ _ => rfl, fun h => by rcases h with h | h | h <;> rw [h] <;> decide⟩

theorem StationTurn.trans {r r' r'' : StationRecord} (h : StationTurn r r') (k : StationTurn r' r'') : StationTurn r r'' := by
  refine ⟨k.cause.trans h.cause, fun m => h.member (k.member m), fun p => h.pending (k.pending p), fun a b c => ?_, fun moving => ?_⟩
  · have same := h.rests a b c
    rw [k.rests (by rw [same]; exact a) (by rw [same]; exact b) (by rw [same]; exact c), same]
  · by_cases rest : r'.state ≠ .held ∧ r'.state ≠ .restoring ∧ r'.state ≠ .draining
    · obtain ⟨a, b, c⟩ := rest
      rw [k.rests a b c]
      exact h.leaves moving
    · exact k.leaves (by
        by_contra none
        simp only [not_or] at none
        exact rest none)

/-- From `s` to `t` every station record turns so. -/
def StationsTurn (s t : State) : Prop := ∀ a, StationTurn (s.station a) (t.station a)

theorem StationsTurn.rfl' (s : State) : StationsTurn s s := fun _ => .rfl' _

theorem StationsTurn.trans {s t u : State} (h : StationsTurn s t) (k : StationsTurn t u) : StationsTurn s u :=
  fun a => (h a).trans (k a)

theorem stationsTurn_of_same {t : State} (h : t.stations = s.stations) : StationsTurn s t := fun a => by
  rw [station_congr h]
  exact .rfl' _

theorem stationsTurn_update (a : Nat) (g : StationRecord → StationRecord) (h : StationTurn (s.station a) (g (s.station a))) :
    StationsTurn s (s.updateStation a g) := fun b => by
  rw [updateStation_station]
  split
  · next same => exact same.1 ▸ h
  · exact .rfl' _

section
variable (a n i : Nat) (d : Bool)

theorem evaluate_stations : (s.evaluate n).stations = s.stations := by
  unfold State.evaluate State.setStepState
  repeat' split
  all_goals simp

theorem cancelRecordOf_stations : (s.cancelRecordOf a n).stations = s.stations := by
  unfold State.cancelRecordOf State.cancelRecord
  repeat' split
  all_goals rfl

theorem leaveStep_stations : (State.leaveStep a d s n).stations = s.stations := by
  unfold State.leaveStep
  split
  · exact setEntry_stations ..
  · exact setEntry_stations ..
  · exact (cancelRecordOf_stations a n).trans (setEntry_stations ..)
  · split
    · rfl
    · exact setEntry_stations ..
  · rfl

theorem leaveSteps_stations : (s.leaveSteps a d).stations = s.stations :=
  foldl_keeps State.stations _ (fun s n => leaveStep_stations (s := s) a n d) _ s

/-- A station that leaves membership: its member flag is all that changes of the records. -/
theorem leaveRun_station (b : Nat) : (s.leaveRun a d).station b =
    if a = b then { s.station b with member := false } else s.station b := by
  have stations : (s.leaveRun a d).stations = (s.updateStation a (fun r => { r with member := false })).stations := by
    unfold State.leaveRun
    dsimp only
    split
    · exact leaveSteps_stations a d
    · rfl
  rw [station_congr stations, updateStation_station]
  by_cases same : a = b
  · subst same
    by_cases valid : validStation a = true
    · simp [valid]
    · have default : s.station a = .default := by
        cases a with
        | zero => rfl
        | succ k =>
          have out : ¬ k < 126 := fun lt => valid (by simp [validStation]; omega)
          simp [State.station, getAt, out]
      simp [valid, default, StationRecord.default]
  · simp [same]

theorem stationsTurn_leaveRun : StationsTurn s (s.leaveRun a d) := fun b => by
  rw [leaveRun_station]
  split
  · exact ⟨rfl, fun h => absurd h (by simp), id, fun _ _ _ => rfl, (StationTurn.rfl' _).leaves⟩
  · exact .rfl' _

theorem stationsTurn_checkDrain : StationsTurn s (s.checkDrain a) := by
  unfold State.checkDrain State.drainEnd
  split
  · next drains =>
    simp only [Bool.and_eq_true, decide_eq_true_eq] at drains
    refine StationsTurn.trans ?_ (stationsTurn_leaveRun a true)
    split
    · refine StationsTurn.trans (stationsTurn_update a _ ?_) (stationsTurn_of_same (raise_stations _ _))
      exact ⟨rfl, id, fun h => absurd h (by simp), fun _ _ c => absurd drains.1 c, fun _ => by simp⟩
    · refine stationsTurn_update a _ ?_
      exact ⟨rfl, id, id, fun _ _ c => absurd drains.1 c, fun _ => by simp⟩
  · exact .rfl' s

theorem stationsTurn_enterDraining : StationsTurn s (s.enterDraining a) := by
  unfold State.enterDraining
  split
  · next held =>
    simp only [Bool.or_eq_true, decide_eq_true_eq] at held
    refine (stationsTurn_update a _ ?_).trans (stationsTurn_checkDrain a)
    exact ⟨rfl, id, id, fun b c _ => held.elim (fun h => absurd h b) (fun h => absurd h c), fun _ => by simp⟩
  · exact .rfl' s

theorem issue_stations (r : StepRecord) : (s.issue i n r).stations = s.stations := by
  unfold State.issue
  refine (setEntry_stations ..).trans ?_
  unfold State.openRecord State.makeAttempt
  split <;> (repeat' split) <;> rfl
end

/-- The follow-up turns the station records. -/
theorem stationsTurn_followUp (due : Bool) (s : State) : StationsTurn s (State.followUp due s) := by
  refine followUp_turns ⟨StationsTurn.rfl', fun _ _ _ => StationsTurn.trans, fun t n => stationsTurn_of_same (evaluate_stations n),
    fun t n _ => ?_, fun t f => stationsTurn_of_same ?_, fun t i n _ _ _ => ?_, fun t o _ => ?_⟩ due s
  · have settled : StationsTurn t (t.settleStep n) := stationsTurn_of_same (by unfold State.settleStep; split <;> simp)
    unfold State.completeFrameless
    dsimp only
    split
    · exact settled.trans (stationsTurn_enterDraining _)
    · exact settled
  · exact (markWait_keeps f).2.2
  · have issued : StationsTurn t (t.issue i n (t.step n)) := stationsTurn_of_same (issue_stations ..)
    rw [grant_eq]
    split
    · next held =>
      refine issued.trans (stationsTurn_update _ _ ?_)
      exact ⟨rfl, id, id, fun b _ _ => absurd held b, fun _ => by simp⟩
    · exact issued
  · have drained : StationsTurn t ((stationNumbers.filter (fun a => (t.station a).member)).foldl State.enterDraining t) :=
      foldl_kept (StationsTurn t) _ _ (fun u a _ reached => reached.trans (stationsTurn_enterDraining a)) t (.rfl' t)
    refine fun a => (drained a).trans ?_
    have cleared : (t.drainMembers.closeRun o).station a = { ((stationNumbers.filter (fun a => (t.station a).member)).foldl
        State.enterDraining t).station a with member := false } := by
      cases a with
      | zero => rfl
      | succ k => exact getAt_mapTable _ (fun r : StationRecord => { r with member := false }) k .default
    rw [cleared]
    exact ⟨rfl, fun h => absurd h (by simp), id, fun _ _ _ => rfl, (StationTurn.rfl' _).leaves⟩

/-! ## Injection slots -/

/-- A record just opened: OPEN, no attempt outstanding. -/
structure InjectionRecord.Fresh (r : InjectionRecord) : Prop where
  isOpen : r.closing = false
  unsent : r.outstanding = none

/-- What the follow-up does to the slots: a record stays as it is, and a free slot stays free or takes a fresh record. -/
structure SlotsTurn (s t : State) : Prop where
  kept  : ∀ i r, s.slot i = some r → t.slot i = some r
  fresh : ∀ i r, s.slot i = none → t.slot i = some r → r.Fresh

theorem SlotsTurn.rfl' (s : State) : SlotsTurn s s := ⟨fun _ _ => id, fun i r free taken => by rw [free] at taken; cases taken⟩

theorem SlotsTurn.trans {s t u : State} (h : SlotsTurn s t) (k : SlotsTurn t u) : SlotsTurn s u := by
  refine ⟨fun i r taken => k.kept i r (h.kept i r taken), fun i r free taken => ?_⟩
  cases between : t.slot i with
  | none => exact k.fresh i r between taken
  | some x =>
    have same := k.kept i x between
    rw [taken] at same
    cases same
    exact h.fresh i r free between

theorem slot_congr {t : State} (h : t.slots = s.slots) (i : Nat) : t.slot i = s.slot i := by simp [State.slot, h]

theorem slotsTurn_of_same {t : State} (h : t.slots = s.slots) : SlotsTurn s t := by
  have same := slot_congr h
  exact ⟨fun i r taken => by rw [same]; exact taken, fun i r free taken => by rw [same, free] at taken; cases taken⟩

theorem slotOf_congr {t : State} (h : t.slots = s.slots) (a : Nat) : t.slotOf a = s.slotOf a := by
  simp [State.slotOf, State.slot, h]

section
variable (a n i : Nat) (d : Bool)

theorem setStepState_slots (x : StepState) : (s.setStepState n x).slots = s.slots := setEntry_slots ..

theorem evaluate_slots : (s.evaluate n).slots = s.slots := by
  unfold State.evaluate State.setStepState
  repeat' split
  all_goals simp

/-- A step that leaves touches the slots only when it is ISSUED and its station has a record. -/
theorem leaveStep_slots (h : (s.entry n).state ≠ .issued ∨ s.slotOf a = none) : (State.leaveStep a d s n).slots = s.slots := by
  unfold State.leaveStep
  split
  · exact setEntry_slots ..
  · exact setEntry_slots ..
  · next issued =>
    have free := h.resolve_left fun k => k issued
    have skipped : (s.setStepState n .skipped).slotOf a = none := (slotOf_congr (setEntry_slots ..) a).trans free
    rw [State.cancelRecordOf, skipped]
    exact setEntry_slots ..
  · split
    · rfl
    · exact setEntry_slots ..
  · rfl

theorem leaveRun_slots_of_free (h : s.slotOf a = none) : (s.leaveRun a d).slots = s.slots := by
  unfold State.leaveRun State.leaveSteps
  dsimp only
  split
  · refine foldl_kept (fun t : State => t.slots = s.slots) _ _ (fun t m _ same => ?_) _ (updateStation_slots ..)
    exact (leaveStep_slots a m d (.inr ((slotOf_congr same a).trans h))).trans same
  · exact updateStation_slots ..

theorem enterDraining_slots_of_free (h : s.slotOf a = none) : (s.enterDraining a).slots = s.slots := by
  have ends : ∀ t : State, t.slots = s.slots → (t.checkDrain a).slots = s.slots := fun t same => by
    unfold State.checkDrain State.drainEnd
    split
    · have record : ∀ u : State, u.slots = s.slots → (u.leaveRun a true).slots = s.slots := fun u k =>
        (leaveRun_slots_of_free a true ((slotOf_congr k a).trans h)).trans k
      refine record _ ?_
      split <;> exact (updateStation_slots ..).trans same
    · exact same
  unfold State.enterDraining
  split
  · exact ends _ (updateStation_slots ..)
  · rfl

/-- No used step is ISSUED. -/
def State.NoneIssued (s : State) : Prop := ∀ n, (s.step n).used = true → (s.entry n).state ≠ .issued

/-- A drain end with no used step ISSUED leaves the slots. -/
theorem leaveStep_noneIssued (h : s.NoneIssued) (m : Nat) (used : (s.step m).used = true) :
    (State.leaveStep a true s m).slots = s.slots ∧ (State.leaveStep a true s m).NoneIssued := by
  refine ⟨leaveStep_slots a m true (.inl (h m used)), fun k usedK => ?_⟩
  have plan : (State.leaveStep a true s m).plan = s.plan := (congrArg State.plan (leaveStep_core a true s m) :)
  have usedK : (s.step k).used = true := by simpa [State.step, plan] using usedK
  unfold State.leaveStep
  split
  · rw [setStepState_entry]
    split
    · simp
    · exact h k usedK
  · rw [setStepState_entry]
    split
    · simp
    · exact h k usedK
  · next issued => exact absurd issued (h m used)
  · exact h k usedK
  · exact h k usedK

theorem enterDraining_noneIssued (h : s.NoneIssued) :
    (s.enterDraining a).slots = s.slots ∧ (s.enterDraining a).NoneIssued := by
  have update : ∀ (t : State) (g : StationRecord → StationRecord), t.NoneIssued → (t.updateStation a g).NoneIssued :=
    fun t g k n used => by
      rw [entry_congr (updateStation_entries t a g)]
      exact k n (by simpa [State.step] using used)
  have leaves : ∀ t : State, t.slots = s.slots → t.NoneIssued →
      (t.leaveRun a true).slots = s.slots ∧ (t.leaveRun a true).NoneIssued := fun t same k => by
    unfold State.leaveRun State.leaveSteps
    dsimp only
    split
    · have start := update t (fun r => { r with member := false }) k
      obtain ⟨u, hu⟩ : ∃ u, u = t.updateStation a (fun r => { r with member := false }) := ⟨_, rfl⟩
      rw [← hu] at start ⊢
      have folded := foldl_kept (fun v => v.plan = u.plan ∧ v.slots = s.slots ∧ v.NoneIssued) (State.leaveStep a true) (u.stepsOf a)
        (fun v m mem ⟨plan, slots, unissued⟩ => by
          have used : (v.step m).used = true := by
            have := (List.mem_filter.1 mem).2
            simp only [Bool.and_eq_true] at this
            simpa [State.step, plan] using this.1
          obtain ⟨kept, left⟩ := leaveStep_noneIssued a unissued m used
          exact ⟨(congrArg State.plan (leaveStep_core a true v m) :).trans plan, kept.trans slots, left⟩) u
        ⟨rfl, by rw [hu]; exact (updateStation_slots ..).trans same, start⟩
      exact folded.2
    · exact ⟨(updateStation_slots ..).trans same, update t _ k⟩
  have ends : ∀ t : State, t.slots = s.slots → t.NoneIssued →
      (t.checkDrain a).slots = s.slots ∧ (t.checkDrain a).NoneIssued := fun t same k => by
    unfold State.checkDrain State.drainEnd
    split
    · dsimp only
      split
      · exact leaves _ ((updateStation_slots ..).trans same) (update t _ k)
      · exact leaves _ ((updateStation_slots ..).trans same) (update t _ k)
    · exact ⟨same, k⟩
  unfold State.enterDraining
  split
  · exact ends _ (updateStation_slots ..) (update s _ h)
  · exact ⟨rfl, h⟩

theorem noneIssued_of_inFlight (h : s.inFlight = false) : s.NoneIssued := fun n used issued => by
  have lt := step_used_lt used
  simp only [State.inFlight, Bool.or_eq_false_iff, List.any_eq_false] at h
  refine h.1 n (by simpa [stepNumbers] using lt) ?_
  simp [State.stepState, used, issued]

theorem drainMembers_slots (h : s.NoneIssued) : s.drainMembers.slots = s.slots := by
  unfold State.drainMembers
  exact (foldl_kept (fun t => t.slots = s.slots ∧ t.NoneIssued) State.enterDraining _ (fun t a _ ⟨slots, unissued⟩ => by
    obtain ⟨kept, left⟩ := enterDraining_noneIssued a unissued
    exact ⟨kept.trans slots, left⟩) s ⟨rfl, h⟩).1

/-- A grant opens a record in its slot, fresh, with its one attempt ready. -/
theorem grant_slots (j : Nat) (other : j ≠ i) : (s.grant i n).slot j = s.slot j := by
  have issued : ∀ r, (s.issue i n r).slot j = s.slot j := fun r => by
    unfold State.issue
    rw [slot_congr (setStepState_slots ..)]
    unfold State.openRecord State.makeAttempt
    have set : ∀ (t : State) (x y : Option InjectionRecord), ((t.setSlot i x).setSlot i y).slot j = t.slot j := fun t x y => by
      simp [Ne.symm other]
    have start : (match r.feed.feed with | some f => s.createContribution f n | none => s).slot j = s.slot j := by
      split <;> rfl
    split
    · exact (set _ _ _).trans start
    · rw [setSlot_slot, if_neg fun k => other k.1.symm]
      exact start
  rw [grant_eq]
  split
  · rw [slot_congr (updateStation_slots ..)]
    exact issued _
  · exact issued _

theorem openRecord_slot (k c : Nat) (lt : i < 8) : (s.openRecord i n k c).slot i = some
    { station := (s.step n).station, step := n, closing := false, frameIndex := k, startChannel := c
      attempts := [s.injectionSeq], outstanding := none, ready := some s.injectionSeq, deadline := none
      pollCount := 1, repollWait := false, builtHighest := none, further := none } := by
  have pick : pickSeq [] 32 s.injectionSeq = s.injectionSeq := by simp [pickSeq]
  unfold State.openRecord State.makeAttempt
  rw [setSlot_slot, if_pos ⟨rfl, lt⟩]
  dsimp only
  have slot : ∀ (t : State) (x : Option InjectionRecord) (b : Byte), State.slot { t.setSlot i x with injectionSeq := b } i = x :=
    fun t x b => by
      show (t.setSlot i x).slot i = x
      rw [setSlot_slot, if_pos ⟨rfl, lt⟩]
  rw [slot, setSlot_injectionSeq, pick]
  rfl

theorem grant_fresh (lt : i < 8) (r : InjectionRecord) (h : (s.grant i n).slot i = some r) : r.Fresh := by
  have issued : ∀ x, ∃ y : InjectionRecord, (s.issue i n x).slot i = some y ∧ y.Fresh := fun x => by
    unfold State.issue
    rw [slot_congr (setStepState_slots ..), openRecord_slot _ _ _ _ lt]
    exact ⟨_, rfl, rfl, rfl⟩
  obtain ⟨y, slot, fresh⟩ := issued (s.step n)
  have same : (s.grant i n).slot i = some y := by
    rw [grant_eq]
    split
    · rw [slot_congr (updateStation_slots ..)]
      exact slot
    · exact slot
  rw [h] at same
  cases same
  exact fresh
end

/-- A frameless step completes without a touch to the slots: its station has no record (R123). -/
theorem completeFrameless_slots (n : Nat) (acts : s.mayAct n = true) : (s.completeFrameless n).slots = s.slots := by
  have settled : (s.settleStep n).slots = s.slots := by unfold State.settleStep; split <;> simp
  have unrecorded : s.slotOf (s.step n).station = none := by
    simp only [State.mayAct, Bool.and_eq_true, Bool.not_eq_true', State.hasRecord] at acts
    simpa using acts.2
  unfold State.completeFrameless
  dsimp only
  split
  · exact (enterDraining_slots_of_free _ ((slotOf_congr settled _).trans unrecorded)).trans settled
  · exact settled

/-- The end of a run with no used step ISSUED leaves the slots. -/
theorem ended_slots (o : RunOutcome) (idle : s.inFlight = false) : (s.drainMembers.closeRun o).slots = s.slots :=
  drainMembers_slots (noneIssued_of_inFlight idle)

/-- The follow-up leaves every record where it stands; a free slot it leaves free or gives to a fresh record. -/
theorem slotsTurn_followUp (due : Bool) (s : State) : SlotsTurn s (State.followUp due s) := by
  refine followUp_turns ⟨SlotsTurn.rfl', fun _ _ _ => SlotsTurn.trans, fun t n => slotsTurn_of_same (evaluate_slots n),
    fun t n acts => slotsTurn_of_same (completeFrameless_slots n acts), fun t f => slotsTurn_of_same (markWait_keeps f).2.1,
    fun t i n lt free _ => ⟨fun j r taken => ?_, fun j r none taken => ?_⟩,
    fun t o idle => slotsTurn_of_same (ended_slots o idle)⟩ due s
  · by_cases same : j = i
    · rw [same, free] at taken
      cases taken
    · rw [grant_slots n i j same]
      exact taken
  · by_cases same : j = i
    · subst same
      exact grant_fresh n j lt r taken
    · rw [grant_slots n i j same, none] at taken
      cases taken

end Sys2Proof.Machine
end

section
/-! SUPPORT. What a snooped SET does to the pool of retained points (R26, R64, R65). -/

namespace Sys2Proof.Machine

variable {s : State}

/-! ## The points of a payload (R9) -/

theorem mem_insertPoint {p q : Nat × Nat} {l : List (Nat × Nat)} (h : q ∈ insertPoint p l) : q = p ∨ q ∈ l := by
  induction l with
  | nil => exact .inl (by simpa [insertPoint] using h)
  | cons x xs ih =>
    unfold insertPoint at h
    split at h
    · exact List.mem_cons.1 h
    · split at h
      · exact (List.mem_cons.1 h).imp_right (List.mem_cons_of_mem _)
      · rcases List.mem_cons.1 h with h | h
        · exact .inr (List.mem_cons.2 (.inl h))
        · exact (ih h).imp_right (List.mem_cons_of_mem _)

/-- Insertion keeps the points in strictly ascending order of channel. -/
theorem insertPoint_ascending (p : Nat × Nat) {l : List (Nat × Nat)} (h : l.Pairwise (fun p q => p.1 < q.1)) :
    (insertPoint p l).Pairwise (fun p q => p.1 < q.1) := by
  induction l with
  | nil => simp [insertPoint]
  | cons x xs ih =>
    obtain ⟨low, rest⟩ := List.pairwise_cons.1 h
    unfold insertPoint
    split
    · next lt =>
      refine List.pairwise_cons.2 ⟨fun q mem => ?_, h⟩
      rcases List.mem_cons.1 mem with rfl | mem
      · exact lt
      · exact lt.trans (low q mem)
    · next ge =>
      split
      · next same => exact List.pairwise_cons.2 ⟨fun q mem => same ▸ low q mem, rest⟩
      · next other =>
        refine List.pairwise_cons.2 ⟨fun q mem => ?_, ih rest⟩
        rcases mem_insertPoint mem with rfl | mem
        · omega
        · exact low q mem

theorem readPoints_ascending (payload : List Byte) : (readPoints payload).Pairwise (fun p q => p.1 < q.1) := by
  unfold readPoints
  split
  · exact foldl_kept (fun l : List (Nat × Nat) => l.Pairwise (fun p q => p.1 < q.1)) _ _
      (fun l p _ h => insertPoint_ascending p h) [] List.Pairwise.nil
  · exact List.Pairwise.nil

/-! ## One point (R64, R65) -/

/-- A record found for a station and a channel names them. -/
theorem findPoint_names {a c : Nat} {r : PointRecord} (h : s.findPoint a c = some r) : r.names a c = true :=
  List.find?_some (p := fun p : PointRecord => p.names a c) h

/-- The learning record of a station's channel (R65). -/
def learningRecord (a c v : Nat) (seq : Byte) : PointRecord :=
  { station := a, channel := c, confirmed := none, pending := some { value := v, seq := seq }, pinned := false }

/-- A record with a point of a snooped SET as its pending part (R64). -/
def PointRecord.take (r : PointRecord) (v : Nat) (seq : Byte) : PointRecord :=
  { r with pending := some { value := v, seq := seq } }

theorem take_names {a c : Nat} {r : PointRecord} (found : s.findPoint a c = some r) (v : Nat) (seq : Byte) :
    (r.take v seq).names a c = true := by
  have names := findPoint_names found
  exact names

section
variable (a c v : Nat) (seq : Byte)

theorem snoopPoint_pinned {r : PointRecord} (found : s.findPoint a c = some r) (pinned : r.pinned = true) :
    s.snoopPoint a seq (c, v) = s := by
  unfold State.snoopPoint
  dsimp only
  rw [found]
  exact if_pos pinned

theorem snoopPoint_unpinned {r : PointRecord} (found : s.findPoint a c = some r) (unpinned : r.pinned = false) :
    s.snoopPoint a seq (c, v) = s.writePoint (r.take v seq) := by
  unfold State.snoopPoint
  dsimp only
  rw [found]
  exact if_neg (by simp [unpinned])

theorem snoopPoint_learns (absent : s.findPoint a c = none) (room : s.pointRoom a = true) :
    s.snoopPoint a seq (c, v) = s.writePoint (learningRecord a c v seq) := by
  unfold State.snoopPoint
  dsimp only
  rw [absent]
  exact if_pos room

theorem snoopPoint_misses (absent : s.findPoint a c = none) (full : s.pointRoom a = false) :
    s.snoopPoint a seq (c, v) = s.count .retentionMisses := by
  unfold State.snoopPoint
  dsimp only
  rw [absent]
  exact if_neg (by simp [full])

/-- A record written at a station's channel is found there, and every other record as before. -/
theorem writePoint_here (r : PointRecord) (names : r.names a c = true) : (s.writePoint r).findPoint a c = some r
    ∧ ∀ b d, b ≠ a ∨ d ≠ c → (s.writePoint r).findPoint b d = s.findPoint b d := by
  refine ⟨(writePoint_findPoint s r a c).trans (if_pos names), fun b d other => (writePoint_findPoint s r b d).trans (if_neg ?_)⟩
  simp only [PointRecord.names, Bool.and_eq_true, decide_eq_true_eq] at names ⊢
  rintro ⟨rfl, rfl⟩
  exact other.elim (fun k => k names.1) (fun k => k names.2)

/-- A point of another channel, or of another station, leaves a record as it stands. -/
theorem snoopPoint_other (b d : Nat) (other : b ≠ a ∨ d ≠ c) :
    (s.snoopPoint a seq (c, v)).findPoint b d = s.findPoint b d := by
  cases found : s.findPoint a c with
  | none =>
    cases room : s.pointRoom a with
    | true => rw [snoopPoint_learns a c v seq found room]; exact (writePoint_here a c _ (by simp [learningRecord, PointRecord.names])).2 b d other
    | false => rw [snoopPoint_misses a c v seq found room, count_eq]; rfl
  | some r =>
    cases pinned : r.pinned with
    | true => rw [snoopPoint_pinned a c v seq found pinned]
    | false => rw [snoopPoint_unpinned a c v seq found pinned]; exact (writePoint_here a c (r.take v seq) (take_names found v seq)).2 b d other
end

/-! ## The points of a SET in order -/

/-- A point of a channel that no point of a list names is left by the list. -/
theorem snoopPoints_other (a : Nat) (seq : Byte) (l : List (Nat × Nat)) (b d : Nat) (other : b ≠ a ∨ ∀ p ∈ l, p.1 ≠ d) :
    (l.foldl (fun u p => u.snoopPoint a seq p) s).findPoint b d = s.findPoint b d := by
  induction l generalizing s with
  | nil => rfl
  | cons p l ih =>
    rw [List.foldl_cons, ih (other.imp_right fun h q mem => h q (List.mem_cons_of_mem _ mem))]
    exact snoopPoint_other a p.1 p.2 seq b d (other.imp_right fun h => (h p (List.mem_cons_self ..)).symm)

/-- A pinned record is left by a whole list. -/
theorem snoopPoints_pinned (a : Nat) (seq : Byte) (l : List (Nat × Nat)) (c : Nat) (r : PointRecord)
    (found : s.findPoint a c = some r) (pinned : r.pinned = true) :
    (l.foldl (fun u p => u.snoopPoint a seq p) s).findPoint a c = some r := by
  induction l generalizing s with
  | nil => exact found
  | cons p l ih =>
    rw [List.foldl_cons]
    refine ih ?_
    by_cases same : p.1 = c
    · rw [show p = (c, p.2) by rw [← same], snoopPoint_pinned a c p.2 seq found pinned]
      exact found
    · rw [snoopPoint_other a p.1 p.2 seq a c (.inr (Ne.symm same))]
      exact found

/-- An unpinned record takes its channel's point of a list in which each channel stands once. -/
theorem snoopPoints_unpinned (a : Nat) (seq : Byte) {l : List (Nat × Nat)} (ascending : l.Pairwise (fun p q => p.1 < q.1))
    (c v : Nat) (mem : (c, v) ∈ l) (r : PointRecord) (found : s.findPoint a c = some r) (unpinned : r.pinned = false) :
    (l.foldl (fun u p => u.snoopPoint a seq p) s).findPoint a c
      = some (r.take v seq) := by
  induction l generalizing s with
  | nil => cases mem
  | cons p l ih =>
    obtain ⟨low, rest⟩ := List.pairwise_cons.1 ascending
    rw [List.foldl_cons]
    rcases List.mem_cons.1 mem with rfl | mem
    · rw [snoopPoints_other a seq l a c (.inr fun q k => (low q k).ne'), snoopPoint_unpinned a c v seq found unpinned]
      exact (writePoint_here a c (r.take v seq) (take_names found v seq)).1
    · refine ih rest mem ?_
      rw [snoopPoint_other a p.1 p.2 seq a c (.inr (low _ mem).ne')]
      exact found

/-! ## The leaving of a SET (R26) -/

/-- `v` with all that a snooped point writes taken from `s`. -/
def State.pooling (v s : State) : State :=
  { v with points := s.points, counters := s.counters, noticePending := s.noticePending }

theorem pooling_count (v : State) (c : Counter) : (v.pooling s).count c = v.pooling (s.count c) := by
  show (if 255 ≤ s.counter c then v.pooling s
    else if s.counter c = 127 then
      v.pooling (State.raise { s with counters := putAt s.counters c.index (s.counter c + 1) } .counter128)
    else v.pooling { s with counters := putAt s.counters c.index (s.counter c + 1) }) = _
  unfold State.count
  dsimp only
  split
  · rfl
  · split <;> rfl

/-- A point reads and writes the pool, the counters and the pending flags, and reads the station's quota. -/
theorem snoopPoint_pooling (v : State) (a : Nat) (seq : Byte) (p : Nat × Nat)
    (quota : (v.station a).config.retentionQuota = (s.station a).config.retentionQuota) :
    (v.pooling s).snoopPoint a seq p = v.pooling (s.snoopPoint a seq p) := by
  have find : (v.pooling s).findPoint a p.1 = s.findPoint a p.1 := rfl
  have room : (v.pooling s).pointRoom a = s.pointRoom a := by
    have station : (v.pooling s).station a = v.station a := station_congr rfl a
    unfold State.pointRoom
    rw [station, quota]
    rfl
  unfold State.snoopPoint
  rw [find, room, pooling_count]
  split
  · split <;> rfl
  · split <;> rfl

/-- A snooped point leaves what it does not write. -/
theorem snoopPoint_eq (a : Nat) (seq : Byte) (p : Nat × Nat) : s.snoopPoint a seq p = s.pooling (s.snoopPoint a seq p) :=
  snoopPoint_pooling (s := s) s a seq p rfl

theorem snoopPoints_pooling (v : State) (a : Nat) (seq : Byte) (l : List (Nat × Nat))
    (quota : (v.station a).config.retentionQuota = (s.station a).config.retentionQuota) :
    l.foldl (fun u p => u.snoopPoint a seq p) (v.pooling s) = v.pooling (l.foldl (fun u p => u.snoopPoint a seq p) s) := by
  induction l generalizing s with
  | nil => rfl
  | cons p l ih =>
    have station : (s.snoopPoint a seq p).station a = s.station a := by
      rw [snoopPoint_eq]
      exact station_congr rfl a
    rw [List.foldl_cons, List.foldl_cons, snoopPoint_pooling v a seq p quota, ih (by rw [station]; exact quota)]

/-- A supervisor's SET that leaves the F-port is snooped with the transmitter free (R26, R63). -/
theorem fLeaves_snoops {w : FWire} (wire : s.wireF = some w) (source : w.source = .pass ∨ w.source = .drain)
    (parsed : isParsedSet w.frame = true) (valid : validStation w.frame.station = true)
    (listed : s.seenListed w.frame.station = true) (state : (s.station w.frame.station).state ≠ .overridden)
    (quota : 0 < (s.station w.frame.station).config.retentionQuota) :
    s.fLeaves = s.freeF.pooling
      ((readPoints w.frame.payload).foldl (fun u p => u.snoopPoint w.frame.station w.frame.seq p) s) := by
  have leaves : s.fLeaves = s.freeF.snoop w.frame := by
    unfold State.fLeaves
    rw [wire]
    dsimp only
    rcases source with source | source <;> rw [source] <;> exact if_pos valid
  have station : s.freeF.station w.frame.station = s.station w.frame.station := station_congr rfl _
  have loaded : s.loading = false := by
    simp only [State.seenListed, Bool.and_eq_true, Bool.not_eq_true'] at listed
    exact listed.1
  have seen : s.freeF.seenState w.frame.station = (s.station w.frame.station).state := by
    unfold State.seenState
    rw [station]
    exact if_neg (by rw [show s.freeF.loading = false from loaded]; simp)
  have listed' : s.freeF.seenListed w.frame.station = true := by
    unfold State.seenListed State.listed at listed ⊢
    rw [station]
    exact listed
  have snoops : s.freeF.snoops w.frame = true := by
    unfold State.snoops
    rw [listed', seen, station, parsed]
    simp [state, quota]
  rw [leaves, State.snoop, if_pos snoops]
  exact snoopPoints_pooling (s := s) s.freeF _ _ _ (by rw [station])

/-- Settles O34: the points of the SET one after another, each channel once; then the closing, which leaves the pool. -/
theorem snoopSetsPendingParts : Obligations.SnoopSetsPendingParts := by
  unfold Obligations.SnoopSetsPendingParts
  refine ⟨fun s w wire source parsed valid listed state quota => ?leaves, readPoints_ascending, fun s a c v seq => ?point⟩
  case leaves =>
    obtain ⟨u, hu⟩ : ∃ u, u = (readPoints w.frame.payload).foldl
      (fun u p => u.snoopPoint w.frame.station w.frame.seq p) s := ⟨_, rfl⟩
    have left : s.fLeaves = s.freeF.pooling u := hu ▸ fLeaves_snoops wire source parsed valid listed state quota
    have points : (s.close s.fLeaves).points = u.points := by rw [close_points, left]; rfl
    have find : ∀ a c, (s.close s.fLeaves).findPoint a c = u.findPoint a c := fun a c => by unfold State.findPoint; rw [points]
    refine ⟨_, rfl, ?_, fun _ => ⟨fun c v r mem found unpinned => ?_, fun c r found kept => ?_, fun a c other => ?_⟩⟩
    · rw [← hu]
      refine ⟨points, (close_counter _ _ _).trans ?_⟩
      rw [left]
      rfl
    · rw [find, hu]
      exact snoopPoints_unpinned _ _ (readPoints_ascending _) c v mem r found unpinned
    · rw [find, hu]
      rcases kept with pinned | absent
      · exact snoopPoints_pinned _ _ _ c r found pinned
      · rw [snoopPoints_other _ _ _ _ c (.inr fun p mem same => absent p.2 (by rw [← same]; exact mem))]
        exact found
    · rw [find, hu]
      exact snoopPoints_other _ _ _ a c (.inl other)
  case point =>
    have others : ∀ r : PointRecord, r.names a c = true → s.writePoint r = { s with points := (s.writePoint r).points }
        ∧ ∀ b d, b ≠ a ∨ d ≠ c → (s.writePoint r).findPoint b d = s.findPoint b d :=
      fun r names => ⟨rfl, (writePoint_here a c r names).2⟩
    refine ⟨fun r found pinned => snoopPoint_pinned a c v seq found pinned, fun r found unpinned => ?_, fun absent room => ?_,
      fun absent full => ?_⟩
    · have names : (r.take v seq).names a c = true := take_names found v seq
      rw [snoopPoint_unpinned a c v seq found unpinned]
      exact ⟨(writePoint_here a c _ names).1, others _ names⟩
    · have names : (learningRecord a c v seq).names a c = true := by simp [learningRecord, PointRecord.names]
      rw [snoopPoint_learns a c v seq absent ((pointRoom_iff a).2 room)]
      exact ⟨(writePoint_here a c _ names).1, others _ names⟩
    · exact snoopPoint_misses a c v seq absent (Bool.eq_false_iff.2 fun k => full ((pointRoom_iff a).1 k))

end Sys2Proof.Machine
end

section
/-! SUPPORT. The entry to a hold queue (R79 to R86): the scan of superseding, what an entry leaves of its queue, the replies, the counts
and the high-water flag. -/

namespace Sys2Proof.Machine

variable {s : State}

/-! ## The scan of superseding (R80) -/

theorem scanQueue_cons_order (chs : List Nat) (o : Frame) (older : List Frame) (h : o.kind = kindOrder) :
    scanQueue chs (o :: older) = (o :: older, []) := by
  simp [scanQueue, h]

/-- The scan over frames that are no ORDERs, and what stands behind them. -/
theorem scanQueue_append (chs : List Nat) (newer rest : List Frame) (h : ∀ f ∈ newer, f.kind ≠ kindOrder) :
    scanQueue chs (newer ++ rest) = (newer.filter (fun f => !supersededBy chs f) ++ (scanQueue chs rest).1,
      newer.filter (supersededBy chs) ++ (scanQueue chs rest).2) := by
  induction newer with
  | nil => rfl
  | cons f newer ih =>
    have step := ih fun g mem => h g (List.mem_cons_of_mem _ mem)
    rw [List.cons_append, scanQueue, if_neg (h f (List.mem_cons_self ..)), step]
    cases gone : supersededBy chs f <;> simp [gone]

/-- A scan in which nothing is superseded keeps the queue. -/
theorem scanQueue_none (chs : List Nat) (q : List Frame) (h : (scanQueue chs q).2 = []) : (scanQueue chs q).1 = q := by
  induction q with
  | nil => rfl
  | cons f q ih =>
    unfold scanQueue at h ⊢
    split
    · rfl
    · next other =>
      rw [if_neg other] at h
      cases gone : supersededBy chs f
      · simp only [gone] at h ⊢
        exact congrArg (f :: ·) (ih h)
      · simp [gone] at h

theorem supersededBy_iff (chs : List Nat) (f : Frame) : supersededBy chs f = true ↔
    f.kind = kindSet ∧ f.payload.length ≠ 0 ∧ f.payload.length % 3 = 0 ∧ ∀ c ∈ channelSet f, c ∈ chs := by
  simp [supersededBy, isParsedSet, pointLength, and_assoc]

/-! ## What an entry supersedes and leaves -/

/-- The frames that an entry supersedes, newest first. -/
def State.gone (s : State) (a : Nat) (f : Frame) : List Frame :=
  if isParsedSet f then (scanQueue (channelSet f) (s.queue a).reverse).2 else []

/-- The queue that an entry's superseding leaves, oldest first. -/
def State.kept (s : State) (a : Nat) (f : Frame) : List Frame :=
  if isParsedSet f then (scanQueue (channelSet f) (s.queue a).reverse).1.reverse else s.queue a

theorem kept_of_none {a : Nat} {f : Frame} (h : s.gone a f = []) : s.kept a f = s.queue a := by
  unfold State.gone at h
  unfold State.kept
  split
  · next parsed =>
    rw [if_pos parsed] at h
    rw [scanQueue_none _ _ h, List.reverse_reverse]
  · rfl

theorem supersede_eq (a : Nat) (f : Frame) : s.supersede a f =
    if s.gone a f = [] then s else ((s.setQueue a (s.kept a f)).rearm).replySuperseded (s.queue a).length (s.gone a f) := by
  unfold State.supersede State.gone State.kept
  by_cases parsed : isParsedSet f = true
  · simp only [if_pos parsed, List.isEmpty_iff]
  · simp only [if_neg parsed, if_true]

/-! ## Queues written and counted -/

theorem putAt_getAt {α : Type} {n : Nat} (v : Vector α n) (i : Nat) (d : α) : putAt v i (getAt v i d) = v := by
  apply Vector.ext
  intro k hk
  by_cases same : i = k
  · subst same; simp [putAt, getAt, hk]
  · simp [putAt, same]

theorem putAt_putAt {α : Type} {n : Nat} (v : Vector α n) (i : Nat) (x y : α) : putAt (putAt v i x) i y = putAt v i y := by
  apply Vector.ext
  intro k hk
  by_cases same : i = k
  · subst same; simp [putAt]
  · simp [putAt, same]

theorem setQueue_self (a : Nat) : s.setQueue a (s.queue a) = s := by
  cases a with
  | zero => rfl
  | succ k => simp only [State.setQueue, State.queue, putAt_getAt]

/-- A queue's new content stands in the table of queues. -/
theorem setQueue_queues {t : State} (same : t.queues = s.queues) (a : Nat) (q : List Frame) :
    (t.setQueue a q).queues = (s.setQueue a q).queues := by
  cases a with
  | zero => exact same
  | succ k => simp only [State.setQueue, same]

theorem setQueue_setQueue_queues (a : Nat) (p q : List Frame) : ((s.setQueue a p).setQueue a q).queues = (s.setQueue a q).queues := by
  cases a with
  | zero => rfl
  | succ k => simp only [State.setQueue, putAt_putAt]

theorem queue_congr {t : State} (h : t.queues = s.queues) (a : Nat) : t.queue a = s.queue a := by
  cases a <;> simp [State.queue, h]

theorem occupancy_congr {t : State} (h : t.queues = s.queues) : t.occupancy = s.occupancy := by simp [State.occupancy, h]

theorem sum_set (l : List Nat) (k x : Nat) (h : k < l.length) : (l.set k x).sum + l[k] = l.sum + x := by
  induction l generalizing k with
  | nil => simp at h
  | cons y l ih =>
    cases k with
    | zero => simp; omega
    | succ k =>
      have := ih k (by simpa using h)
      simp
      omega

/-- A queue one frame longer takes one frame slot of the pool more (R78). -/
theorem occupancy_append {a : Nat} (valid : validStation a = true) (f : Frame) :
    (s.setQueue a (s.queue a ++ [f])).occupancy = s.occupancy + 1 := by
  cases a with
  | zero => simp [validStation] at valid
  | succ k =>
    have lt : k < 126 := by simp [validStation] at valid; omega
    have lengths : (putAt s.queues k (getAt s.queues k [] ++ [f])).toList.map List.length
        = (s.queues.toList.map List.length).set k ((getAt s.queues k []).length + 1) := by
      simp [putAt, List.map_set]
    have sum := sum_set (s.queues.toList.map List.length) k ((getAt s.queues k []).length + 1) (by simpa using lt)
    simp only [State.occupancy, State.setQueue, State.queue, lengths]
    simp [getAt, lt] at sum ⊢
    omega

/-! ## The replies and the counts of superseded frames (R80, R83) -/

/-- The HOLD-REPLYs for frames that leave a queue one after another from place `k` on: each carries the length after its removal. -/
def leavingReplies (d : Disposition) (len k : Nat) (l : List Frame) : List Reply :=
  (l.zipIdx k).map (fun x => { frame := holdReply x.1 d (len - 1 - x.2), isReset := false })

theorem leavingReplies_cons (d : Disposition) (len k : Nat) (f : Frame) (l : List Frame) : leavingReplies d len k (f :: l) =
    { frame := holdReply f d (len - 1 - k), isReset := false } :: leavingReplies d len (k + 1) l := by
  simp [leavingReplies]

theorem count_queues (c : Counter) : (s.count c).queues = s.queues := by rw [count_eq]
theorem count_armed (c : Counter) : (s.count c).highWaterArmed = s.highWaterArmed := by rw [count_eq]
theorem placeReply_armed (r : Reply) : (s.placeReply r).highWaterArmed = s.highWaterArmed := by
  unfold State.placeReply
  split
  · rfl
  · exact count_armed _

/-- Replies and counts leave the queues and the high-water flag. -/
theorem replySuperseded_queues (len : Nat) (l : List Frame) : (s.replySuperseded len l).queues = s.queues
    ∧ (s.replySuperseded len l).highWaterArmed = s.highWaterArmed := by
  induction l generalizing s len with
  | nil => exact ⟨rfl, rfl⟩
  | cons f l ih =>
    obtain ⟨queues, armed⟩ := ih (s := (s.replyHold f .superseded (len - 1)).count .framesSuperseded) (len - 1)
    exact ⟨queues.trans ((count_queues _).trans (placeReply_queues _)), armed.trans ((count_armed _).trans (placeReply_armed _))⟩

theorem replySuperseded_replies (len k : Nat) (l : List Frame) (room : s.replies.length + l.length ≤ 16) :
    (s.replySuperseded (len - k) l).replies = s.replies ++ leavingReplies .superseded len k l := by
  induction l generalizing s k with
  | nil => simp [State.replySuperseded, leavingReplies]
  | cons f l ih =>
    simp only [List.length_cons] at room
    have length : len - k - 1 = len - (k + 1) := by omega
    have placed : ((s.replyHold f .superseded (len - (k + 1))).count .framesSuperseded).replies
        = s.replies ++ [{ frame := holdReply f .superseded (len - (k + 1)), isReset := false }] :=
      (count_replies _).trans (placeReply_replies (by omega) _)
    rw [State.replySuperseded, length, ih (k + 1) (by rw [placed]; simp; omega), placed, leavingReplies_cons,
      show len - 1 - k = len - (k + 1) by omega]
    simp

theorem replySuperseded_counter (len : Nat) (l : List Frame) (c : Counter) (h : c ≠ .repliesLost) :
    (s.replySuperseded len l).counter c
      = if c = .framesSuperseded then counted^[l.length] (s.counter c) else s.counter c := by
  induction l generalizing s len with
  | nil => simp [State.replySuperseded]
  | cons f l ih =>
    rw [State.replySuperseded, ih, count_counted, State.replyHold, placeReply_counter _ _ h]
    split <;> rfl

theorem replySuperseded_isPending (len : Nat) (l : List Frame) (e : NoticeEvent) (h : e ≠ .counter128) :
    (s.replySuperseded len l).isPending e = s.isPending e := by
  induction l generalizing s len with
  | nil => rfl
  | cons f l ih => rw [State.replySuperseded, ih, count_isPending_of_ne _ _ _ h, State.replyHold, placeReply_isPending _ _ h]

/-! ## Superseding (R80) -/

section
variable (a : Nat) (f : Frame)

theorem rearm_queues : s.rearm.queues = s.queues := by unfold State.rearm; split <;> rfl
theorem rearm_replies : s.rearm.replies = s.replies := by unfold State.rearm; split <;> rfl
theorem rearm_counter (c : Counter) : s.rearm.counter c = s.counter c := by unfold State.rearm; split <;> rfl
theorem rearm_isPending (e : NoticeEvent) : s.rearm.isPending e = s.isPending e := by unfold State.rearm; split <;> rfl
theorem rearm_armed : s.rearm.highWaterArmed = (s.highWaterArmed || decide (s.occupancy < 160)) := by
  unfold State.rearm
  split
  · next low => simp [show s.occupancy < 160 from low]
  · next high => simp [show ¬ s.occupancy < 160 from high]

theorem setQueue_replies (q : List Frame) : (s.setQueue a q).replies = s.replies := by cases a <;> rfl
theorem setQueue_counter (q : List Frame) (c : Counter) : (s.setQueue a q).counter c = s.counter c := by cases a <;> rfl
theorem setQueue_isPending (q : List Frame) (e : NoticeEvent) : (s.setQueue a q).isPending e = s.isPending e := by cases a <;> rfl
theorem setQueue_armed (q : List Frame) : (s.setQueue a q).highWaterArmed = s.highWaterArmed := by cases a <;> rfl

theorem supersede_queues : (s.supersede a f).queues = (s.setQueue a (s.kept a f)).queues := by
  rw [supersede_eq]
  split
  · next none => rw [kept_of_none none, setQueue_self]
  · exact (replySuperseded_queues _ _).1.trans rearm_queues

theorem supersede_armed : (s.supersede a f).highWaterArmed = true ↔
    s.highWaterArmed = true ∨ (s.gone a f ≠ [] ∧ (s.setQueue a (s.kept a f)).occupancy < 160) := by
  rw [supersede_eq]
  split
  · next none => simp [none]
  · next some =>
    rw [(replySuperseded_queues _ _).2, rearm_armed, setQueue_armed]
    simp [some]

theorem supersede_replies (room : s.replies.length + (s.gone a f).length ≤ 16) :
    (s.supersede a f).replies = s.replies ++ leavingReplies .superseded (s.queue a).length 0 (s.gone a f) := by
  rw [supersede_eq]
  split
  · next none => simp [none, leavingReplies]
  · have before : ((s.setQueue a (s.kept a f)).rearm).replies = s.replies := rearm_replies.trans (setQueue_replies _ _)
    refine (replySuperseded_replies (s.queue a).length 0 (s.gone a f) (by rw [before]; exact room)).trans ?_
    rw [before]

theorem supersede_counter (c : Counter) (h : c ≠ .repliesLost) : (s.supersede a f).counter c
    = if c = .framesSuperseded then counted^[(s.gone a f).length] (s.counter c) else s.counter c := by
  rw [supersede_eq]
  split
  · next none => simp [none]
  · rw [replySuperseded_counter _ _ _ h, rearm_counter, setQueue_counter]

theorem supersede_isPending (e : NoticeEvent) (h : e ≠ .counter128) : (s.supersede a f).isPending e = s.isPending e := by
  rw [supersede_eq]
  split
  · rfl
  · rw [replySuperseded_isPending _ _ _ h, rearm_isPending, setQueue_isPending]

/-! ## The room check and the entry (R79, R81, R86) -/

/-- An entry before the end of a drain that it may bring. -/
def State.entered (s : State) (a : Nat) (f : Frame) : State :=
  if (s.supersede a f).holdRoom a then (s.supersede a f).appendHeld a f
  else (s.supersede a f).defer f ((s.supersede a f).queue a).length

theorem holdEntry_eq : State.holdEntry a s f =
    if (s.supersede a f).holdRoom a then s.entered a f else (s.entered a f).checkDrain a := by
  unfold State.holdEntry State.entered
  by_cases room : (s.supersede a f).holdRoom a = true
  · simp only [if_pos room]
  · simp only [if_neg room]

theorem entered_holds : s.entered a f = s.holding (s.entered a f) := by
  have shape := supersede_holds (s := s) a f
  unfold State.entered
  split
  · exact (congrArg (fun z : State => z.appendHeld a f) shape).trans (holding_appendHeld s a f)
  · exact (congrArg (fun z : State => z.defer f _) shape).trans (holding_defer s f _)

/-- An entry leaves all that the engine leaves and that it does not write itself. -/
theorem holdEntry_core : (State.holdEntry a s f).core = (s.entered a f).core := by
  rw [holdEntry_eq]
  split
  · rfl
  · exact checkDrain_core _ a

theorem follows_entered : Follows (s.entered a f) (State.holdEntry a s f) := by
  rw [holdEntry_eq]
  split
  · exact .rfl' _
  · exact follows_checkDrain _ a

variable (valid : validStation a = true)
include valid

theorem supersede_queue : (s.supersede a f).queue a = s.kept a f := by
  rw [queue_congr (supersede_queues a f), setQueue_queue, if_pos ⟨rfl, valid⟩]

/-- The room check finds the queue and the pool as superseding has left them (R81). -/
theorem supersede_room : (s.supersede a f).holdRoom a = true ↔ (s.kept a f).length < (s.station a).config.holdQuota
    ∧ (s.setQueue a (s.kept a f)).occupancy < 256 := by
  have station : (s.supersede a f).station a = s.station a := by rw [supersede_holds, station_holding]
  simp only [State.holdRoom, Bool.and_eq_true, decide_eq_true_eq, station, supersede_queue a f valid,
    occupancy_congr (supersede_queues a f)]
  rfl

/-- The HOLD-REPLY of an entry: HELD with the frame counted, or DEFERRED. -/
def State.entryReply (s : State) (a : Nat) (f : Frame) : Reply :=
  { frame := if (s.supersede a f).holdRoom a then holdReply f .held ((s.kept a f).length + 1)
      else holdReply f .deferred (s.kept a f).length
    isReset := false }

/-- A frame appended (R81, R86): the state but for its reply. -/
theorem entered_room (room : (s.supersede a f).holdRoom a = true) : s.entered a f =
    (((s.supersede a f).setQueue a (s.kept a f ++ [f])).testHighWater).replyHold f .held ((s.kept a f).length + 1) := by
  unfold State.entered State.appendHeld
  rw [if_pos room]
  dsimp only
  rw [supersede_queue a f valid, List.length_append]
  rfl

theorem entered_full (room : (s.supersede a f).holdRoom a = false) :
    s.entered a f = (s.supersede a f).defer f (s.kept a f).length := by
  unfold State.entered
  rw [room, if_neg Bool.false_ne_true, supersede_queue a f valid]

/-- What the high-water test finds (R86). -/
theorem appended_occupancy : ((s.supersede a f).setQueue a (s.kept a f ++ [f])).occupancy
    = (s.setQueue a (s.kept a f)).occupancy + 1 := by
  have queue := supersede_queue (s := s) a f valid
  have grown := occupancy_append (s := s.supersede a f) valid f
  rw [queue] at grown
  rw [grown, occupancy_congr (supersede_queues a f)]
end

section
variable (e : NoticeEvent)

theorem testHighWater_raises (full : s.occupancy = 192) (armed : s.highWaterArmed = true) :
    s.testHighWater = State.raise { s with highWaterArmed := false } .highWater := by
  unfold State.testHighWater
  exact if_pos (by simp [Config.highWater, full, armed])

theorem testHighWater_quiet (h : s.occupancy ≠ 192 ∨ s.highWaterArmed = false) : s.testHighWater = s := by
  unfold State.testHighWater
  refine if_neg ?_
  rw [Bool.and_eq_true, decide_eq_true_eq]
  rintro ⟨full, armed⟩
  exact h.elim (fun k => k full) (fun k => by rw [armed] at k; cases k)

theorem testHighWater_queues : s.testHighWater.queues = s.queues := by unfold State.testHighWater; split <;> rfl
theorem testHighWater_replies : s.testHighWater.replies = s.replies := by unfold State.testHighWater; split <;> rfl
theorem testHighWater_counter (c : Counter) : s.testHighWater.counter c = s.counter c := by
  unfold State.testHighWater; split <;> rfl
end

/-! ## What an entry leaves -/

section
variable (a : Nat) (f : Frame) (valid : validStation a = true)
include valid

theorem entered_queues : (s.entered a f).queues =
    (s.setQueue a (if (s.supersede a f).holdRoom a then s.kept a f ++ [f] else s.kept a f)).queues := by
  cases room : (s.supersede a f).holdRoom a with
  | true =>
    rw [entered_room a f valid room, if_pos rfl]
    refine (placeReply_queues _).trans (testHighWater_queues.trans ?_)
    exact (setQueue_queues (supersede_queues a f) a _).trans (setQueue_setQueue_queues a _ _)
  | false =>
    rw [entered_full a f valid room, if_neg Bool.false_ne_true]
    exact (defer_queues _ _).trans (supersede_queues a f)

theorem entered_counter (c : Counter) (h : c ≠ .repliesLost) : (s.entered a f).counter c =
    if c = .framesSuperseded then counted^[(s.gone a f).length] (s.counter c)
    else if c = .framesDeferred ∧ (s.supersede a f).holdRoom a = false then counted (s.counter c)
    else s.counter c := by
  have before := supersede_counter (s := s) a f c h
  cases room : (s.supersede a f).holdRoom a with
  | true =>
    rw [entered_room a f valid room, State.replyHold, placeReply_counter _ _ h, testHighWater_counter, setQueue_counter, before]
    simp
  | false =>
    rw [entered_full a f valid room, defer_counter _ _ _ h, before]
    by_cases superseded : c = .framesSuperseded
    · subst superseded; simp
    · simp [superseded]

theorem entered_replies (places : s.replies.length + (s.gone a f).length < 16) : (s.entered a f).replies =
    s.replies ++ leavingReplies .superseded (s.queue a).length 0 (s.gone a f) ++ [s.entryReply a f] := by
  unfold State.entryReply
  have before := supersede_replies (s := s) a f (by omega)
  have length : (s.supersede a f).replies.length < 16 := by
    rw [before]
    simpa [leavingReplies] using places
  cases room : (s.supersede a f).holdRoom a with
  | true =>
    have waiting : (((s.supersede a f).setQueue a (s.kept a f ++ [f])).testHighWater).replies = (s.supersede a f).replies :=
      testHighWater_replies.trans (setQueue_replies _ _)
    rw [entered_room a f valid room, if_pos rfl, State.replyHold, placeReply_replies (by rw [waiting]; exact length), waiting, before]
  | false =>
    rw [entered_full a f valid room, if_neg Bool.false_ne_true, defer_replies, State.replyHold, placeReply_replies length, before]

/-- An append that brings an armed pool to 192 raises "high water" and spends the flag (R86). -/
theorem entered_highWater (room : (s.supersede a f).holdRoom a = true) (full : (s.setQueue a (s.kept a f)).occupancy = 191)
    (armed : (s.supersede a f).highWaterArmed = true) :
    (s.entered a f).isPending .highWater = true ∧ (s.entered a f).highWaterArmed = false := by
  have raised := testHighWater_raises (s := (s.supersede a f).setQueue a (s.kept a f ++ [f]))
    ((appended_occupancy a f valid).trans (by rw [full])) ((setQueue_armed _ _).trans armed)
  rw [entered_room a f valid room, raised]
  exact ⟨(placeReply_isPending _ _ (by decide)).trans (raise_isPending _ _), placeReply_armed _⟩

/-- Every other entry leaves the flag as superseding has left it. -/
theorem entered_armed (h : (s.supersede a f).holdRoom a = false ∨ (s.setQueue a (s.kept a f)).occupancy ≠ 191
    ∨ (s.supersede a f).highWaterArmed = false) : (s.entered a f).highWaterArmed = (s.supersede a f).highWaterArmed := by
  cases room : (s.supersede a f).holdRoom a with
  | true =>
    have quiet := testHighWater_quiet (s := (s.supersede a f).setQueue a (s.kept a f ++ [f])) (by
      rw [appended_occupancy a f valid, setQueue_armed]
      rcases h with h | h | h
      · rw [room] at h; cases h
      · exact .inl (by omega)
      · exact .inr h)
    rw [entered_room a f valid room, quiet]
    exact (placeReply_armed _).trans (setQueue_armed _ _)
  | false =>
    rw [entered_full a f valid room]
    unfold State.defer State.replyHold
    exact (count_armed _).trans (placeReply_armed _)

theorem entered_deferral (room : (s.supersede a f).holdRoom a = false) : (s.entered a f).isPending .deferral = true := by
  rw [entered_full a f valid room]
  exact defer_isPending _ _
end

/-! ## A frame decided hold (R21, R79, R89) -/

/-- The downward decision of a SET or ORDER for a station whose frames are held (R21). -/
theorem classifyDown_hold {f : Frame} (b : Bool) (loaded : s.loading = false) (valid : validStation f.station = true)
    (kind : f.kind = kindSet ∨ f.kind = kindOrder) (holds : (s.station f.station).state.holds = true) :
    s.classifyDown b f = s.holdArrival f := by
  obtain ⟨low, high⟩ := (validStation_iff _).1 valid
  have seen : s.seenState f.station = (s.station f.station).state := by simp [State.seenState, loaded]
  have noAlert : f.kind ≠ kindAlert := by rcases kind with k | k <;> rw [k] <;> decide
  unfold State.classifyDown
  rw [if_neg (by omega), if_neg noAlert, if_neg (by omega), if_pos]
  rw [seen, holds]
  rcases kind with k | k <;> simp [k]

/-- The arrival leaves what the entry leaves of all but the Run Engine's business, and takes no pending flag back. -/
theorem holdArrival_entered (f : Frame) : (s.holdArrival f).core = (s.entered f.station f).core
    ∧ Follows (s.entered f.station f) (s.holdArrival f) := by
  have entry := holdEntry_core (s := s) f.station f
  have follows := follows_entered (s := s) f.station f
  unfold State.holdArrival
  dsimp only
  split
  · exact ⟨entry, follows⟩
  · exact ⟨(settleFrom_core _ _).trans entry, follows.trans (follows_settleFrom _ _)⟩

/-- What the arrival of a SET or ORDER for a station whose frames are held leaves, both ports sending. -/
theorem holdArrival_effect {f : Frame} (present : s.silence.silent = false) (loaded : s.loading = false) (fBusy : s.FBusy)
    (sBusy : s.SBusy) (valid : validStation f.station = true) (kind : f.kind = kindSet ∨ f.kind = kindOrder)
    (holds : (s.station f.station).state.holds = true) :
    let kept := s.kept f.station f
    let gone := s.gone f.station f
    let occupied := (s.setQueue f.station kept).occupancy
    let room := kept.length < (s.station f.station).config.holdQuota ∧ occupied < 256
    let armed := s.highWaterArmed = true ∨ (gone ≠ [] ∧ occupied < 160)
    ∃ t, exec (.sFrameArrival f) s = .next t ∧ Untouched s.heard t ∧ t.passDown = s.passDown
      ∧ (∀ a, a ≠ f.station → t.queue a = s.queue a)
      ∧ (room → t.queue f.station = kept ++ [f])
      ∧ (¬ room → t.queue f.station = kept ∧ t.isPending .deferral = true
          ∧ t.counter .framesDeferred = counted (s.counter .framesDeferred))
      ∧ t.counter .framesSuperseded = counted^[gone.length] (s.counter .framesSuperseded)
      ∧ (s.replies.length + gone.length < 16 → t.replies =
          s.replies ++ leavingReplies .superseded (s.queue f.station).length 0 gone ++ [{ frame :=
            { station := f.station, kind := 43, seq := f.seq
              payload := if room then [1, f.kind, byte (kept.length + 1)] else [3, f.kind, byte kept.length] }, isReset := false }])
      ∧ (room → occupied = 191 → armed → t.isPending .highWater = true ∧ t.highWaterArmed = false)
      ∧ (¬ room ∨ occupied ≠ 191 ∨ ¬ armed → (t.highWaterArmed = true ↔ armed)) := by
  intro kept gone occupied room armed
  obtain ⟨z, hz⟩ : ∃ z, z = s.heard := ⟨_, rfl⟩
  obtain ⟨e, he⟩ : ∃ e, e = z.entered f.station f := ⟨_, rfl⟩
  obtain ⟨t, ht⟩ : ∃ t, t = z.holdArrival f := ⟨_, rfl⟩
  have same : z.queues = s.queues := by rw [hz]; rfl
  have station : ∀ a, z.station a = s.station a := station_congr (by rw [hz]; rfl)
  have queue : ∀ a, z.queue a = s.queue a := queue_congr same
  have hkept : z.kept f.station f = kept := by unfold State.kept; rw [queue]; rfl
  have hgone : z.gone f.station f = gone := by unfold State.gone; rw [queue]; rfl
  have hoccupied : (z.setQueue f.station kept).occupancy = occupied := occupancy_congr (setQueue_queues same _ _)
  have hroom : (z.supersede f.station f).holdRoom f.station = true ↔ room := by
    rw [supersede_room _ _ valid, hkept, hoccupied, station]
  have harmed : (z.supersede f.station f).highWaterArmed = true ↔ armed := by
    rw [supersede_armed, hkept, hgone, hoccupied, hz]
    rfl
  have noRoom : ¬ room → (z.supersede f.station f).holdRoom f.station = false := fun n =>
    Bool.eq_false_iff.2 fun k => n (hroom.1 k)
  obtain ⟨core, follows⟩ := holdArrival_entered (s := z) f
  rw [← he, ← ht] at core follows
  have keeps {α : Type} (g : State → α) : g t.core = g e.core := congrArg g core
  have arrives : exec (.sFrameArrival f) s = .next (s.close t) := by
    show Host.Outcome.next (s.close (s.arrive .s f)) = _
    rw [arrive_present present, classifyDown_hold (s := s.heard) _ loaded valid kind (by rw [← hz, station]; exact holds), ht, hz]
  have shape : e = z.holding e := he ▸ entered_holds f.station f
  have shaped {α : Type} (g : State → α) : g e = g (z.holding e) := congrArg g shape
  have wireF : t.wireF = s.wireF := (keeps State.wireF).trans ((shaped State.wireF).trans (by rw [hz]; rfl))
  have wireS : t.wireS = s.wireS := (keeps State.wireS).trans ((shaped State.wireS).trans (by rw [hz]; rfl))
  obtain ⟨v, closed, up⟩ := close_upward (s := s) (t := t) (show t.wireF.isSome = true by rw [wireF]; exact fBusy)
  obtain ⟨replies, -, -⟩ := up (show t.wireS.isSome = true by rw [wireS]; exact sBusy)
  have untouched : Untouched s.heard t := by
    have entered : Untouched z e := by rw [shape]; exact untouched_holding z
    rw [hz] at entered
    exact entered.trans (untouched_of_core core)
  have queues := entered_queues (s := z) f.station f valid
  rw [← he, hkept] at queues
  have counter : ∀ c, c ≠ .repliesLost → t.counter c = _ := fun c ne =>
    (keeps (fun x => x.counter c)).trans ((congrArg (fun x : State => x.counter c) he).trans (entered_counter f.station f valid c ne))
  have counters : ∀ c, z.counter c = s.counter c := fun c => by rw [hz]; rfl
  have tail := entered_replies (s := z) f.station f valid
  rw [← he, hgone, queue, show z.replies = s.replies by rw [hz]; rfl] at tail
  have tqueue : ∀ a, t.queue a = e.queue a := queue_congr (keeps State.queues)
  have tarmed : t.highWaterArmed = e.highWaterArmed := keeps State.highWaterArmed
  refine ⟨_, arrives.trans (by rw [closed]), untouched.trans (untouched_upward t v), ?fifo, fun a other => ?others, fun r => ?held,
    fun n => ⟨?_, ?_, ?_⟩, ?superseded, fun places => ?replies, fun r full ready => ?high, fun quiet => ?armed⟩
  case fifo => exact (keeps State.passDown).trans ((shaped State.passDown).trans (by rw [hz]; rfl))
  case others =>
    refine (tqueue a).trans ((queue_congr queues a).trans ?_)
    rw [setQueue_queue, if_neg fun k => other k.1.symm, queue]
  case held =>
    refine (tqueue _).trans ((queue_congr queues _).trans ?_)
    rw [setQueue_queue, if_pos ⟨rfl, valid⟩, if_pos (hroom.2 r)]
  · refine (tqueue _).trans ((queue_congr queues _).trans ?_)
    rw [setQueue_queue, if_pos ⟨rfl, valid⟩, if_neg fun k => n (hroom.1 k)]
  · exact follows.pending _ (he ▸ entered_deferral f.station f valid (noRoom n))
  · refine (counter _ (by decide)).trans ?_
    rw [if_neg (by decide), if_pos ⟨rfl, noRoom n⟩, counters]
  case superseded =>
    refine (counter _ (by decide)).trans ?_
    rw [if_pos rfl, hgone, counters]
  case replies =>
    refine replies.trans ((keeps State.replies).trans ((tail places).trans ?_))
    refine congrArg (fun r : Reply => _ ++ [r]) ?_
    unfold State.entryReply
    rw [hkept]
    by_cases r : room
    · simp only [if_pos (hroom.2 r), if_pos r]
      rfl
    · simp only [if_neg r, if_neg fun k => r (hroom.1 k)]
      rfl
  case high =>
    obtain ⟨raised, spent⟩ := entered_highWater f.station f valid (hroom.2 r) (by rw [hkept, hoccupied]; exact full) (harmed.2 ready)
    rw [← he] at raised spent
    exact ⟨follows.pending _ raised, tarmed.trans spent⟩
  case armed =>
    have left := entered_armed (s := z) f.station f valid (by
      rw [hkept, hoccupied]
      exact quiet.imp noRoom (Or.imp_right fun k => Bool.eq_false_iff.2 fun r => k (harmed.1 r)))
    rw [← he] at left
    show t.highWaterArmed = true ↔ armed
    rw [tarmed, left]
    exact harmed

/-- Settles O22: the scan by its two halves, then the arrival by what its entry leaves. -/
theorem holdEntryKeepsOrder : Obligations.HoldEntryKeepsOrder := by
  unfold Obligations.HoldEntryKeepsOrder
  refine ⟨fun chs newer older o noOrder order => ?_, fun chs q noOrder => ?_, supersededBy_iff,
    fun s f present loaded fBusy sBusy valid kind holds => holdArrival_effect present loaded fBusy sBusy valid kind holds⟩
  · rw [scanQueue_append chs newer _ noOrder, scanQueue_cons_order chs o older order]
    simp
  · have scan := scanQueue_append chs q [] noOrder
    simpa [scanQueue] using scan

end Sys2Proof.Machine
end

section
/-! SUPPORT. The leaving of membership, step by step, and the last held frame of a drain (R43, R46, R89). -/

namespace Sys2Proof.Machine

variable {s : State}

/-! ## The steps of a station that leaves membership (R46) -/

/-- What leaving membership makes of a step's entry (R46). -/
def leftEntry (d : Bool) (e : StepEntry) : StepEntry :=
  match e.state with
  | .pending => { e with state := .skipped }
  | .awaiting => { e with state := .skipped }
  | .issued => { e with state := .skipped }
  | .settling => if d then e else { e with state := .skipped, settle := none }
  | _ => e

theorem leftEntry_idem (d : Bool) (e : StepEntry) : leftEntry d (leftEntry d e) = leftEntry d e := by
  unfold leftEntry
  cases state : e.state <;> cases d <;> simp [state]

theorem leaveStep_entry (a : Nat) (d : Bool) (n m : Nat) :
    (State.leaveStep a d s n).entry m = if n = m ∧ m < 96 then leftEntry d (s.entry n) else s.entry m := by
  have kept : s.entry m = if n = m ∧ m < 96 then s.entry n else s.entry m := by
    split
    · next same => rw [same.1]
    · rfl
  have skips : ∀ h : leftEntry d (s.entry n) = { s.entry n with state := .skipped },
      (s.setStepState n .skipped).entry m = if n = m ∧ m < 96 then leftEntry d (s.entry n) else s.entry m := fun h => by
    rw [h]
    exact setStepState_entry n m .skipped
  unfold State.leaveStep
  split
  · next before => exact skips (by simp [leftEntry, before])
  · next before => exact skips (by simp [leftEntry, before])
  · next before => exact (entry_congr (cancelRecordOf_entries n a) m).trans (skips (by simp [leftEntry, before]))
  · next before =>
    cases d
    · rw [show leftEntry false (s.entry n) = { s.entry n with state := .skipped, settle := none } by simp [leftEntry, before]]
      exact setEntry_entry s n m _
    · rw [show leftEntry true (s.entry n) = s.entry n by simp [leftEntry, before]]
      exact kept
  · next p w i g =>
    rw [show leftEntry d (s.entry n) = s.entry n by
      unfold leftEntry
      cases state : (s.entry n).state <;> simp_all]
    exact kept

theorem leaveSteps_entry (a : Nat) (d : Bool) (l : List Nat) (m : Nat) :
    (l.foldl (State.leaveStep a d) s).entry m = if m ∈ l ∧ m < 96 then leftEntry d (s.entry m) else s.entry m := by
  induction l generalizing s with
  | nil => simp
  | cons n l ih =>
    rw [List.foldl_cons, ih, leaveStep_entry]
    by_cases lt : m < 96
    · by_cases same : n = m
      · subst same
        simp [lt, leftEntry_idem]
      · simp [lt, same, Ne.symm same]
    · simp [lt]

/-- A member that leaves a run in progress leaves its steps so. -/
theorem leaveRun_entry {a : Nat} (d : Bool) (member : (s.station a).member = true) (runs : s.run.inProgress = true) {n : Nat}
    (used : (s.step n).used = true) (own : (s.step n).station = a) :
    (s.leaveRun a d).entry n = leftEntry d (s.entry n) := by
  have lt := step_used_lt used
  have mem : n ∈ (s.updateStation a (fun r => { r with member := false })).stepsOf a := by
    have step : (s.updateStation a (fun r => { r with member := false })).step n = s.step n := by simp [State.step]
    simp [State.stepsOf, stepNumbers, step, used, own, lt]
  unfold State.leaveRun State.leaveSteps
  dsimp only
  rw [if_pos (by simp [member, runs]), leaveSteps_entry, if_pos ⟨mem, lt⟩, entry_congr (updateStation_entries ..)]

/-! ## The end of a drain (R43, R89) -/

/-- What the Run Engine makes of `s` before the closing of the leaving of an F-port frame: nothing of the hold queues, the stations,
the steps and the run. -/
theorem snoop_pooling (f : Frame) : s.snoop f = s.pooling (s.snoop f) := by
  unfold State.snoop
  split
  · exact snoopPoints_pooling (s := s) s _ _ _ rfl
  · rfl

theorem injectionLeft_slots (f : Frame) : s.injectionLeft f = { s with slots := (s.injectionLeft f).slots } := by
  unfold State.injectionLeft
  repeat' split
  all_goals rfl

/-- The leaving of an F-port frame frees the transmitter, and writes none of the tables named. -/
theorem fLeaves_keeps (busy : s.FBusy) : s.fLeaves.wireF = none ∧ s.fLeaves.queues = s.queues ∧ s.fLeaves.stations = s.stations
    ∧ s.fLeaves.entries = s.entries ∧ s.fLeaves.run = s.run ∧ s.fLeaves.plan = s.plan := by
  obtain ⟨w, wire⟩ := Option.isSome_iff_exists.1 busy
  have snooped : ∀ f, (s.freeF.snoop f).wireF = none ∧ (s.freeF.snoop f).queues = s.queues
      ∧ (s.freeF.snoop f).stations = s.stations ∧ (s.freeF.snoop f).entries = s.entries ∧ (s.freeF.snoop f).run = s.run
      ∧ (s.freeF.snoop f).plan = s.plan := fun f => by
    rw [snoop_pooling]
    exact ⟨rfl, rfl, rfl, rfl, rfl, rfl⟩
  unfold State.fLeaves
  rw [wire]
  dsimp only
  split
  · rw [injectionLeft_slots]
    exact ⟨rfl, rfl, rfl, rfl, rfl, rfl⟩
  · exact ⟨rfl, rfl, rfl, rfl, rfl, rfl⟩
  · split
    · exact snooped _
    · exact ⟨rfl, rfl, rfl, rfl, rfl, rfl⟩
  · split
    · exact snooped _
    · exact ⟨rfl, rfl, rfl, rfl, rfl, rfl⟩

theorem mem_stationNumbers {a : Nat} : a ∈ stationNumbers ↔ validStation a = true := by
  unfold stationNumbers
  rw [List.mem_range'_1, validStation_iff]
  omega

theorem drainOffers_mem {a : Nat} (h : a ∈ s.drainOffers) :
    validStation a = true ∧ (s.station a).state = .draining ∧ s.queue a ≠ [] := by
  have offers := List.mem_filter.1 h
  simp only [Bool.and_eq_true, decide_eq_true_eq, Bool.not_eq_true', List.isEmpty_eq_false_iff] at offers
  exact ⟨mem_stationNumbers.1 offers.1, offers.2⟩

theorem drainChoice_mem {a : Nat} (h : s.drainChoice = some a) : a ∈ s.drainOffers := by
  unfold State.drainChoice at h
  split at h
  · next b found =>
    cases h
    exact List.mem_of_find?_eq_some found
  · exact List.mem_of_head? h

/-- The FIFO's head is an ALERT. -/
def State.headAlert (s : State) : Bool :=
  match s.passDown.head? with
  | some f => decide (f.kind = kindAlert)
  | none => false

theorem fChoice_eq : s.fChoice =
    if s.headAlert then some .alertHead
    else if s.alertReserve.isSome then some .alertReserve
    else if decide (4 ≤ s.drainGuard) && s.drainChoice.isSome then s.drainChoice.map FChoice.drain
    else match s.injectionChoice with
      | some i => some (.injection i)
      | none => if s.passDown.isEmpty then s.drainChoice.map FChoice.drain else some .pass := rfl

theorem fChoice_drain {a : Nat} (h : s.fChoice = some (.drain a)) : s.drainChoice = some a := by
  have drains : s.drainChoice.map FChoice.drain = some (.drain a) → s.drainChoice = some a := fun k => by
    obtain ⟨b, choice, same⟩ := Option.map_eq_some_iff.1 k
    cases same
    exact choice
  rw [fChoice_eq] at h
  split at h
  · cases h
  · split at h
    · cases h
    · split at h
      · exact drains h
      · split at h
        · cases h
        · split at h
          · exact drains h
          · cases h

/-- The queue and the drain's fields right after a drain frame is taken, before the drain's end. -/
def State.drained (s : State) (a : Nat) (f : Frame) (rest : List Frame) : State :=
  { (s.setQueue a rest).rearm with wireF := some { frame := f, source := .drain }, drainGuard := 0, lastDrain := a }

theorem sendDrain_eq {a : Nat} {f : Frame} {rest : List Frame} (h : s.queue a = f :: rest) :
    s.sendDrain a = if rest.isEmpty then (s.drained a f rest).settleFrom ((s.drained a f rest).checkDrain a)
      else s.drained a f rest := by
  unfold State.sendDrain
  rw [h]
  rfl

theorem drained_queue (a : Nat) (f : Frame) (rest : List Frame) (b : Nat) :
    (s.drained a f rest).queue b = if a = b ∧ validStation b = true then rest else s.queue b := by
  have queues : (s.drained a f rest).queues = (s.setQueue a rest).queues := by
    unfold State.drained State.rearm
    split <;> rfl
  rw [queue_congr queues, setQueue_queue]

theorem drained_keeps (a : Nat) (f : Frame) (rest : List Frame) : (s.drained a f rest).stations = s.stations
    ∧ (s.drained a f rest).entries = s.entries ∧ (s.drained a f rest).run = s.run ∧ (s.drained a f rest).plan = s.plan := by
  have queue : ∀ q, (s.setQueue a q).stations = s.stations ∧ (s.setQueue a q).entries = s.entries ∧ (s.setQueue a q).run = s.run
      ∧ (s.setQueue a q).plan = s.plan := fun q => by cases a <;> exact ⟨rfl, rfl, rfl, rfl⟩
  unfold State.drained State.rearm
  split <;> exact queue rest

theorem fArbiter_drain {a : Nat} {f : Frame} (free : s.wireF = none) (choice : s.fChoice = some (.drain a)) (last : s.queue a = [f]) :
    s.fArbiter = (s.drained a f []).settleFrom ((s.drained a f []).drainEnd a) := by
  have offers := drainOffers_mem (drainChoice_mem (fChoice_drain choice))
  obtain ⟨stations, -⟩ := drained_keeps (s := s) a f []
  have ends : (s.drained a f []).checkDrain a = (s.drained a f []).drainEnd a := by
    unfold State.checkDrain
    rw [if_pos (by simp [station_congr stations, offers.2.1, drained_queue, offers.1])]
  have chosen : s.fArbiter = s.sendDrain a := by
    unfold State.fArbiter State.fChoose
    rw [free, choice]
    rfl
  rw [chosen, sendDrain_eq last, ends]
  rfl

/-- The station record at its drain's end (R43). -/
def drainEndRecord (r : StationRecord) : StationRecord :=
  if r.faultPending then { r with state := .faulted, faultPending := false } else { r with state := .online }

/-- The drain's end before its leaving of membership. -/
def State.drainOver (s : State) (a : Nat) : State :=
  if (s.station a).faultPending then (s.updateStation a drainEndRecord).raise .faulted else s.updateStation a drainEndRecord

theorem drainEnd_eq (a : Nat) : s.drainEnd a = (s.drainOver a).leaveRun a true := by
  have same : ∀ g : StationRecord → StationRecord, g (s.station a) = drainEndRecord (s.station a) →
      s.updateStation a g = s.updateStation a drainEndRecord := fun g h => by
    unfold State.updateStation
    rw [h]
  unfold State.drainEnd State.drainOver
  dsimp only
  congr 1
  split
  · next pending =>
    rw [same]
    simp [drainEndRecord, pending]
  · next clear =>
    rw [same]
    simp [drainEndRecord, clear]

theorem drainOver_keeps (a : Nat) : (s.drainOver a).stations = (s.updateStation a drainEndRecord).stations
    ∧ (s.drainOver a).entries = s.entries ∧ (s.drainOver a).run = s.run ∧ (s.drainOver a).plan = s.plan := by
  unfold State.drainOver
  split
  · exact ⟨rfl, updateStation_entries .., updateStation_run .., updateStation_plan ..⟩
  · exact ⟨rfl, updateStation_entries .., updateStation_run .., updateStation_plan ..⟩

/-- Settles O43: the choice of the drain's last frame, the drain's end, and the follow-up, which takes no step and no station back. -/
theorem drainEndLeavesTheRun : Obligations.DrainEndLeavesTheRun := by
  unfold Obligations.DrainEndLeavesTheRun
  intro s a f busy choice last x
  obtain ⟨free, queues, stations, entries, run, plan⟩ := fLeaves_keeps busy
  obtain ⟨v, hv⟩ : ∃ v, v = s.fLeaves := ⟨_, rfl⟩
  rw [← hv] at free queues stations entries run plan choice
  have last' : v.queue a = [f] := (queue_congr queues a).trans last
  have valid := (drainOffers_mem (drainChoice_mem (fChoice_drain choice))).1
  obtain ⟨d, hd⟩ : ∃ d, d = v.drained a f [] := ⟨_, rfl⟩
  obtain ⟨dStations, dEntries, dRun, dPlan⟩ := hd ▸ drained_keeps (s := v) a f []
  have dQueue := fun b => hd ▸ drained_queue (s := v) a f [] b
  have record : d.station a = x := (station_congr (dStations.trans stations) a)
  obtain ⟨o, ho⟩ : ∃ o, o = d.drainOver a := ⟨_, rfl⟩
  obtain ⟨oStations, oEntries, oRun, oPlan⟩ := ho ▸ drainOver_keeps (s := d) a
  have ended : o.station a = drainEndRecord x := by
    rw [station_congr oStations, updateStation_station, if_pos ⟨rfl, valid⟩, record]
  obtain ⟨l, hl⟩ : ∃ l, l = o.leaveRun a true := ⟨_, rfl⟩
  have left : l.station a = { drainEndRecord x with member := false } := by
    rw [hl, leaveRun_station, if_pos rfl, ended]
  have arbiter : v.fArbiter = d.settleFrom l := by
    rw [fArbiter_drain free choice last', ← hd, drainEnd_eq, ← ho, ← hl]
  have core : l.core = d.core := by rw [hl, ← drainEnd_core d a, drainEnd_eq, ho]
  obtain ⟨t, ht⟩ : ∃ t, t = d.settleFrom l := ⟨_, rfl⟩
  obtain ⟨w, leaves⟩ : ∃ w, exec .fTransmitComplete s = .next (t.upward w) := by
    refine ⟨(t.testNotice s.reportedEmpty).sArbiter, ?_⟩
    show Host.Outcome.next (s.close s.fLeaves) = _
    unfold State.close
    rw [← hv, arbiter, ← ht]
    exact congrArg _ (noticed_up t _)
  have turned : StationTurn (l.station a) (t.station a) := ht ▸ stationsTurn_followUp _ l a
  have follows : Follows l t := ht ▸ follows_settleFrom d l
  have keeps : ∀ {α : Type} (g : State → α), (∀ u : State, g u.core = g u) → g t = g d := fun g h => by
    rw [← h t, ← h d, ← core, ht, settleFrom_core]
  have queue : ∀ b, t.queue b = d.queue b := queue_congr (keeps State.queues core_queues)
  refine ⟨_, leaves, ?_, ?_, ?_, ?_, ?_, ?_, ?_, ?_, ?_, ?_, ?_⟩
  · exact (keeps State.wireF core_wireF).trans (by rw [hd]; rfl)
  · exact (queue a).trans ((dQueue a).trans (if_pos ⟨rfl, valid⟩))
  · exact (keeps State.lastDrain core_lastDrain).trans (by rw [hd]; rfl)
  · exact (keeps State.drainGuard core_drainGuard).trans (by rw [hd]; rfl)
  · have ends : ((l.station a).state = .faulted ∨ (l.station a).state = .online)
        ∧ (l.station a).state = if x.faultPending then .faulted else .online := by
      rw [left]
      unfold drainEndRecord
      cases x.faultPending <;> simp
    refine (turned.rests ?_ ?_ ?_).trans ends.2
    all_goals rcases ends.1 with e | e <;> rw [e] <;> decide
  · intro pending
    refine follows.pending _ ?_
    rw [hl]
    refine (follows_leaveRun o a true).pending _ ?_
    rw [ho, State.drainOver, if_pos (by rw [record]; exact pending)]
    exact raise_isPending _ _
  · refine Bool.eq_false_iff.2 fun member => ?_
    have before := turned.member member
    rw [left] at before
    exact absurd before (by simp)
  · refine Bool.eq_false_iff.2 fun pending => ?_
    have before := turned.pending pending
    rw [left] at before
    unfold drainEndRecord at before
    split at before
    · simp at before
    · next clear => exact clear before
  · refine turned.cause.trans ?_
    rw [left]
    unfold drainEndRecord
    split <;> rfl
  · intro member runs n used own
    have steps : o.step n = s.step n := by simp [State.step, oPlan.trans (dPlan.trans plan)]
    have before : o.entry n = s.entry n := entry_congr (oEntries.trans (dEntries.trans entries)) n
    have leaves : l.entry n = leftEntry true (s.entry n) := by
      rw [hl, leaveRun_entry true _ _ (by rw [steps]; exact used) (by rw [steps]; exact own), before]
      · rw [ended]
        unfold drainEndRecord
        split <;> exact member
      · rw [oRun.trans (dRun.trans run)]
        exact runs
    refine ⟨fun waits => ?_, fun settles => ?_⟩
    · have skipped : (l.entry n).state = .skipped := by
        rw [leaves]
        unfold leftEntry
        rcases waits with h | h | h <;> rw [h]
      have same := follows.terminal n (by rw [skipped]; rfl)
      exact (congrArg StepEntry.state same).trans skipped
    · have same : l.entry n = s.entry n := by
        rw [leaves]
        unfold leftEntry
        rw [settles]
        rfl
      rw [← same, ht]
      exact followUp_settling _ n (by rw [same]; exact settles)
  · intro b other
    exact (queue b).trans ((dQueue b).trans ((if_neg fun k => other k.1.symm).trans (queue_congr queues b)))

end Sys2Proof.Machine
end

section
/-! SUPPORT. A station that enters HELD (R40): its hand-over, and the joining of a run, whose steps return to PENDING (R110, R141). -/

namespace Sys2Proof.Machine

variable {s : State}

/-! ## Steps that return to PENDING (R141) -/

/-- The entry of a step returned to PENDING (R141). -/
def returnedEntry (e : StepEntry) : StepEntry := { e with state := .pending, cause := .none, nak := 0, settle := none }

/-- A contribution of a step that was ISSUED, once the steps of `l` are returned. -/
def State.reclocked (s : State) (l : List Nat) (c : Contribution) : Contribution :=
  if c.step ∈ l ∧ (s.entry c.step).state = .issued then { c with running := true } else c

section
variable (n : Nat)

theorem returnStep_eq : s.returnStep n =
    if (s.entry n).state = .pending then s
    else if (s.entry n).state = .issued then (s.setEntry n (returnedEntry (s.entry n))).startClock n
    else s.setEntry n (returnedEntry (s.entry n)) := by
  unfold State.returnStep returnedEntry
  cases state : (s.entry n).state <;> rfl

theorem returnStep_entry (m : Nat) : (s.returnStep n).entry m =
    if n = m ∧ m < 96 ∧ (s.entry m).state ≠ .pending then returnedEntry (s.entry m) else s.entry m := by
  have written : (s.setEntry n (returnedEntry (s.entry n))).entry m =
      if n = m ∧ m < 96 then returnedEntry (s.entry m) else s.entry m := by
    rw [setEntry_entry]
    by_cases same : n = m
    · rw [same]
    · rw [if_neg fun k => same k.1, if_neg fun k => same k.1]
  have started : ((s.setEntry n (returnedEntry (s.entry n))).startClock n).entry m =
      (s.setEntry n (returnedEntry (s.entry n))).entry m := rfl
  rw [returnStep_eq]
  by_cases pending : (s.entry n).state = .pending
  · rw [if_pos pending, if_neg]
    rintro ⟨rfl, -, other⟩
    exact other pending
  · have shape : ∀ t : State, t.entry m = (s.setEntry n (returnedEntry (s.entry n))).entry m →
        t.entry m = if n = m ∧ m < 96 ∧ (s.entry m).state ≠ .pending then returnedEntry (s.entry m) else s.entry m := fun t h => by
      rw [h, written]
      refine if_congr ⟨?_, fun k => ⟨k.1, k.2.1⟩⟩ rfl rfl
      rintro ⟨rfl, lt⟩
      exact ⟨rfl, lt, pending⟩
    rw [if_neg pending]
    split
    · exact shape _ started
    · exact shape _ rfl

theorem startClock_contributions : (s.startClock n).contributions =
    s.contributions.map (fun c => if c.step = n then { c with running := true } else c) := by
  refine List.map_congr_left fun c _ => ?_
  obtain ⟨step, feed, peak, steady, ramp, elapsed, running⟩ := c
  cases running <;> by_cases same : step = n <;> simp [same]

theorem returnStep_contributions : (s.returnStep n).contributions = s.contributions.map (s.reclocked [n]) := by
  have same : (s.entry n).state ≠ .issued → s.contributions.map (s.reclocked [n]) = s.contributions := fun other => by
    refine (List.map_congr_left fun c _ => if_neg ?_).trans (List.map_id _)
    rintro ⟨mem, issued⟩
    rw [List.mem_singleton.1 mem] at issued
    exact other issued
  rw [returnStep_eq]
  split
  · next pending => exact (same (by rw [pending]; decide)).symm
  · split
    · next issued =>
      rw [startClock_contributions, setEntry_contributions]
      refine List.map_congr_left fun c _ => if_congr ?_ rfl rfl
      rw [List.mem_singleton]
      exact ⟨fun k => ⟨k, by rw [k]; exact issued⟩, And.left⟩
    · next other =>
      rw [setEntry_contributions]
      exact (same other).symm

theorem returnStep_slots : (s.returnStep n).slots = s.slots := by
  rw [returnStep_eq]
  split
  · rfl
  · split <;> exact setEntry_slots ..

theorem returnStep_stations : (s.returnStep n).stations = s.stations := by
  rw [returnStep_eq]
  split
  · rfl
  · split <;> exact setEntry_stations ..

theorem returnStep_run : (s.returnStep n).run = s.run := by
  rw [returnStep_eq]
  split
  · rfl
  · split <;> exact setEntry_run ..

theorem returnStep_injectionSeq : (s.returnStep n).injectionSeq = s.injectionSeq := by
  rw [returnStep_eq]
  split
  · rfl
  · split <;> exact setEntry_injectionSeq ..
end

/-- The steps of `l`, returned. -/
def State.returnSteps (s : State) (l : List Nat) : State := l.foldl State.returnStep s

theorem returnSteps_entry (l : List Nat) (m : Nat) : (s.returnSteps l).entry m =
    if m ∈ l ∧ m < 96 ∧ (s.entry m).state ≠ .pending then returnedEntry (s.entry m) else s.entry m := by
  induction l generalizing s with
  | nil => simp [State.returnSteps]
  | cons n l ih =>
    show ((s.returnStep n).returnSteps l).entry m = _
    have first := returnStep_entry (s := s) n m
    obtain ⟨e, he⟩ : ∃ e, e = (s.returnStep n).entry m := ⟨_, rfl⟩
    rw [ih, ← he]
    rw [← he] at first
    by_cases now : n = m ∧ m < 96 ∧ (s.entry m).state ≠ .pending
    · rw [if_pos now] at first
      rw [first, if_neg fun k => k.2.2 rfl, if_pos ⟨by rw [now.1]; exact List.mem_cons_self, now.2⟩]
    · rw [if_neg now] at first
      rw [first]
      refine if_congr ⟨fun k => ⟨List.mem_cons_of_mem n k.1, k.2⟩, fun k => ⟨?_, k.2⟩⟩ rfl rfl
      exact (List.mem_cons.1 k.1).resolve_left fun same => now ⟨same.symm, k.2⟩

theorem returnSteps_contributions (l : List Nat) : (s.returnSteps l).contributions = s.contributions.map (s.reclocked l) := by
  induction l generalizing s with
  | nil => exact ((List.map_congr_left fun c _ => if_neg (by simp)).trans (List.map_id _)).symm
  | cons n l ih =>
    show ((s.returnStep n).returnSteps l).contributions = _
    rw [ih, returnStep_contributions, List.map_map]
    refine List.map_congr_left fun c _ => ?_
    show (s.returnStep n).reclocked l (s.reclocked [n] c) = s.reclocked (n :: l) c
    obtain ⟨d, hd⟩ : ∃ d, d = s.reclocked [n] c := ⟨_, rfl⟩
    have step : d.step = c.step := by
      rw [hd]
      unfold State.reclocked
      split <;> rfl
    have later := returnStep_entry (s := s) n c.step
    rw [← hd]
    by_cases issued : (s.entry c.step).state = .issued
    · have lt : c.step < 96 := by
        by_contra out
        have : s.entry c.step = .reset := by simp [State.entry, getAt, out]
        rw [this] at issued
        cases issued
      by_cases same : n = c.step
      · rw [if_pos ⟨same, lt, by rw [issued]; decide⟩] at later
        have here : d = { c with running := true } :=
          hd.trans (if_pos ⟨by rw [same]; exact List.mem_singleton_self _, issued⟩)
        have next : (s.returnStep n).reclocked l d = d := if_neg fun k => by
          rw [step, later] at k
          cases k.2
        exact next.trans (here.trans (if_pos (⟨by rw [same]; exact List.mem_cons_self, issued⟩ :
          c.step ∈ n :: l ∧ (s.entry c.step).state = .issued)).symm)
      · rw [if_neg fun k => same k.1] at later
        have here : d = c := hd.trans (if_neg fun k => same (List.mem_singleton.1 k.1).symm)
        rw [here]
        unfold State.reclocked
        rw [later]
        refine if_congr (and_congr_left fun _ => ⟨List.mem_cons_of_mem n, fun mem => ?_⟩) rfl rfl
        exact (List.mem_cons.1 mem).resolve_left fun k => same k.symm
    · have here : d = c := hd.trans (if_neg fun k => issued k.2)
      have still : ((s.returnStep n).entry c.step).state ≠ .issued := by
        rw [later]
        split
        · exact fun k => by cases k
        · exact issued
      rw [here]
      exact (if_neg fun k => still k.2).trans (if_neg fun k => issued k.2).symm

theorem returnSteps_slots (l : List Nat) : (s.returnSteps l).slots = s.slots :=
  foldl_keeps State.slots _ (fun s n => returnStep_slots (s := s) n) l s
theorem returnSteps_stations (l : List Nat) : (s.returnSteps l).stations = s.stations :=
  foldl_keeps State.stations _ (fun s n => returnStep_stations (s := s) n) l s
theorem returnSteps_run (l : List Nat) : (s.returnSteps l).run = s.run :=
  foldl_keeps State.run _ (fun s n => returnStep_run (s := s) n) l s
theorem returnSteps_injectionSeq (l : List Nat) : (s.returnSteps l).injectionSeq = s.injectionSeq :=
  foldl_keeps State.injectionSeq _ (fun s n => returnStep_injectionSeq (s := s) n) l s

/-! ## The record of a station that restarts (R141) -/

theorem cancelRecord_eq (i : Nat) : s.cancelRecord i = match s.slot i with
    | some r => s.setSlot i (cancelled (some r))
    | none => s := by
  unfold State.cancelRecord cancelled
  cases slot : s.slot i with
  | none => rfl
  | some r =>
    dsimp only
    split
    · rfl
    · split <;> rfl

theorem cancelRecord_slot (i j : Nat) : (s.cancelRecord i).slot j = if i = j then cancelled (s.slot j) else s.slot j := by
  rw [cancelRecord_eq]
  by_cases same : i = j
  · subst same
    rw [if_pos rfl]
    cases slot : s.slot i with
    | none => exact slot
    | some r =>
      have lt : i < 8 := by
        by_contra out
        simp [State.slot, getAt, out] at slot
      exact (setSlot_slot s i _ i).trans (if_pos ⟨rfl, lt⟩)
  · rw [if_neg same]
    cases slot : s.slot i with
    | none => rfl
    | some r => exact (setSlot_slot s i _ j).trans (if_neg fun k => same k.1)

/-! ## Restart (R110, R141) -/

/-- From `s` to `w` the steps of a station that `k` returns are PENDING, and its record is cancelled. -/
structure Restarted (s : State) (a : Nat) (k : Restart) (w : State) : Prop where
  entry : ∀ n, w.entry n = if ((s.step n).used && decide ((s.step n).station = a)) = true ∧ k.returns (s.entry n).state = true
    ∧ (s.entry n).state ≠ .pending then returnedEntry (s.entry n) else s.entry n
  slot : ∀ i, w.slot i = if s.slotOf a = some i then cancelled (s.slot i) else s.slot i
  contributions : w.contributions = s.contributions.map (fun c =>
    if ((s.step c.step).used && decide ((s.step c.step).station = a)) = true ∧ k.returns (s.entry c.step).state = true
      ∧ (s.entry c.step).state = .issued then { c with running := true } else c)
  run : w.run = s.run
  injectionSeq : w.injectionSeq = s.injectionSeq

theorem mem_stepsOf {a n : Nat} : n ∈ s.stepsOf a ↔ ((s.step n).used && decide ((s.step n).station = a)) = true := by
  unfold State.stepsOf
  rw [List.mem_filter]
  refine ⟨And.right, fun own => ⟨?_, own⟩⟩
  simp only [Bool.and_eq_true] at own
  simpa [stepNumbers] using step_used_lt own.1

theorem restartSteps_restarts (a : Nat) (k : Restart) :
    Restarted s a k (s.restartSteps a k) ∧ (s.restartSteps a k).stations = s.stations := by
  obtain ⟨l, hl⟩ : ∃ l, l = (s.stepsOf a).filter (fun n => k.returns (s.entry n).state) := ⟨_, rfl⟩
  have mem : ∀ n, n ∈ l ↔ ((s.step n).used && decide ((s.step n).station = a)) = true
      ∧ k.returns (s.entry n).state = true := fun n => by
    rw [hl, List.mem_filter, mem_stepsOf]
  have own_lt : ∀ n, n ∈ l → n < 96 := fun n h => by
    have own := ((mem n).1 h).1
    simp only [Bool.and_eq_true] at own
    exact step_used_lt own.1
  have shape : s.restartSteps a k = match s.slotOf a with
      | some i => (s.returnSteps l).cancelRecord i
      | none => s.returnSteps l := by
    rw [hl, ← slotOf_congr (returnSteps_slots (s := s) l) a, hl]
    rfl
  have entry : ∀ w : State, w.entries = (s.returnSteps l).entries → ∀ n, w.entry n =
      if ((s.step n).used && decide ((s.step n).station = a)) = true ∧ k.returns (s.entry n).state = true
        ∧ (s.entry n).state ≠ .pending then returnedEntry (s.entry n) else s.entry n := fun w same n => by
    rw [entry_congr same, returnSteps_entry]
    refine if_congr ⟨fun ⟨h, _, p⟩ => ?_, fun ⟨o, r, p⟩ => ?_⟩ rfl rfl
    · exact ⟨((mem n).1 h).1, ((mem n).1 h).2, p⟩
    · have h := (mem n).2 ⟨o, r⟩
      exact ⟨h, own_lt n h, p⟩
  have contributions : (s.returnSteps l).contributions = s.contributions.map (fun c =>
      if ((s.step c.step).used && decide ((s.step c.step).station = a)) = true ∧ k.returns (s.entry c.step).state = true
        ∧ (s.entry c.step).state = .issued then { c with running := true } else c) := by
    rw [returnSteps_contributions]
    refine List.map_congr_left fun c _ => if_congr ?_ rfl rfl
    rw [mem, and_assoc]
  cases record : s.slotOf a with
  | none =>
    rw [record] at shape
    rw [shape]
    refine ⟨⟨entry _ rfl, fun i => ?_, contributions, returnSteps_run l, returnSteps_injectionSeq l⟩, returnSteps_stations l⟩
    rw [if_neg (by rw [record]; simp)]
    exact slot_congr (returnSteps_slots l) i
  | some i =>
    rw [record] at shape
    rw [shape]
    dsimp only
    have cancel : ∀ {α : Type} (g : State → α), (∀ (t : State) r, g (t.setSlot i r) = g t) →
        ∀ t : State, g (t.cancelRecord i) = g t := fun g h t => by
      rw [cancelRecord_eq]
      split
      · exact h t _
      · rfl
    refine ⟨⟨entry _ (cancel State.entries (fun _ _ => rfl) _), fun j => ?_,
      (cancel State.contributions (fun _ _ => rfl) _).trans contributions,
      (cancel State.run (fun _ _ => rfl) _).trans (returnSteps_run l),
      (cancel State.injectionSeq (fun _ _ => rfl) _).trans (returnSteps_injectionSeq l)⟩,
      (cancel State.stations (fun _ _ => rfl) _).trans (returnSteps_stations l)⟩
    rw [cancelRecord_slot, record, slot_congr (returnSteps_slots l)]
    exact if_congr (by simp) rfl rfl

/-- A station that joins a run in progress: a member, its steps returned (R110). -/
theorem joinRun_joins {a : Nat} (valid : validStation a = true) (k : Restart) (runs : s.run.inProgress = true) :
    Restarted s a k (s.joinRun a k)
      ∧ ∀ b, (s.joinRun a k).station b = if b = a then { s.station b with member := true } else s.station b := by
  obtain ⟨m, hm⟩ : ∃ m, m = s.updateStation a (fun r => { r with member := true }) := ⟨_, rfl⟩
  have shape : s.joinRun a k = m.restartSteps a k := by
    unfold State.joinRun
    rw [if_pos runs, ← hm]
  obtain ⟨⟨entry, slot, contributions, run, seq⟩, stations⟩ := restartSteps_restarts (s := m) a k
  have entries : ∀ n, m.entry n = s.entry n := entry_congr (by rw [hm]; exact updateStation_entries ..)
  have steps : ∀ n, m.step n = s.step n := fun n => by rw [hm]; simp [State.step]
  have slots : m.slots = s.slots := by rw [hm]; exact updateStation_slots ..
  have clocks : m.contributions = s.contributions := by rw [hm]; exact updateStation_contributions ..
  simp only [entries, steps, slot_congr slots, slotOf_congr slots, clocks] at entry slot contributions
  rw [shape]
  refine ⟨⟨entry, slot, contributions, run.trans ?_, seq.trans ?_⟩, fun b => ?_⟩
  · rw [hm]
    exact updateStation_run ..
  · rw [hm]
    exact updateStation_injectionSeq ..
  · rw [station_congr stations, hm, updateStation_station]
    by_cases same : a = b
    · subst same
      rw [if_pos ⟨rfl, valid⟩, if_pos rfl]
    · rw [if_neg fun x => same x.1, if_neg (Ne.symm same)]

theorem joinRun_core (a : Nat) (k : Restart) : (s.joinRun a k).core = s.core := by
  unfold State.joinRun
  split
  · rw [restartSteps_core, updateStation_core]
    intro _
    rfl
  · rfl

/-! ## Entering HELD with the hand-over (R29, R40) -/

/-- `s` with a station HELD, the pass-down FIFO as given, and what entries to its queue write taken from `u`. -/
def State.heldWith (s : State) (a : Nat) (fifo : List Frame) (u : State) : State :=
  ((s.updateStation a (fun r => { r with state := .held })).setPassDown fifo).holding u

section
variable {a : Nat} (fifo : List Frame) (u : State)

theorem heldWith_eq : s.heldWith a fifo u = State.holding { s with
    stations := (s.updateStation a (fun r => { r with state := .held })).stations, passDown := fifo } u := by
  unfold State.heldWith
  rw [updateStation_stations]
  rfl

theorem heldWith_keeps : (s.heldWith a fifo u).entries = s.entries ∧ (s.heldWith a fifo u).slots = s.slots
    ∧ (s.heldWith a fifo u).contributions = s.contributions ∧ (s.heldWith a fifo u).run = s.run
    ∧ (s.heldWith a fifo u).plan = s.plan ∧ (s.heldWith a fifo u).injectionSeq = s.injectionSeq := by
  rw [heldWith_eq]
  exact ⟨rfl, rfl, rfl, rfl, rfl, rfl⟩

theorem heldWith_station (valid : validStation a = true) (b : Nat) :
    (s.heldWith a fifo u).station b = if b = a then { s.station b with state := .held } else s.station b := by
  have same : (s.heldWith a fifo u).station b = (s.updateStation a (fun r => { r with state := .held })).station b :=
    station_congr rfl b
  rw [same, updateStation_station]
  by_cases same : a = b
  · subst same
    rw [if_pos ⟨rfl, valid⟩, if_pos rfl]
  · rw [if_neg fun x => same x.1, if_neg (Ne.symm same)]

theorem untouched_updateState (a : Nat) (x : StationState) : Untouched s (s.updateStation a (fun r => { r with state := x })) :=
  untouched_of_core (updateStation_core s a _ fun _ => rfl)

theorem untouched_heldWith : Untouched s (s.heldWith a fifo u) :=
  ((untouched_updateState a .held).trans (untouched_setPassDown fifo)).trans (untouched_holding _)
end

/-- An ONLINE station enters HELD with its hand-over, and joins a run in progress (R40). -/
theorem enterHeld_eq {a : Nat} (valid : validStation a = true) (online : (s.station a).state = .online) (k : Restart) :
    s.enterHeld a k = (s.heldWith a (s.passDown.filter (fun f => !handedOver a f)) (s.handOver a)).joinRun a k := by
  obtain ⟨v, hv⟩ : ∃ v, v = s.updateStation a (fun r => { r with state := .held }) := ⟨_, rfl⟩
  have shape : v.holding s = v := by
    rw [hv, updateStation_stations]
    rfl
  have fifo : v.passDown = s.passDown := by
    rw [hv, updateStation_stations]
  have record : v.station a = { s.station a with state := .held } := by
    rw [hv, updateStation_station, if_pos ⟨rfl, valid⟩]
  have handed := holding_handOver (s := s) v a fifo (by rw [record]) (by rw [record]; exact fun h => by cases h)
    (by rw [online]; decide)
  rw [shape] at handed
  unfold State.enterHeld State.heldWith
  rw [← hv, handed]
  rfl

/-- A hand-over is the entries, with the pass-down FIFO as they leave it. -/
theorem handOver_eq {a : Nat} (undrained : (s.station a).state ≠ .draining) : s.handOver a =
    (s.setPassDown (s.passDown.filter (fun f => !handedOver a f))).holding
      ((s.passDown.filter (handedOver a)).foldl (State.holdEntry a) s) := by
  have station : (s.setPassDown (s.passDown.filter (fun f => !handedOver a f))).station a = s.station a := station_congr rfl a
  unfold State.handOver
  exact holding_holdEntries (s := s) (s.setPassDown (s.passDown.filter (fun f => !handedOver a f))) a _
    (by rw [station]) (by rw [station]; exact undrained) undrained

/-- Entries to one queue leave the others. -/
theorem holdEntries_queue {a : Nat} (valid : validStation a = true) (l : List Frame) (b : Nat) (other : b ≠ a) :
    (l.foldl (State.holdEntry a) s).queue b = s.queue b := by
  refine foldl_kept (fun t : State => t.queue b = s.queue b) _ l (fun t f _ reached => ?_) s rfl
  have queues : (State.holdEntry a t f).queues = (t.entered a f).queues := (congrArg State.queues (holdEntry_core (s := t) a f) :)
  rw [queue_congr (queues.trans (entered_queues a f valid)), setQueue_queue, if_neg fun k => other k.1.symm, reached]

/-! ## The ground that a state leaves to the follow-up -/

theorem sameGround_of_core {t : State} (core : t.core = s.core) (seq : t.injectionSeq = s.injectionSeq) : SameGround s t := by
  have kept := untouched_of_core core
  have queues : t.queues = s.queues := (congrArg State.queues core :)
  refine ⟨kept.bridgeTime, kept.settings, kept.plan, kept.payloads, kept.points, queues, seq, fun f => ?_⟩
  have feed : (t.feed f).fixed = (s.feed f).fixed := by
    cases f with
    | a => exact congrArg State.feedA core
    | b => exact congrArg State.feedB core
  obtain ⟨budget, standing, measured, time, stale, folded, _, _, _⟩ := FeedRecord.mk.inj feed
  exact ⟨budget, standing, measured, time, stale, folded⟩

/-- Entries made from `s`, and the station taken to HELD on the same ground. -/
theorem sameGround_heldWith {t u : State} (a : Nat) (fifo l : List Frame) (ground : SameGround s t)
    (kept : u = (s.setPassDown l).holding u) : SameGround u (t.heldWith a fifo u) := by
  have from_s {α : Type} (g : State → α) : g u = g ((s.setPassDown l).holding u) := congrArg g kept
  rw [heldWith_eq]
  refine ⟨ground.bridgeTime.trans (from_s State.bridgeTime).symm, ground.settings.trans (from_s State.settings).symm,
    ground.plan.trans (from_s State.plan).symm, ground.payloads.trans (from_s State.payloads).symm,
    ground.points.trans (from_s State.points).symm, rfl, ground.injectionSeq.trans (from_s State.injectionSeq).symm, fun f => ?_⟩
  have feed : u.feed f = s.feed f := (from_s fun x => x.feed f).trans (by cases f <;> rfl)
  rw [feed]
  have same := ground.feeds f
  cases f <;> exact same

end Sys2Proof.Machine
end

section
/-! SUPPORT. HOLD-STATION (R54, R55). -/

namespace Sys2Proof.Machine

variable {s : State}

section
variable {a : Byte}

theorem reqHold_invalid (h : validStation a.toNat = false) : s.reqHold [a] = s.answer .badIndex := by simp [State.reqHold, h]

theorem reqHold_busy (valid : validStation a.toNat = true) (other : (s.station a.toNat).state ≠ .online) :
    s.reqHold [a] = s.refuseFor .stationBusy := by simp [State.reqHold, valid, other]

theorem reqHold_holds (valid : validStation a.toNat = true) (online : (s.station a.toNat).state = .online) :
    s.reqHold [a] = (s.settleFrom (s.enterHeld a.toNat .held)).answerDone (stationData a.toNat) := by
  simp [State.reqHold, valid, online]
end

/-- What the S-port has heard is no part of what an entry to a hold queue reads. -/
theorem handOver_heard {a : Nat} (undrained : (s.station a).state ≠ .draining) : s.heard.handOver a =
    (s.heard.setPassDown (s.passDown.filter (fun f => !handedOver a f))).holding
      ((s.passDown.filter (handedOver a)).foldl (State.holdEntry a) s) := by
  obtain ⟨rest, hrest⟩ : ∃ rest, rest = s.passDown.filter (fun f => !handedOver a f) := ⟨_, rfl⟩
  have station : (s.heard.setPassDown rest).station a = s.station a := station_congr rfl a
  have entries := holding_holdEntries (s := s) (s.heard.setPassDown rest) a (s.passDown.filter (handedOver a))
    (by rw [station]) (by rw [station]; exact undrained) undrained
  rw [← hrest, ← entries, hrest]
  rfl

theorem heldWith_holding (a : Nat) (fifo : List Frame) (v u : State) : s.heldWith a fifo (v.holding u) = s.heldWith a fifo u := rfl

/-- A HOLD-STATION that passes its tests: the entries `u`, the station HELD, the joining of a run, and the follow-up. -/
theorem holdStation_effect (h : Ready s) (busy : s.FBusy) (seq : Byte) {a : Byte} (valid : validStation a.toNat = true)
    (online : (s.station a.toNat).state = .online) :
    let u := (s.passDown.filter (handedOver a.toNat)).foldl (State.holdEntry a.toNat) s
    let z := s.heard.heldWith a.toNat (s.passDown.filter (fun f => !handedOver a.toNat f)) u
    ∃ p v : State, exec (.holdStation seq [a]) s = .next (p.upward v)
      ∧ p = (s.settleFrom (z.joinRun a.toNat .held)).holding p
      ∧ p.queues = u.queues ∧ p.highWaterArmed = u.highWaterArmed
      ∧ (s.SBusy → u.replies.length < 16 → p.counters = u.counters ∧ v.replies = u.replies ++
        [{ frame := answerFrame seq 16 .done false [(p.station a.toNat).state.code], isReset := false }]) := by
  intro u z
  obtain ⟨u', hu⟩ : ∃ x, x = u := ⟨_, rfl⟩
  obtain ⟨x, hx⟩ : ∃ x, x = s.settleFrom (z.joinRun a.toNat .held) := ⟨_, rfl⟩
  have core : x.core = z.core := by rw [hx, settleFrom_core, joinRun_core]
  have response : s.heard.execute 16 [a] = x.answerDone (stationData a.toNat) := by
    refine (reqHold_holds (s := s.heard) valid ((congrArg StationRecord.state (station_congr rfl _)).trans online)).trans ?_
    rw [enterHeld_eq (s := s.heard) valid ((congrArg StationRecord.state (station_congr rfl _)).trans online),
      handOver_heard (by rw [online]; decide), heldWith_holding]
    exact congrArg (fun y : State => y.answerDone (stationData a.toNat)) hx.symm
  have field {α : Type} (g : State → α) (same : ∀ y : State, g y.core = g y) : g x = g z := by rw [← same x, core, same]
  have wires : z.wireF = s.wireF ∧ z.wireS = s.wireS := by
    show (State.heldWith _ _ _ _).wireF = _ ∧ (State.heldWith _ _ _ _).wireS = _
    rw [heldWith_eq]
    exact ⟨rfl, rfl⟩
  obtain ⟨v, done, answer⟩ := concluded_placed h seq 16 [a] _ response
    (by
      show x.wireF.isSome = true
      rw [(field State.wireF core_wireF).trans wires.1]
      exact busy) rfl
  obtain ⟨p, hp⟩ : ∃ p, p = x.placeReply { frame := answerFrame seq 16 .done false (stationData a.toNat x), isReset := false } :=
    ⟨_, rfl⟩
  have shape : p = x.holding p := hp ▸ placeReply_holds _
  have station : p.station a.toNat = x.station a.toNat := by
    rw [shape]
    exact station_holding x _
  refine ⟨p, v, hp ▸ done, by rw [← hx]; exact shape, ?_, ?_, fun sends room => ?_⟩
  · exact hp ▸ (placeReply_queues _).trans (field State.queues core_queues)
  · exact hp ▸ (placeReply_armed _).trans (field State.highWaterArmed core_highWaterArmed)
  · have replies : x.replies = u.replies := field State.replies core_replies
    have fits : x.replies.length < 16 := by rw [replies]; exact room
    refine ⟨?_, ?_⟩
    · refine Eq.trans ?_ (field State.counters core_counters)
      rw [hp, placeReply_eq, if_pos fits]
    · refine (answer (by show x.wireS.isSome = true; rw [(field State.wireS core_wireS).trans wires.2]; exact sends)).trans ?_
      refine (placeReply_replies fits _).trans ?_
      rw [station, ← replies]
      rfl

/-- Settles O55: the tests in their order, then the entries, the station HELD, its steps, and the follow-up. -/
theorem holdStationTakesToHeld : Obligations.HoldStationTakesToHeld := by
  unfold Obligations.HoldStationTakesToHeld
  refine fun s seq a h busy => ⟨fun out => ?badIndex, fun valid other => ?busy, fun valid online => ?held⟩
  case badIndex =>
    have invalid : validStation a.toNat = false := by
      rw [Bool.eq_false_iff, ne_eq, validStation_iff]
      omega
    exact concluded_status h (.inl busy) seq 16 [a] .badIndex (reqHold_invalid (s := s.heard) invalid)
  case busy =>
    have other' : (s.heard.station a.toNat).state ≠ .online := by
      rw [show s.heard.station a.toNat = s.station a.toNat from station_congr rfl _]
      exact other
    exact concluded_refused h (.inl busy) seq 16 [a] .stationBusy (reqHold_busy (s := s.heard) valid other')
  case held =>
    obtain ⟨p, v, done, shape, queues, armed, answers⟩ := holdStation_effect h busy seq valid online
    obtain ⟨fifo, hfifo⟩ : ∃ fifo, fifo = s.passDown.filter (fun f => !handedOver a.toNat f) := ⟨_, rfl⟩
    obtain ⟨u, hu⟩ : ∃ u, u = (s.passDown.filter (handedOver a.toNat)).foldl (State.holdEntry a.toNat) s := ⟨_, rfl⟩
    obtain ⟨z, hz⟩ : ∃ z, z = s.heard.heldWith a.toNat fifo u := ⟨_, rfl⟩
    rw [← hfifo, ← hu, ← hz] at shape
    rw [← hu] at queues armed answers
    have entries : u = s.holding u := hu ▸ holdEntries_hold a.toNat _ (by rw [online]; decide)
    obtain ⟨zEntries, zSlots, zClocks, zRun, zPlan, zSeq⟩ := hz ▸ heldWith_keeps (s := s.heard) (a := a.toNat) fifo u
    have zStation : ∀ b, z.station b = if b = a.toNat then { s.station b with state := .held } else s.station b := fun b => by
      rw [hz, heldWith_station fifo u valid, show s.heard.station b = s.station b from station_congr rfl b]
    obtain ⟨w, hw⟩ : ∃ w, w = z.joinRun a.toNat .held := ⟨_, rfl⟩
    rw [← hw] at shape
    have wCore : w.core = z.core := hw ▸ joinRun_core a.toNat .held
    have keeps {α : Type} (g : State → α) : g p = g ((s.settleFrom w).holding p) := congrArg g shape
    have stations : ∀ b, (p.upward v).station b = (s.settleFrom w).station b :=
      station_congr (keeps State.stations)
    have reached : Untouched s.heard p := by
      rw [shape]
      refine ((?_ : Untouched s.heard z).trans (untouched_of_core ((settleFrom_core s w).trans wCore))).trans (untouched_holding _)
      rw [hz]
      exact untouched_heldWith fifo u
    refine ⟨p.upward v, done, reached.trans (untouched_upward p v), ?fifo, hu ▸ queues, fun b other => ?others, hu ▸ armed,
      fun sends room => ?answer, fun idle => ?idle, fun runs => ?runs⟩
    case fifo =>
      refine (keeps State.passDown).trans ?_
      show (s.settleFrom w).passDown = _
      rw [settleFrom_passDown, ← core_passDown, wCore, core_passDown, hz, hfifo]
      rfl
    case others => exact holdEntries_queue valid _ b other
    case answer =>
      obtain ⟨counters, replies⟩ := answers sends (hu ▸ room)
      exact ⟨hu ▸ counters, hu ▸ replies⟩
    case idle =>
      have same : w = z := by
        rw [hw]
        exact if_neg (by rw [zRun]; exact Bool.eq_false_iff.1 idle)
      have rest : s.settleFrom w = z := by rw [same, settleFrom_idle _ _ (by rw [zRun]; exact idle)]
      rw [rest] at stations
      refine ⟨(keeps State.run).trans ?_, (stations _).trans ((zStation _).trans (if_pos rfl)),
        fun b other => (stations b).trans ((zStation b).trans (if_neg other))⟩
      show (s.settleFrom w).run = s.run
      rw [rest, zRun]
      rfl
    case runs =>
      obtain ⟨⟨entry, slot, clocks, run, seq'⟩, station⟩ := joinRun_joins (s := z) valid .held (by rw [zRun]; exact runs)
      rw [← hw] at entry slot clocks run seq' station
      have steps : ∀ n, z.step n = s.step n := fun n => by unfold State.step; rw [zPlan]; rfl
      have before : ∀ n, z.entry n = s.entry n := entry_congr zEntries
      refine ⟨w, ?ground, fun n => ?entry, fun b => ?station, fun i => ?slot, run.trans zRun, ?clocks, ?same⟩
      case ground =>
        refine SameGround.trans ?_ (sameGround_of_core wCore seq')
        have heard : SameGround s s.heard :=
          ⟨rfl, rfl, rfl, rfl, rfl, rfl, rfl, fun f => by cases f <;> exact ⟨rfl, rfl, rfl, rfl, rfl, rfl⟩⟩
        have ground := sameGround_heldWith a.toNat fifo s.passDown heard entries
        rw [← hz, hu] at ground
        exact ground
      case entry =>
        rw [entry, steps, before]
        refine if_congr ?_ rfl rfl
        simp only [Bool.and_eq_true, decide_eq_true_eq, Restart.returns, and_assoc, ne_eq]
        exact ⟨fun ⟨used, own, idle, _⟩ => ⟨used, own, idle⟩,
          fun ⟨used, own, idle⟩ => ⟨used, own, idle, by rw [idle]; decide⟩⟩
      case station =>
        rw [station, zStation]
        split <;> rfl
      case slot => rw [slot, slotOf_congr zSlots, slot_congr zSlots]; rfl
      case clocks =>
        rw [clocks, zClocks]
        refine (List.map_congr_left fun c _ => if_neg ?_).trans (List.map_id _)
        rintro ⟨-, idle, issued⟩
        simp [Restart.returns, issued] at idle
      case same =>
        rw [shape]
        exact ⟨rfl, rfl, rfl, rfl, rfl, rfl⟩

end Sys2Proof.Machine
end

section
/-! SUPPORT. The F-port's receiver beside the Run Engine: what a station frame's arrival leaves of it is neither read nor written by what
the engine does with the frame, so that these commute with `State.receiving`. -/

namespace Sys2Proof.Machine

variable {s : State}

/-- A state with the F-port's receiver as given. -/
def State.receiving (s : State) (x : PortState) : State := { s with portF := x }

section
variable (x : PortState) (n a i : Nat) (f : Feed)

@[simp] theorem station_receiving : (s.receiving x).station a = s.station a := by cases a <;> rfl
@[simp] theorem queue_receiving : (s.receiving x).queue a = s.queue a := by cases a <;> rfl
@[simp] theorem step_receiving : (s.receiving x).step n = s.step n := rfl
@[simp] theorem entry_receiving : (s.receiving x).entry n = s.entry n := rfl
@[simp] theorem stepState_receiving : (s.receiving x).stepState n = s.stepState n := rfl
@[simp] theorem stepsOf_receiving : (s.receiving x).stepsOf a = s.stepsOf a := rfl
@[simp] theorem slot_receiving : (s.receiving x).slot i = s.slot i := rfl
@[simp] theorem slotOf_receiving : (s.receiving x).slotOf a = s.slotOf a := rfl
@[simp] theorem run_receiving : (s.receiving x).run = s.run := rfl
@[simp] theorem bridgeTime_receiving : (s.receiving x).bridgeTime = s.bridgeTime := rfl
@[simp] theorem feed_receiving : (s.receiving x).feed f = s.feed f := by cases f <;> rfl
@[simp] theorem headOf_receiving : (s.receiving x).headOf f = s.headOf f := rfl
@[simp] theorem mayAct_receiving : (s.receiving x).mayAct n = s.mayAct n := rfl
@[simp] theorem restartCause_receiving : (s.receiving x).restartCause a = s.restartCause a := by simp [State.restartCause]
@[simp] theorem verdict_receiving : (s.receiving x).verdict n = s.verdict n := rfl
@[simp] theorem nextFrameless_receiving : (s.receiving x).nextFrameless = s.nextFrameless := rfl
@[simp] theorem headTested_receiving : (s.receiving x).headTested n = s.headTested n := rfl
@[simp] theorem estimate_receiving : (s.receiving x).estimate f = s.estimate f := by
  simp [State.estimate, State.feedBase]; rfl
@[simp] theorem admits_receiving : (s.receiving x).admits f n = s.admits f n := by simp [State.admits]; rfl
@[simp] theorem eligible_receiving : (s.receiving x).eligible = s.eligible := by
  funext n
  simp only [State.eligible, mayAct_receiving, step_receiving, headOf_receiving, admits_receiving]
  rfl
@[simp] theorem nextGrant_receiving : (s.receiving x).nextGrant = s.nextGrant := by
  simp only [State.nextGrant, eligible_receiving]
  rfl
@[simp] theorem inFlight_receiving : (s.receiving x).inFlight = s.inFlight := rfl
@[simp] theorem membersFinished_receiving : (s.receiving x).membersFinished = s.membersFinished := by
  simp [State.membersFinished]
@[simp] theorem grantMoment_receiving (t : State) : (s.receiving x).grantMoment (t.receiving x) = s.grantMoment t := rfl

/-! ## The operations of the follow-up, in the order of their definitions -/

@[simp] theorem receiving_raise (e : NoticeEvent) : (s.receiving x).raise e = (s.raise e).receiving x := rfl
@[simp] theorem receiving_setStation (r : StationRecord) : (s.receiving x).setStation a r = (s.setStation a r).receiving x := by
  cases a <;> rfl
@[simp] theorem receiving_updateStation (g : StationRecord → StationRecord) :
    (s.receiving x).updateStation a g = (s.updateStation a g).receiving x := by simp [State.updateStation]
@[simp] theorem receiving_clearMembers : (s.receiving x).clearMembers = s.clearMembers.receiving x := rfl
@[simp] theorem receiving_setFeedRecord (r : FeedRecord) :
    (s.receiving x).setFeedRecord f r = (s.setFeedRecord f r).receiving x := by cases f <;> rfl
@[simp] theorem receiving_syncHead : (s.receiving x).syncHead f = (s.syncHead f).receiving x := by
  simp only [State.syncHead, feed_receiving, headOf_receiving, receiving_setFeedRecord]
  split <;> rfl
@[simp] theorem receiving_setEntry (e : StepEntry) : (s.receiving x).setEntry n e = (s.setEntry n e).receiving x := by
  have written : ∀ t : State, (t.receiving x).syncHeads = t.syncHeads.receiving x := fun t => by simp [State.syncHeads]
  exact written { s with entries := putAt s.entries n e }
@[simp] theorem receiving_setStepState (k : StepState) :
    (s.receiving x).setStepState n k = (s.setStepState n k).receiving x := by simp [State.setStepState]
@[simp] theorem receiving_setSlot (r : Option InjectionRecord) : (s.receiving x).setSlot i r = (s.setSlot i r).receiving x := rfl
@[simp] theorem receiving_createContribution :
    (s.receiving x).createContribution f n = (s.createContribution f n).receiving x := rfl
@[simp] theorem receiving_startClock : (s.receiving x).startClock n = (s.startClock n).receiving x := rfl

@[simp] theorem receiving_evaluate : (s.receiving x).evaluate n = (s.evaluate n).receiving x := by
  simp only [State.evaluate, stepState_receiving, verdict_receiving, step_receiving, restartCause_receiving, receiving_setStepState]
  split
  · split
    · rfl
    · rfl
    · split <;> rfl
  · rfl

/-- What commutes step by step commutes along a list. -/
theorem foldl_receiving {β : Type} (g : State → β → State) (each : ∀ t b, g (t.receiving x) b = (g t b).receiving x) (l : List β) :
    l.foldl g (s.receiving x) = (l.foldl g s).receiving x := by
  induction l generalizing s with
  | nil => rfl
  | cons b l ih => rw [List.foldl_cons, List.foldl_cons, each, ih]

@[simp] theorem receiving_evaluateAll : (s.receiving x).evaluateAll = s.evaluateAll.receiving x :=
  foldl_receiving x _ (fun _ _ => receiving_evaluate x _) _
@[simp] theorem receiving_makeAttempt : (s.receiving x).makeAttempt i = (s.makeAttempt i).receiving x := by
  simp only [State.makeAttempt, slot_receiving]
  split <;> rfl
@[simp] theorem receiving_openRecord (k c : Nat) : (s.receiving x).openRecord i n k c = (s.openRecord i n k c).receiving x := by
  simp [State.openRecord]
@[simp] theorem receiving_cancelRecord : (s.receiving x).cancelRecord i = (s.cancelRecord i).receiving x := by
  simp only [State.cancelRecord, slot_receiving, receiving_setSlot]
  split
  · split
    · rfl
    · split <;> rfl
  · rfl
@[simp] theorem receiving_cancelRecordOf : (s.receiving x).cancelRecordOf a n = (s.cancelRecordOf a n).receiving x := by
  simp only [State.cancelRecordOf, slotOf_receiving, slot_receiving, receiving_cancelRecord]
  split
  · split
    · split <;> rfl
    · rfl
  · rfl
@[simp] theorem receiving_leaveStep (d : Bool) : State.leaveStep a d (s.receiving x) n = (State.leaveStep a d s n).receiving x := by
  simp only [State.leaveStep, entry_receiving, receiving_setStepState, receiving_cancelRecordOf, receiving_startClock, receiving_setEntry]
  split
  case h_4 => split <;> rfl
  all_goals rfl
@[simp] theorem receiving_leaveSteps (d : Bool) : (s.receiving x).leaveSteps a d = (s.leaveSteps a d).receiving x :=
  foldl_receiving x _ (fun _ _ => receiving_leaveStep x _ _ _) _
@[simp] theorem receiving_settleStep : (s.receiving x).settleStep n = (s.settleStep n).receiving x := by
  simp only [State.settleStep, step_receiving, entry_receiving, receiving_setEntry]
  split <;> rfl
@[simp] theorem receiving_leaveRun (d : Bool) : (s.receiving x).leaveRun a d = (s.leaveRun a d).receiving x := by
  simp only [State.leaveRun, station_receiving, receiving_updateStation, run_receiving, receiving_leaveSteps]
  split <;> rfl
@[simp] theorem receiving_drainEnd : (s.receiving x).drainEnd a = (s.drainEnd a).receiving x := by
  simp only [State.drainEnd, station_receiving, receiving_updateStation, receiving_raise]
  split <;> simp
@[simp] theorem receiving_checkDrain : (s.receiving x).checkDrain a = (s.checkDrain a).receiving x := by
  simp only [State.checkDrain, station_receiving, queue_receiving, receiving_drainEnd]
  split <;> rfl
@[simp] theorem receiving_enterDraining : (s.receiving x).enterDraining a = (s.enterDraining a).receiving x := by
  simp only [State.enterDraining, station_receiving, receiving_updateStation, receiving_checkDrain]
  split <;> rfl
@[simp] theorem receiving_completeFrameless : (s.receiving x).completeFrameless n = (s.completeFrameless n).receiving x := by
  simp only [State.completeFrameless, step_receiving, receiving_settleStep, receiving_enterDraining]
  split <;> rfl
@[simp] theorem receiving_markWait : (s.receiving x).markWait f = (s.markWait f).receiving x := by
  simp only [State.markWait, headOf_receiving, headTested_receiving, admits_receiving, feed_receiving, bridgeTime_receiving,
    receiving_setFeedRecord]
  split
  · split <;> rfl
  · rfl

theorem receiving_issue (r : StepRecord) : (s.receiving x).issue i n r = (s.issue i n r).receiving x := by
  unfold State.issue
  split
  · rw [receiving_createContribution, receiving_openRecord, receiving_setStepState]
  · rw [receiving_openRecord, receiving_setStepState]

@[simp] theorem receiving_grant : (s.receiving x).grant i n = (s.grant i n).receiving x := by
  rw [grant_eq, grant_eq, step_receiving, receiving_issue, station_receiving, receiving_updateStation]
  split <;> rfl

theorem receiving_settleLoop (fuel : Nat) (due : Bool) :
    State.settleLoop fuel due (s.receiving x) = (State.settleLoop fuel due s).receiving x := by
  induction fuel generalizing due s with
  | zero => rfl
  | succ k ih =>
    simp only [State.settleLoop, receiving_evaluateAll, grantMoment_receiving, nextFrameless_receiving, receiving_completeFrameless,
      receiving_markWait, nextGrant_receiving, receiving_grant]
    split
    · exact ih _
    · split
      · split
        · exact ih _
        · rfl
      · rfl

@[simp] theorem receiving_drainMembers : (s.receiving x).drainMembers = s.drainMembers.receiving x := by
  simp only [State.drainMembers, station_receiving]
  rw [foldl_receiving x _ fun _ _ => receiving_enterDraining x _, receiving_clearMembers]
@[simp] theorem receiving_closeRun (o : RunOutcome) : (s.receiving x).closeRun o = (s.closeRun o).receiving x := rfl
@[simp] theorem receiving_testRunEnd : (s.receiving x).testRunEnd = s.testRunEnd.receiving x := by
  simp only [State.testRunEnd, State.endRun, run_receiving, inFlight_receiving, membersFinished_receiving, stepState_receiving,
    receiving_drainMembers, receiving_closeRun]
  split <;> rfl

/-- The Run Engine's follow-up neither reads nor writes the F-port's receiver. -/
theorem receiving_followUp (due : Bool) : State.followUp due (s.receiving x) = (State.followUp due s).receiving x := by
  simp only [State.followUp, run_receiving, receiving_settleLoop, receiving_testRunEnd]
  split <;> rfl

/-! ## Absorption and passage -/

theorem receiving_count (c : Counter) : (s.receiving x).count c = (s.count c).receiving x := by
  show (if 255 ≤ s.counter c then s.receiving x
    else if s.counter c = 127 then
      (State.raise { s with counters := putAt s.counters c.index (s.counter c + 1) } .counter128).receiving x
    else State.receiving { s with counters := putAt s.counters c.index (s.counter c + 1) } x) = _
  unfold State.count
  dsimp only
  split
  · rfl
  · split <;> rfl

theorem receiving_closeRecord : (s.receiving x).closeRecord i = (s.closeRecord i).receiving x := by
  unfold State.closeRecord
  rw [slot_receiving]
  split
  · split
    · exact receiving_openRecord ..
    · rfl
  · rfl

theorem receiving_settleFrom (t : State) : (s.receiving x).settleFrom (t.receiving x) = (s.settleFrom t).receiving x :=
  receiving_followUp x (s.grantMoment t)

theorem receiving_passUpFrame (f : Frame) : (s.receiving x).passUpFrame f = (s.passUpFrame f).receiving x := by
  have counted : (s.receiving x).countUnknown (knownUp f.kind) = (s.countUnknown (knownUp f.kind)).receiving x := by
    unfold State.countUnknown
    split
    · rfl
    · exact receiving_count x _
  obtain ⟨t, ht⟩ : ∃ t, t = s.countUnknown (knownUp f.kind) := ⟨_, rfl⟩
  have shape : ∀ z : State, z.passUpFrame f =
      if (z.countUnknown (knownUp f.kind)).passUp.length < 8
      then { z.countUnknown (knownUp f.kind) with passUp := (z.countUnknown (knownUp f.kind)).passUp ++ [f] }
      else (z.countUnknown (knownUp f.kind)).count .upstreamDropped := fun _ => rfl
  rw [shape, shape, counted, ← ht]
  show (if t.passUp.length < 8 then State.receiving { t with passUp := t.passUp ++ [f] } x
    else (t.receiving x).count .upstreamDropped) = _
  split
  · rfl
  · exact receiving_count x _

/-- What a HELLO that a record absorbs does to it: it is a late reply for a CLOSING record, which closes, and for one in its re-poll
wait; an OPEN record that awaits a reply stays (R24, R136). -/
theorem absorb_hello {f : Frame} (hello : f.kind = kindHello) (i : Nat) : s.absorb i f = match s.slot i with
    | none => s
    | some r => if r.closing then (s.count .lateReplies).closeRecord i
      else if r.repollWait then s.count .lateReplies else s := by
  have ack : f.kind ≠ kindAck := by rw [hello]; decide
  have nak : f.kind ≠ kindNak := by rw [hello]; decide
  have state : f.kind ≠ kindState := by rw [hello]; decide
  unfold State.absorb
  cases s.slot i with
  | none => rfl
  | some r =>
    dsimp only
    rw [if_neg ack, if_neg nak, if_neg state]
    refine if_congr Iff.rfl rfl (if_congr Iff.rfl rfl ?_)
    split
    · rfl
    · rfl
    · exact if_neg ack

theorem receiving_absorb_hello {f : Frame} (hello : f.kind = kindHello) :
    (s.receiving x).absorb i f = (s.absorb i f).receiving x := by
  rw [absorb_hello hello, absorb_hello hello, slot_receiving]
  cases s.slot i with
  | none => rfl
  | some r =>
    dsimp only
    rw [receiving_count, receiving_closeRecord]
    split
    · rfl
    · split <;> rfl

/-- The absorption or the passage of a HELLO stands beside the F-port's receiver. -/
theorem receiving_classifyUp_hello {f : Frame} (hello : f.kind = kindHello) (m : Option Nat) :
    (s.receiving x).classifyUp f m = (s.classifyUp f m).receiving x := by
  cases m with
  | none => exact receiving_passUpFrame x f
  | some i =>
    show (s.receiving x).settleFrom ((s.receiving x).absorb i f) = (s.settleFrom (s.absorb i f)).receiving x
    rw [receiving_absorb_hello x i hello, receiving_settleFrom]
end

end Sys2Proof.Machine
end

section
/-! SUPPORT. What the tap of a HELLO carries over from the state it finds (R47 to R53), and the passage of station frames (R23, R33). -/

namespace Sys2Proof.Machine

variable {s : State}

/-- From `s` to `t` only what the station state machine, the hold queues and the Run Engine write is changed: of the upward side
nothing but the replies, of the counters those of the holds and the lost replies, and no pending flag is cleared. -/
structure Carries (s t : State) : Prop where
  left    : Untouched s t
  passUp  : t.passUp = s.passUp
  wireF   : t.wireF = s.wireF
  wireS   : t.wireS = s.wireS
  counter : ∀ c, c ≠ .framesDeferred → c ≠ .framesSuperseded → c ≠ .repliesLost → t.counter c = s.counter c
  pending : ∀ e, s.isPending e = true → t.isPending e = true

theorem Carries.trans {t u : State} (h : Carries s t) (k : Carries t u) : Carries s u :=
  ⟨h.left.trans k.left, k.passUp.trans h.passUp, k.wireF.trans h.wireF, k.wireS.trans h.wireS,
    fun c x y z => (k.counter c x y z).trans (h.counter c x y z), fun e on => k.pending e (h.pending e on)⟩

theorem carries_of_core {t : State} (core : t.core = s.core) (pending : ∀ e, s.isPending e = true → t.isPending e = true) :
    Carries s t := by
  have counters : t.counters = s.counters := (congrArg State.counters core :)
  exact ⟨untouched_of_core core, (congrArg State.passUp core :), (congrArg State.wireF core :), (congrArg State.wireS core :),
    fun c _ _ _ => by simp [State.counter, counters], pending⟩

theorem Carries.rfl' (s : State) : Carries s s := carries_of_core rfl fun _ => id

/-! ## Entries to the hold queues -/

theorem follows_count (c : Counter) : Follows s (s.count c) := by
  refine ⟨fun e on => ?_, fun n _ => by rw [count_eq]; rfl⟩
  by_cases mark : e = .counter128
  · rw [mark] at on ⊢
    exact (count_isPending_counter128 s c).2 (.inr on)
  · rw [count_isPending_of_ne s c e mark]
    exact on

theorem follows_placeReply (r : Reply) : Follows s (s.placeReply r) := by
  unfold State.placeReply
  split
  · exact follows_of_same rfl rfl
  · exact follows_count _

theorem follows_defer (f : Frame) (len : Nat) : Follows s (s.defer f len) :=
  ((follows_placeReply _).trans (follows_count _)).trans (follows_raise _ _)

theorem follows_setQueue (a : Nat) (q : List Frame) : Follows s (s.setQueue a q) := by
  cases a <;> exact follows_of_same rfl rfl

theorem follows_rearm : Follows s s.rearm := by
  unfold State.rearm
  split <;> exact follows_of_same rfl rfl

theorem follows_replySuperseded (len : Nat) (l : List Frame) : Follows s (s.replySuperseded len l) := by
  induction l generalizing s len with
  | nil => exact .rfl' s
  | cons f l ih => exact ((follows_placeReply _).trans (follows_count _)).trans (ih _)

theorem follows_supersede (a : Nat) (f : Frame) : Follows s (s.supersede a f) := by
  rw [supersede_eq]
  split
  · exact .rfl' s
  · exact ((follows_setQueue _ _).trans follows_rearm).trans (follows_replySuperseded _ _)

theorem follows_appendHeld (a : Nat) (f : Frame) : Follows s (s.appendHeld a f) := by
  have tested : ∀ t : State, Follows t t.testHighWater := fun t => by
    unfold State.testHighWater
    split
    · have spent : Follows t { t with highWaterArmed := false } := follows_of_same rfl rfl
      exact spent.trans (follows_raise _ _)
    · exact .rfl' t
  exact ((follows_setQueue _ _).trans (tested _)).trans (follows_placeReply _)

theorem follows_holdEntry (a : Nat) (f : Frame) : Follows s (State.holdEntry a s f) := by
  refine Follows.trans ?_ (follows_entered a f)
  unfold State.entered
  split
  · exact (follows_supersede a f).trans (follows_appendHeld a f)
  · exact (follows_supersede a f).trans (follows_defer f _)

theorem carries_holdEntry {a : Nat} (valid : validStation a = true) (f : Frame) : Carries s (State.holdEntry a s f) := by
  have entered : Carries s (s.entered a f) := by
    have shape := entered_holds (s := s) a f
    have keeps {α : Type} (g : State → α) : g (s.entered a f) = g (s.holding (s.entered a f)) := congrArg g shape
    refine ⟨by rw [shape]; exact untouched_holding s, keeps State.passUp, keeps State.wireF, keeps State.wireS,
      fun c deferred superseded lost => ?_, fun e on => ?_⟩
    · rw [entered_counter a f valid c lost, if_neg superseded, if_neg fun k => deferred k.1]
    · unfold State.entered
      split
      · exact ((follows_supersede a f).trans (follows_appendHeld a f)).pending e on
      · exact ((follows_supersede a f).trans (follows_defer f _)).pending e on
  exact entered.trans (carries_of_core (holdEntry_core a f) (follows_entered a f).pending)

theorem carries_setPassDown (x : List Frame) : Carries s (s.setPassDown x) :=
  ⟨untouched_setPassDown x, rfl, rfl, rfl, fun _ _ _ _ => rfl, fun _ on => on⟩

theorem carries_handOver {a : Nat} (valid : validStation a = true) : Carries s (s.handOver a) :=
  foldl_kept (Carries s) _ _ (fun _ f _ reached => reached.trans (carries_holdEntry valid f)) _ (carries_setPassDown _)

/-! ## The effect of a HELLO -/

theorem carries_updateStation (a : Nat) (g : StationRecord → StationRecord) (fixed : ∀ r, (g r).fixed = r.fixed) :
    Carries s (s.updateStation a g) := carries_of_core (updateStation_core s a g fixed) (follows_updateStation s a g).pending

theorem carries_member (a : Nat) (x : Bool) : Carries s (s.updateStation a (fun r => { r with member := x })) :=
  carries_updateStation a _ fun _ => rfl

theorem carries_state (a : Nat) (x : StationState) : Carries s (s.updateStation a (fun r => { r with state := x })) :=
  carries_updateStation a _ fun _ => rfl

theorem carries_raise (e : NoticeEvent) : Carries s (s.raise e) := carries_of_core rfl (follows_raise s e).pending

theorem carries_settleFrom (t : State) : Carries t (s.settleFrom t) :=
  carries_of_core (settleFrom_core s t) (follows_settleFrom s t).pending

theorem restartSteps_noticePending (a : Nat) (k : Restart) : (s.restartSteps a k).noticePending = s.noticePending := by
  have returned : ∀ l : List Nat, (l.foldl State.returnStep s).noticePending = s.noticePending := fun l =>
    foldl_keeps State.noticePending _ (fun t n => by
      rw [returnStep_eq]
      split
      · rfl
      · split <;> exact setEntry_noticePending ..) l s
  unfold State.restartSteps
  dsimp only
  split
  · rw [cancelRecord_eq]
    split
    · exact returned _
    · exact returned _
  · exact returned _

theorem isPending_congr {t : State} (same : t.noticePending = s.noticePending) (e : NoticeEvent) : t.isPending e = s.isPending e := by
  simp [State.isPending, State.pendingGroup, same]

theorem carries_restartSteps (a : Nat) (k : Restart) : Carries s (s.restartSteps a k) :=
  carries_of_core (restartSteps_core s a k) fun e on => by rw [isPending_congr (restartSteps_noticePending a k)]; exact on

theorem carries_joinRun (a : Nat) (k : Restart) : Carries s (s.joinRun a k) := by
  unfold State.joinRun
  split
  · exact (carries_member a true).trans (carries_restartSteps a k)
  · exact .rfl' s

theorem carries_enterHeld {a : Nat} (valid : validStation a = true) (k : Restart) : Carries s (s.enterHeld a k) :=
  ((carries_state a .held).trans (carries_handOver valid)).trans (carries_joinRun a k)

theorem carries_started : Carries s s.started := by
  have core := started_core (s := s)
  have counters : s.started.counters = s.counters := (congrArg State.counters core :)
  refine ⟨untouched_started, (congrArg State.passUp core :), (congrArg State.wireF core :), (congrArg State.wireS core :),
    fun c _ _ _ => by simp [State.counter, counters], fun e on => ?_⟩
  unfold State.started
  refine (follows_raise _ _).pending e ?_
  have same : ∀ t : State, t.startEntries.noticePending = t.noticePending := fun t => by
    simp [State.startEntries, State.syncHeads]
  rw [isPending_congr (same _)]
  exact on

theorem autoStart_eq (a : Nat) : s.autoStart a =
    if s.run.inProgress = false ∧ s.autoStartAllowed a = true then
      if s.validate = none then s.started.settle else s.raise .startRefused
    else s := by
  unfold State.autoStart
  by_cases asks : s.run.inProgress = false ∧ s.autoStartAllowed a = true
  · rw [if_pos (by simp [asks.1, asks.2]), if_pos asks]
    cases fault : s.validate with
    | none => exact (if_pos rfl).symm
    | some x => exact (if_neg (by simp)).symm
  · rw [if_neg asks, if_neg]
    simpa using asks

theorem carries_autoStart (a : Nat) : Carries s (s.autoStart a) := by
  rw [autoStart_eq]
  split
  · split
    · exact carries_started.trans (carries_of_core (settle_core _) (follows_settle _).pending)
    · exact carries_raise _
  · exact .rfl' s

theorem carries_faultRequest (a : Nat) (c : FaultCause) : Carries s (s.faultRequest a c) :=
  carries_of_core (faultRequest_core s a c) (follows_faultRequest s a c).pending

theorem carries_helloEffect {a : Nat} (valid : validStation a = true) (kept : Bool) : Carries s (s.helloEffect a kept) := by
  have held : Carries s (s.updateStation a (fun r => { r with state := .held })) := carries_state a .held
  unfold State.helloEffect
  split
  · unfold State.helloOnline
    dsimp only
    split
    · have entered := carries_enterHeld (s := s) valid .hello
      split
      · exact entered.trans (carries_settleFrom _)
      · exact entered.trans (carries_autoStart a)
    · exact .rfl' s
  all_goals first
    | exact .rfl' s
    | (unfold State.helloRestart
       dsimp only
       split
       · split
         · exact (held.trans (carries_restartSteps a .hello)).trans (carries_settleFrom _)
         · exact held
       · exact held.trans (carries_autoStart a))
    | (unfold State.helloDraining
       dsimp only
       split
       · exact .rfl' s
       · split
         · exact (held.trans (carries_joinRun a .drainingHello)).trans (carries_settleFrom _)
         · exact held.trans (carries_autoStart a))

/-! ## The tap of a HELLO (R47, R48) -/

/-- A HELLO counted. -/
def State.seenHello (s : State) : State := s.count .hellosSeen

/-- A HELLO counted, in its station's history, and raised (R47). -/
def State.recorded (s : State) (a : Nat) (payload : List Byte) : State :=
  (s.seenHello.updateStation a (fun r => { r with history := appendHistory r.history (helloEntry s.bridgeTime payload) })).raise .hello

theorem helloTap_eq (a : Nat) (payload : List Byte) : s.helloTap a payload =
    if s.seenListed a then
      if ((s.recorded a payload).station a).state.stormChecked
        && stormPasses s.settings.stormWindow ((s.recorded a payload).station a).history then
        (s.recorded a payload).settleFrom (((s.recorded a payload).raise .storm).faultRequest a .storm)
      else (s.recorded a payload).helloEffect a (helloEntry s.bridgeTime payload).kept
    else s.seenHello := by
  have shape : ∃ x y, s.seenHello = { s with counters := x, noticePending := y } := ⟨_, _, count_eq s .hellosSeen⟩
  obtain ⟨x, y, shape⟩ := shape
  have now : s.seenHello.bridgeTime = s.bridgeTime := by rw [shape]
  have listed : s.seenHello.seenListed a = s.seenListed a := by
    have station : s.seenHello.station a = s.station a := station_congr (by rw [shape]) a
    unfold State.seenListed State.listed
    rw [station, shape]
  have window : (s.recorded a payload).settings = s.settings := by
    unfold State.recorded
    rw [raise_settings, updateStation_stations, shape]
  unfold State.helloTap
  rw [show s.count .hellosSeen = s.seenHello from rfl]
  dsimp only
  rw [listed, now, ← window]
  rfl

/-! ## Passage upward (R23, R33) -/

/-- `s` with the pass-up FIFO given. -/
def State.setPassUp (s : State) (x : List Frame) : State := { s with passUp := x }

theorem passUpFrame_eq (f : Frame) : s.passUpFrame f =
    if s.passUp.length < 8 then (s.countUnknown (knownUp f.kind)).setPassUp (s.passUp ++ [f])
    else (s.countUnknown (knownUp f.kind)).count .upstreamDropped := by
  have fifo : (s.countUnknown (knownUp f.kind)).passUp = s.passUp := by
    rw [countUnknown_holds]
    rfl
  have shape : s.passUpFrame f = if (s.countUnknown (knownUp f.kind)).passUp.length < 8
      then (s.countUnknown (knownUp f.kind)).setPassUp ((s.countUnknown (knownUp f.kind)).passUp ++ [f])
      else (s.countUnknown (knownUp f.kind)).count .upstreamDropped := rfl
  rw [shape, fifo]

/-- A passage writes the pass-up FIFO, the counters and the pending flags alone. -/
theorem passUpFrame_shape (f : Frame) : s.passUpFrame f =
    { s with passUp := (s.passUpFrame f).passUp, counters := (s.passUpFrame f).counters
             noticePending := (s.passUpFrame f).noticePending } := by
  have known : ∃ x y, s.countUnknown (knownUp f.kind) = { s with counters := x, noticePending := y } := by
    unfold State.countUnknown
    split
    · exact ⟨_, _, rfl⟩
    · exact ⟨_, _, count_eq s _⟩
  obtain ⟨x, y, known⟩ := known
  rw [passUpFrame_eq, known]
  split
  · rfl
  · rw [count_eq]

theorem passUpFrame_counter (f : Frame) (c : Counter) : (s.passUpFrame f).counter c =
    if c = .upstreamDropped ∧ 8 ≤ s.passUp.length then counted (s.counter c)
    else if c = .unknownPassed ∧ knownUp f.kind = false then counted (s.counter c) else s.counter c := by
  rw [passUpFrame_eq]
  by_cases room : s.passUp.length < 8
  · rw [if_pos room, if_neg fun k => absurd k.2 (by omega)]
    exact countUnknown_counter _ c
  · rw [if_neg room, count_counted, countUnknown_counter]
    by_cases dropped : c = .upstreamDropped
    · subst dropped
      simp [Nat.not_lt.1 room]
    · simp [dropped]

theorem passUpFrame_passUp (f : Frame) : (s.passUpFrame f).passUp = if s.passUp.length < 8 then s.passUp ++ [f] else s.passUp := by
  rw [passUpFrame_eq]
  split
  · rfl
  · rw [count_eq]
    show (s.countUnknown _).passUp = _
    rw [countUnknown_holds]
    rfl

theorem count_hellosSeen_tap : s.seenHello = { s with counters := s.seenHello.counters, noticePending := s.seenHello.noticePending } :=
  count_eq s .hellosSeen

theorem seenHello_counter (c : Counter) : s.seenHello.counter c = if c = .hellosSeen then counted (s.counter c) else s.counter c :=
  count_counted s .hellosSeen c

/-- A HELLO recorded writes the station's history, the counters and the pending flags. -/
theorem recorded_shape (a : Nat) (payload : List Byte) : s.recorded a payload =
    { s with stations := (s.recorded a payload).stations, counters := s.seenHello.counters
             noticePending := (s.recorded a payload).noticePending } := by
  unfold State.recorded
  rw [updateStation_stations, count_hellosSeen_tap]
  rfl

/-- What the tap of a HELLO leaves of what it finds recorded, or only counted. -/
theorem helloTap_carries {a : Nat} (valid : validStation a = true) (payload : List Byte) :
    Carries (if s.seenListed a then s.recorded a payload else s.seenHello) (s.helloTap a payload) := by
  rw [helloTap_eq]
  split
  · split
    · exact ((carries_raise _).trans (carries_faultRequest a .storm)).trans (carries_settleFrom _)
    · exact carries_helloEffect valid _
  · exact .rfl' _

theorem helloTap_counter {a : Nat} (valid : validStation a = true) (payload : List Byte) (c : Counter) (d : c ≠ .framesDeferred)
    (r : c ≠ .framesSuperseded) (l : c ≠ .repliesLost) :
    (s.helloTap a payload).counter c = if c = .hellosSeen then counted (s.counter c) else s.counter c := by
  rw [(helloTap_carries valid payload).counter c d r l, ← seenHello_counter]
  split
  · rw [recorded_shape]
    rfl
  · rfl

theorem helloTap_keeps {a : Nat} (valid : validStation a = true) (payload : List Byte) {α : Type} (g : State → α)
    (carried : ∀ t u : State, Carries t u → g u = g t)
    (found : ∀ (t : State) x y z, g { t with stations := x, counters := y, noticePending := z } = g t) :
    g (s.helloTap a payload) = g s := by
  rw [carried _ _ (helloTap_carries valid payload)]
  split
  · rw [recorded_shape]
    exact found s _ _ _
  · rw [count_hellosSeen_tap]
    exact found s s.stations _ _

/-! ## The taps of the other frames (R25) -/

/-- What the taps of a frame other than a HELLO leave. -/
theorem upTaps_keeps (f : Frame) {α : Type} (g : State → α) (core : ∀ t : State, g t.core = g t)
    (points : ∀ (t : State) p, g { t with points := p } = g t)
    (feeds : ∀ (t : State) x y z, g { t with feedA := x, feedB := y, contributions := z } = g t) : g (s.upTaps f) = g s := by
  have reading : ∀ feed v, g (s.takeReading feed v) = g s := fun feed v => by
    have shape : ∃ x y z, s.takeReading feed v = { s with feedA := x, feedB := y, contributions := z } := by
      unfold State.takeReading
      dsimp only
      split <;> cases feed <;> exact ⟨_, _, _, rfl⟩
    obtain ⟨x, y, z, shape⟩ := shape
    rw [shape]
    exact feeds s x y z
  unfold State.upTaps
  split
  · exact points s _
  · split
    · exact points s _
    · split
      · rw [← core, settle_core, core]
        exact reading _ _
      · rfl

/-- What leaves the tapping and passing of an unmatched station frame, whatever its kind. -/
theorem fArrival_unmatched {f : Frame} (valid : validStation f.station = true) (noMatch : s.matchSlot f = none) {α : Type} (g : State → α)
    (x : α) (hello : f.kind = kindHello → g ((s.passUpFrame f).helloTap f.station f.payload) = x)
    (other : f.kind ≠ kindHello → g ((s.upTaps f).passUpFrame f) = x) : g (s.fArrival f) = x := by
  unfold State.fArrival
  rw [if_neg (by simp [valid]), noMatch]
  split
  · next h => exact hello h
  · next h => exact other h

/-- Settles O25: the FIFO and the counters by the passage; the taps, before or after it, leave them, and so does the closing. -/
theorem passUpOrDrop : Obligations.PassUpOrDrop := by
  unfold Obligations.PassUpOrDrop
  intro s f sends valid noMatch
  obtain ⟨z, hz⟩ : ∃ z, z = s.endFrame .f := ⟨_, rfl⟩
  have unmatched : z.matchSlot f = none := by rw [hz]; exact noMatch
  have arrives : exec (.fFrameArrival f) s = .next (s.close (z.fArrival f)) := by rw [hz]; rfl
  have port {α : Type} (g : State → α) (same : ∀ (t : State) x, g { t with portF := x } = g t) : g z = g s := by
    rw [hz]
    exact same s _
  have field {α : Type} (g : State → α) (carried : ∀ t u : State, Carries t u → g u = g t)
      (core : ∀ t : State, g t.core = g t)
      (points : ∀ (t : State) p, g { t with points := p } = g t)
      (feeds : ∀ (t : State) x y w, g { t with feedA := x, feedB := y, contributions := w } = g t)
      (found : ∀ (t : State) x y w, g { t with stations := x, counters := y, noticePending := w } = g t)
      (passed : ∀ t : State, g (t.passUpFrame f) = g t) : g (z.fArrival f) = g z :=
    fArrival_unmatched valid unmatched g _
      (fun _ => (helloTap_keeps valid f.payload g carried found).trans (passed z))
      (fun _ => (passed _).trans (upTaps_keeps f g core points feeds))
  have wireS : (z.fArrival f).wireS = s.wireS :=
    (field State.wireS (fun _ _ h => h.wireS) core_wireS (fun _ _ => rfl) (fun _ _ _ _ => rfl) (fun _ _ _ _ => rfl)
      (fun t => by rw [passUpFrame_shape])).trans (port _ fun _ _ => rfl)
  have passUp : (s.close (z.fArrival f)).passUp = if s.passUp.length < 8 then s.passUp ++ [f] else s.passUp := by
    rw [passUp_close sends wireS]
    refine fArrival_unmatched valid unmatched State.passUp _ (fun _ => ?_) (fun _ => ?_)
    · rw [helloTap_keeps valid f.payload State.passUp (fun _ _ h => h.passUp) (fun _ _ _ _ => rfl), passUpFrame_passUp,
        port State.passUp fun _ _ => rfl]
    · rw [passUpFrame_passUp, upTaps_keeps f State.passUp core_passUp (fun _ _ => rfl) (fun _ _ _ _ => rfl),
        port State.passUp fun _ _ => rfl]
  have counter : ∀ c, c ≠ .framesDeferred → c ≠ .framesSuperseded → c ≠ .repliesLost → c ≠ .hellosSeen →
      (s.close (z.fArrival f)).counter c =
        if c = .upstreamDropped ∧ 8 ≤ s.passUp.length then counted (s.counter c)
        else if c = .unknownPassed ∧ knownUp f.kind = false then counted (s.counter c) else s.counter c :=
    fun c d r l h => by
      have before : ∀ t : State, t.counter c = s.counter c → t.passUp = s.passUp → (t.passUpFrame f).counter c =
          if c = .upstreamDropped ∧ 8 ≤ s.passUp.length then counted (s.counter c)
          else if c = .unknownPassed ∧ knownUp f.kind = false then counted (s.counter c) else s.counter c := fun t same fifo => by
        rw [passUpFrame_counter, same, fifo]
      rw [close_counter]
      refine fArrival_unmatched valid unmatched (fun t => t.counter c) _ (fun _ => ?_) (fun _ => ?_)
      · refine (helloTap_counter valid f.payload c d r l).trans ((if_neg h).trans (before z ?_ ?_))
        · exact port (fun t => t.counter c) fun _ _ => rfl
        · exact port State.passUp fun _ _ => rfl
      · refine before (z.upTaps f) ?_ ?_
        · exact (upTaps_keeps f (fun t => t.counter c) (fun _ => rfl) (fun _ _ => rfl) (fun _ _ _ _ => rfl)).trans
            (port (fun t => t.counter c) fun _ _ => rfl)
        · exact (upTaps_keeps f State.passUp core_passUp (fun _ _ => rfl) (fun _ _ _ _ => rfl)).trans
            (port State.passUp fun _ _ => rfl)
  refine ⟨_, arrives, fun room => ⟨?_, ?_⟩, fun full => ⟨?_, ?_⟩, ?_, ?_, ?_, ?_, ?_⟩
  · rw [passUp, if_pos room]
  · rw [counter _ (by decide) (by decide) (by decide) (by decide), if_neg fun k => absurd k.2 (by omega)]
    exact if_neg fun k => absurd k.1 (by decide)
  · rw [passUp, if_neg (by omega)]
  · rw [counter _ (by decide) (by decide) (by decide) (by decide), if_pos ⟨rfl, full⟩]
  · rw [counter _ (by decide) (by decide) (by decide) (by decide), if_neg fun k => absurd k.1 (by decide)]
    cases knownUp f.kind <;> rfl
  · exact (close_settings _ _).trans ((field State.settings (fun _ _ h => h.left.settings) core_settings (fun _ _ => rfl)
      (fun _ _ _ _ => rfl) (fun _ _ _ _ => rfl) (fun t => by rw [passUpFrame_shape])).trans (port _ fun _ _ => rfl))
  · exact (close_silence _ _).trans ((field State.silence (fun _ _ h => h.left.silence) core_silence (fun _ _ => rfl)
      (fun _ _ _ _ => rfl) (fun _ _ _ _ => rfl) (fun t => by rw [passUpFrame_shape])).trans (port _ fun _ _ => rfl))
  · exact (close_plan _ _).trans ((field State.plan (fun _ _ h => h.left.plan) core_plan (fun _ _ => rfl)
      (fun _ _ _ _ => rfl) (fun _ _ _ _ => rfl) (fun t => by rw [passUpFrame_shape])).trans (port _ fun _ _ => rfl))
  · exact (close_cursor _ _).trans ((field State.cursor (fun _ _ h => h.left.cursor) core_cursor (fun _ _ => rfl)
      (fun _ _ _ _ => rfl) (fun _ _ _ _ => rfl) (fun t => by rw [passUpFrame_shape])).trans (port _ fun _ _ => rfl))

end Sys2Proof.Machine
end

section
/-! SUPPORT. A HELLO at the Station Table (R24, R47 to R49): its absorption or passage, its record, and the station it may hold. -/

namespace Sys2Proof.Machine

variable {s : State}

/-! ## Pending flags through the F-port's choice -/

theorem noticePending_kept {t : State} (same : t.noticePending = s.noticePending) (e : NoticeEvent) (on : s.isPending e = true) :
    t.isPending e = true := by rw [isPending_congr same]; exact on

theorem sendDrain_pending (a : Nat) (e : NoticeEvent) (on : s.isPending e = true) : (s.sendDrain a).isPending e = true := by
  cases queue : s.queue a with
  | nil =>
    unfold State.sendDrain
    rw [queue]
    exact on
  | cons f rest =>
    have taken : (s.drained a f rest).isPending e = true := ((follows_setQueue a rest).trans follows_rearm).pending e on
    rw [sendDrain_eq queue]
    split
    · exact (follows_settleFrom _ _).pending e ((follows_checkDrain _ a).pending e taken)
    · exact taken

theorem finishEmpty_pending (i : Nat) (r : InjectionRecord) (e : NoticeEvent) (on : s.isPending e = true) :
    (s.finishEmpty i r).isPending e = true := by
  have finished : ((s.setSlot i none).finishFrames r.step).noticePending = s.noticePending := by
    unfold State.finishFrames State.settleStep
    split <;> exact setEntry_noticePending ..
  exact (follows_settle _).pending e (noticePending_kept finished e on)

theorem sendInjection_noticePending (i : Nat) (r : InjectionRecord) (q : Byte) :
    (s.sendInjection i r q).noticePending = s.noticePending := by
  have written : ∀ (t : State) n e, t.noticePending = s.noticePending → (t.setEntry n e).noticePending = s.noticePending :=
    fun t n e same => (setEntry_noticePending ..).trans same
  exact written _ _ _ rfl

/-- The F-port's choice clears no pending flag. -/
theorem fChoose_pending (fuel : Nat) (e : NoticeEvent) (on : s.isPending e = true) : (s.fChoose fuel).isPending e = true := by
  induction fuel generalizing s with
  | zero => exact on
  | succ k ih =>
    have head : ∀ x g, (s.sendHead x g).isPending e = true := fun x g => by
      unfold State.sendHead
      split <;> exact on
    unfold State.fChoose
    split
    · exact on
    · exact head _ _
    · unfold State.sendReserve
      split <;> exact on
    · exact head _ _
    · exact sendDrain_pending _ e on
    · split
      · exact on
      · split
        · exact on
        · split
          · exact ih (finishEmpty_pending _ _ e on)
          · exact noticePending_kept (sendInjection_noticePending _ _ _) e on

theorem close_pending_kept (t : State) (e : NoticeEvent) (on : t.isPending e = true) : (s.close t).isPending e = true := by
  have arbiter : t.fArbiter.isPending e = true := by
    unfold State.fArbiter
    split
    · exact fChoose_pending _ e on
    · exact on
  unfold State.close
  rw [noticed_up]
  exact arbiter

/-! ## Absorption and passage of a HELLO -/

/-- What the absorption or the passage of a HELLO leaves. -/
theorem classifyUp_hello_keeps {f : Frame} (hello : f.kind = kindHello) (m : Option Nat) {α : Type} (g : State → α)
    (core : ∀ t u : State, u.core = t.core → g u = g t)
    (late : ∀ t : State, g (t.count .lateReplies) = g t) (passed : ∀ t : State, g (t.passUpFrame f) = g t) : g (s.classifyUp f m) = g s := by
  cases m with
  | none =>
    exact passed s
  | some i =>
    show g (s.settleFrom (s.absorb i f)) = g s
    rw [core _ _ (settleFrom_core s _), absorb_hello hello]
    split
    · rfl
    · split
      · rw [core _ _ (closeRecord_core _ _)]
        exact late s
      · split
        · exact late s
        · rfl

theorem untouched_count (c : Counter) : Untouched s (s.count c) := by
  rw [count_eq]
  have station : ∀ a, State.station { s with counters := (s.count c).counters, noticePending := (s.count c).noticePending } a
      = s.station a := station_congr rfl
  exact ⟨rfl, rfl, rfl, rfl, rfl, rfl, rfl, rfl, rfl, rfl, rfl, rfl, rfl, rfl, rfl, rfl, rfl, rfl,
    fun a => congrArg StationRecord.config (station a), fun a => congrArg StationRecord.history (station a)⟩

theorem untouched_passUpFrame (f : Frame) : Untouched s (s.passUpFrame f) := by
  have station : ∀ a, (s.passUpFrame f).station a = s.station a := station_congr (by rw [passUpFrame_shape])
  refine ⟨?_, ?_, ?_, ?_, ?_, ?_, ?_, ?_, ?_, ?_, ?_, ?_, ?_, ?_, ?_, ?_, ?_, ?_,
    fun a => congrArg StationRecord.config (station a), fun a => congrArg StationRecord.history (station a)⟩
  all_goals rw [passUpFrame_shape]

theorem untouched_classifyUp_hello {f : Frame} (hello : f.kind = kindHello) (m : Option Nat) : Untouched s (s.classifyUp f m) := by
  cases m with
  | none => exact untouched_passUpFrame f
  | some i =>
    refine Untouched.trans (t := s.absorb i f) ?_ (untouched_of_core (settleFrom_core s _))
    rw [absorb_hello hello]
    split
    · exact untouched_of_core rfl
    · split
      · exact (untouched_count _).trans (untouched_of_core (closeRecord_core _ _))
      · split
        · exact untouched_count _
        · exact untouched_of_core rfl

/-! ## The record of a HELLO (R47) -/

/-- `h` is `b` with the HELLO recorded: its station's history, a count, its flag; and the receiver of the F-port. -/
structure Recorded (b : State) (f : Frame) (h : State) : Prop where
  shape : h = { b with portF := h.portF, stations := h.stations, counters := h.counters, noticePending := h.noticePending }
  station : ∀ a, h.station a = if a = f.station then { b.station a with history := helloHistory b f } else b.station a
  pending : h.isPending .hello = true

theorem recorded_station {a : Nat} (valid : validStation a = true) (payload : List Byte) (c : Nat) :
    (s.recorded a payload).station c = if c = a
      then { s.station c with history := appendHistory (s.station c).history (helloEntry s.bridgeTime payload) } else s.station c := by
  have before : ∀ d, s.seenHello.station d = s.station d := station_congr (by rw [count_hellosSeen_tap])
  unfold State.recorded
  rw [raise_station, updateStation_station, before]
  by_cases same : a = c
  · subst same
    rw [if_pos ⟨rfl, valid⟩, if_pos rfl]
  · rw [if_neg fun k => same k.1, if_neg (Ne.symm same)]

theorem recorded_of_receiving {f : Frame} (valid : validStation f.station = true) (x : PortState) :
    Recorded s f ((s.receiving x).recorded f.station f.payload) := by
  refine ⟨?_, fun a => ?_, raise_isPending _ _⟩
  · rw [recorded_shape]
    rfl
  · rw [recorded_station valid, station_receiving]
    split
    · next same => rw [same]; rfl
    · rfl

theorem stormPasses_iff (window : Nat) (l : List HistoryEntry) (e : HistoryEntry) :
    stormPasses window (appendHistory l e) = true ↔ (appendHistory l e).length = 4
      ∧ ∀ o, (appendHistory l e).head? = some o → (e.time - o.time).toNat ≤ window * 100 := by
  have last : (appendHistory l e).getLast? = some e := by
    unfold appendHistory
    have short : (l ++ [e]).length - 4 ≤ l.length := by simp only [List.length_append, List.length_singleton]; omega
    show ((l ++ [e]).drop ((l ++ [e]).length - 4)).getLast? = some e
    rw [List.drop_append_of_le_length short]
    exact List.getLast?_concat
  unfold stormPasses
  rw [last]
  cases head : (appendHistory l e).head? with
  | none =>
    have empty : appendHistory l e = [] := List.head?_eq_none_iff.1 head
    simp [empty]
  | some o =>
    simp only [Bool.and_eq_true, decide_eq_true_eq, Option.some.injEq, forall_eq']
    rfl

/-- The storm check on the record of a HELLO (R48). -/
theorem storms_iff {f : Frame} {h : State} (record : Recorded s f h) :
    ((h.station f.station).state.stormChecked && stormPasses s.settings.stormWindow (h.station f.station).history) = true
      ↔ Storms s f := by
  have state : (h.station f.station).state = (s.station f.station).state := by rw [record.station, if_pos rfl]
  have history : (h.station f.station).history
      = appendHistory (s.station f.station).history (helloEntry s.bridgeTime f.payload) := by rw [record.station, if_pos rfl]; rfl
  have checked : ∀ x : StationState, x.stormChecked = true ↔ x = .online ∨ x = .held ∨ x = .restoring ∨ x = .draining := fun x => by
    cases x <;> simp [StationState.stormChecked]
  rw [Bool.and_eq_true, state, history, stormPasses_iff, checked]
  rfl

theorem seenListed_congr {t : State} (loading : t.loading = s.loading) {a : Nat}
    (config : (t.station a).config = (s.station a).config) : t.seenListed a = s.seenListed a := by
  simp [State.seenListed, State.listed, loading, config]

/-- The arrival of a HELLO is its absorption or passage, then its tap, whatever stands in the F-port's receiver (log 15). -/
theorem hello_arrival {f : Frame} (valid : validStation f.station = true) (hello : f.kind = kindHello) :
    exec (.fFrameArrival f) s = .next (s.close
      (((s.classifyUp f (s.matchSlot f)).receiving s.portF.endFrame).helloTap f.station f.payload)) := by
  have tap : (s.receiving s.portF.endFrame).fArrival f =
      ((s.classifyUp f (s.matchSlot f)).receiving s.portF.endFrame).helloTap f.station f.payload := by
    unfold State.fArrival
    rw [if_neg (by simp [valid]), if_pos hello, receiving_classifyUp_hello _ hello]
    rfl
  exact congrArg (fun t : State => Host.Outcome.next (s.close t)) tap

/-- The HELLO of a listed station that makes no storm, while the F-port sends: its effect on what it has been recorded in. -/
theorem hello_effect {f : Frame} (busy : s.FBusy) (valid : validStation f.station = true) (hello : f.kind = kindHello)
    (listed : s.seenListed f.station = true) (calm : ¬ Storms (s.classifyUp f (s.matchSlot f)) f) :
    ∃ h v : State, Recorded (s.classifyUp f (s.matchSlot f)) f h
      ∧ exec (.fFrameArrival f) s = .next ((h.helloEffect f.station (decide (f.payload.getD 1 0 ≠ 0))).upward v) := by
  obtain ⟨b, hb⟩ : ∃ b, b = s.classifyUp f (s.matchSlot f) := ⟨_, rfl⟩
  have left : Untouched s b := hb ▸ untouched_classifyUp_hello hello _
  have wire : b.wireF = s.wireF := hb ▸ classifyUp_hello_keeps hello _ State.wireF (fun _ _ h => (congrArg State.wireF h :))
    (fun t => by rw [count_eq]) (fun t => by rw [passUpFrame_shape])
  rw [hello_arrival valid hello, ← hb]
  rw [← hb] at calm
  obtain ⟨h, hh⟩ : ∃ h, h = (b.receiving s.portF.endFrame).recorded f.station f.payload := ⟨_, rfl⟩
  have record : Recorded b f h := hh ▸ recorded_of_receiving valid _
  have listed' : (b.receiving s.portF.endFrame).seenListed f.station = true :=
    (seenListed_congr left.loading ((congrArg StationRecord.config (station_receiving ..)).trans (left.configs _))).trans listed
  have tap : (b.receiving s.portF.endFrame).helloTap f.station f.payload
      = h.helloEffect f.station (decide (f.payload.getD 1 0 ≠ 0)) := by
    rw [helloTap_eq, if_pos listed', ← hh]
    exact if_neg fun storms => calm ((storms_iff record).1 storms)
  have sends : (h.helloEffect f.station (decide (f.payload.getD 1 0 ≠ 0))).FBusy := by
    unfold State.FBusy
    rw [(carries_helloEffect valid _).wireF, record.shape]
    show b.wireF.isSome = true
    rw [wire]
    exact busy
  obtain ⟨v, closed, -⟩ := close_upward (s := s) sends
  exact ⟨h, v, record, by rw [tap, closed]⟩

/-! ## The station that a HELLO holds (R49) -/

/-- The hold policy applies to a HELLO (R49). -/
theorem applies_iff (p : HoldPolicy) (x : Byte) : p.applies (decide (x ≠ 0)) = true ↔ p = .always ∨ (p = .onLoss ∧ x = 0) := by
  cases p <;> simp [HoldPolicy.applies]

/-- What stands when a HELLO has left its station HELD, before the run goes on or is asked for: `u` is what the hand-over leaves of the
queues and the pass-down FIFO. -/
structure HeldFrom (b : State) (f : Frame) (u z : State) : Prop where
  shape : z = { b with portF := z.portF, passDown := z.passDown, queues := z.queues, highWaterArmed := z.highWaterArmed
                       replies := z.replies, stations := z.stations, counters := z.counters, noticePending := z.noticePending }
  station : ∀ a, z.station a = if a = f.station then { b.station a with state := .held, history := helloHistory b f }
    else b.station a
  ground : SameGround u z
  passDown : z.passDown = u.passDown

/-- A station that held frames already, or drains, is HELD with its queue as it stands. -/
theorem heldFrom_update {b h : State} {f : Frame} (valid : validStation f.station = true) (record : Recorded b f h) :
    HeldFrom b f b (h.updateStation f.station (fun r => { r with state := .held })) := by
  refine ⟨?_, fun a => ?_, ?_, ?_⟩
  · rw [updateStation_stations, record.shape]
  · rw [updateStation_station]
    by_cases same : f.station = a
    · subst same
      rw [if_pos ⟨rfl, valid⟩, if_pos rfl, record.station, if_pos rfl]
    · rw [if_neg fun k => same k.1, if_neg (Ne.symm same), record.station, if_neg (Ne.symm same)]
  · rw [updateStation_stations, record.shape]
    exact ⟨rfl, rfl, rfl, rfl, rfl, rfl, rfl, fun f => by cases f <;> exact ⟨rfl, rfl, rfl, rfl, rfl, rfl⟩⟩
  · rw [updateStation_stations, record.shape]

/-- The queues after an entry follow from the queues and the quota before it. -/
theorem holdEntry_queues_congr {t : State} {a : Nat} (valid : validStation a = true) (f : Frame) (queues : t.queues = s.queues)
    (quota : (t.station a).config.holdQuota = (s.station a).config.holdQuota) :
    (State.holdEntry a t f).queues = (State.holdEntry a s f).queues := by
  have kept : t.kept a f = s.kept a f := by
    unfold State.kept
    rw [queue_congr queues]
  have room : (t.supersede a f).holdRoom a = (s.supersede a f).holdRoom a := by
    rw [Bool.eq_iff_iff, supersede_room a f valid, supersede_room a f valid, kept, quota,
      occupancy_congr (setQueue_queues queues a (s.kept a f))]
  have core : ∀ z : State, (State.holdEntry a z f).queues = (z.entered a f).queues := fun z =>
    (congrArg State.queues (holdEntry_core (s := z) a f) :)
  rw [core, core, entered_queues a f valid, entered_queues a f valid, kept, room]
  exact setQueue_queues queues a _

theorem holdEntries_queues_congr {t : State} {a : Nat} (valid : validStation a = true) (l : List Frame) (queues : t.queues = s.queues)
    (quota : (t.station a).config.holdQuota = (s.station a).config.holdQuota) :
    (l.foldl (State.holdEntry a) t).queues = (l.foldl (State.holdEntry a) s).queues := by
  induction l generalizing s t with
  | nil => exact queues
  | cons f l ih =>
    have config : ∀ z : State, ((State.holdEntry a z f).station a).config = (z.station a).config := fun z =>
      (carries_holdEntry valid f).left.configs a
    exact ih (holdEntry_queues_congr valid f queues quota) (by rw [config, config, quota])

theorem handOver_queues_congr {t : State} {a : Nat} (valid : validStation a = true) (queues : t.queues = s.queues)
    (fifo : t.passDown = s.passDown) (quota : (t.station a).config.holdQuota = (s.station a).config.holdQuota) :
    (t.handOver a).queues = (s.handOver a).queues := by
  have station : ∀ (z : State) l, (z.setPassDown l).station a = z.station a := fun z l => station_congr rfl a
  show (List.foldl (State.holdEntry a) (t.setPassDown _) _).queues = (List.foldl (State.holdEntry a) (s.setPassDown _) _).queues
  rw [fifo]
  exact holdEntries_queues_congr (s := s.setPassDown _) valid _ queues (by rw [station, station, quota])

/-- An ONLINE station is HELD with its hand-over. -/
theorem heldFrom_handOver {b h : State} {f : Frame} (valid : validStation f.station = true) (record : Recorded b f h)
    (online : (b.station f.station).state = .online) :
    HeldFrom b f (b.handOver f.station) (h.heldWith f.station (h.passDown.filter (fun g => !handedOver f.station g))
      (h.handOver f.station)) := by
  have here : h.station f.station = { b.station f.station with history := helloHistory b f } :=
    (record.station _).trans (if_pos rfl)
  have undrained : (b.station f.station).state ≠ .draining := by rw [online]; decide
  have undrained' : (h.station f.station).state ≠ .draining := by rw [here]; exact undrained
  have fifo : h.passDown = b.passDown := by rw [record.shape]
  have queues : (h.handOver f.station).queues = (b.handOver f.station).queues :=
    handOver_queues_congr valid (by rw [record.shape]) fifo (by rw [here])
  refine ⟨?_, fun a => ?_, ?_, ?_⟩
  · rw [heldWith_eq, record.shape]
    rfl
  · rw [heldWith_station _ _ valid, record.station]
    split <;> rfl
  · have ground : SameGround b h := by
      rw [record.shape]
      exact ⟨rfl, rfl, rfl, rfl, rfl, rfl, rfl, fun f => by cases f <;> exact ⟨rfl, rfl, rfl, rfl, rfl, rfl⟩⟩
    refine (sameGround_heldWith f.station (h.passDown.filter (fun g => !handedOver f.station g))
      (b.passDown.filter (fun g => !handedOver f.station g)) ground (u := b.handOver f.station) ?_).trans ?_
    · rw [handOver_eq undrained]
      rfl
    · rw [heldWith_eq, heldWith_eq]
      exact ⟨rfl, rfl, rfl, rfl, rfl, queues, rfl, fun f => by cases f <;> exact ⟨rfl, rfl, rfl, rfl, rfl, rfl⟩⟩
  · rw [handOver_passDown f.station undrained, heldWith_eq, fifo]
    rfl

/-- With no run in progress a HELLO that holds its station, and no other, asks for a start (R50). -/
theorem helloEffect_idle {b h : State} {f : Frame} (valid : validStation f.station = true) (record : Recorded b f h)
    (idle : b.run.inProgress = false) :
    let x := b.station f.station
    let applies : Prop := x.config.holdPolicy = .always ∨ (x.config.holdPolicy = .onLoss ∧ f.payload.getD 1 0 = 0)
    let holds : Prop := x.state = .held ∨ x.state = .restoring ∨ (x.state = .draining ∧ x.faultPending = false)
      ∨ (x.state = .online ∧ applies)
    let t := h.helloEffect f.station (decide (f.payload.getD 1 0 ≠ 0))
    (holds → ∃ z, HeldFrom b f (if x.state = .online ∧ applies then b.handOver f.station else b) z ∧ t = z.autoStart f.station)
      ∧ (¬ holds → t = h) := by
  intro x applies holds t
  have here : h.station f.station = { x with history := helloHistory b f } := (record.station _).trans (if_pos rfl)
  have run : h.run = b.run := by rw [record.shape]
  have policy : (h.station f.station).config.holdPolicy.applies (decide (f.payload.getD 1 0 ≠ 0)) = true ↔ applies := by
    rw [here]
    exact applies_iff _ _
  obtain ⟨z, hz⟩ : ∃ z, z = h.updateStation f.station (fun r => { r with state := .held }) := ⟨_, rfl⟩
  have held : HeldFrom b f b z := hz ▸ heldFrom_update valid record
  have idleZ : z.run.inProgress = false := by rw [held.shape]; exact idle
  have restarts : h.helloRestart f.station = z.autoStart f.station := by
    unfold State.helloRestart
    rw [← hz]
    exact if_neg (by rw [idleZ]; decide)
  have state : (h.station f.station).state = x.state := by rw [here]
  have effect : t = match x.state with
      | .online => h.helloOnline f.station (decide (f.payload.getD 1 0 ≠ 0))
      | .held | .restoring => h.helloRestart f.station
      | .draining => h.helloDraining f.station
      | .unlisted | .faulted | .overridden => h := by
    rw [← state]
    rfl
  cases now : x.state with
  | held =>
    rw [now] at effect
    refine ⟨fun _ => ⟨z, ?_, effect.trans restarts⟩, fun k => absurd (.inl now) k⟩
    rw [if_neg fun k => by cases k.1]
    exact held
  | restoring =>
    rw [now] at effect
    refine ⟨fun _ => ⟨z, ?_, effect.trans restarts⟩, fun k => absurd (.inr (.inl now)) k⟩
    rw [if_neg fun k => by cases k.1]
    exact held
  | draining =>
    rw [now] at effect
    have drains : h.helloDraining f.station = if x.faultPending then h else z.autoStart f.station := by
      unfold State.helloDraining
      rw [here, ← hz]
      refine if_congr Iff.rfl rfl ?_
      exact if_neg (by rw [idleZ]; decide)
    rw [drains] at effect
    cases fault : x.faultPending with
    | true =>
      rw [fault] at effect
      refine ⟨fun k => ?_, fun _ => effect⟩
      rcases k with k | k | k | k
      · cases now.symm.trans k
      · cases now.symm.trans k
      · cases fault.symm.trans k.2
      · cases now.symm.trans k.1
    | false =>
      rw [fault] at effect
      refine ⟨fun _ => ⟨z, ?_, effect⟩, fun k => absurd (.inr (.inr (.inl ⟨now, fault⟩))) k⟩
      rw [if_neg fun k => by cases k.1]
      exact held
  | online =>
    rw [now] at effect
    have held' := heldFrom_handOver valid record now
    obtain ⟨y, hy⟩ : ∃ y, y = h.heldWith f.station (h.passDown.filter (fun g => !handedOver f.station g))
      (h.handOver f.station) := ⟨_, rfl⟩
    rw [← hy] at held'
    have idleY : y.run.inProgress = false := by rw [held'.shape]; exact idle
    have enters : h.enterHeld f.station .hello = y := by
      rw [enterHeld_eq valid (state.trans now), ← hy]
      exact if_neg (by rw [idleY]; decide)
    have online : h.helloOnline f.station (decide (f.payload.getD 1 0 ≠ 0)) =
        if (h.station f.station).config.holdPolicy.applies (decide (f.payload.getD 1 0 ≠ 0)) = true then y.autoStart f.station
        else h := by
      unfold State.helloOnline
      rw [enters]
      refine if_congr Iff.rfl ?_ rfl
      exact if_neg (by rw [idleY]; decide)
    rw [online] at effect
    refine ⟨fun k => ?_, fun k => ?_⟩
    · have applied : applies := by
        rcases k with k | k | k | k
        · cases now.symm.trans k
        · cases now.symm.trans k
        · cases now.symm.trans k.1
        · exact k.2
      refine ⟨y, ?_, effect.trans (if_pos (policy.2 applied))⟩
      rw [if_pos ⟨rfl, applied⟩]
      exact held'
    · exact effect.trans (if_neg fun p => k (.inr (.inr (.inr ⟨now, policy.1 p⟩))))
  | unlisted | faulted | overridden =>
    rw [now] at effect
    refine ⟨fun k => ?_, fun _ => effect⟩
    rcases k with k | k | k | k
    · cases now.symm.trans k
    · cases now.symm.trans k
    · cases now.symm.trans k.1
    · cases now.symm.trans k.1

theorem autoStartAllowed_congr {b z : State} {f : Frame} {u : State} (held : HeldFrom b f u z) :
    z.autoStartAllowed f.station = b.autoStartAllowed f.station := by
  have config : (z.station f.station).config = (b.station f.station).config := by rw [held.station, if_pos rfl]
  unfold State.autoStartAllowed
  rw [config, held.shape]

/-- Settles O27: what the absorption or the passage leaves, the tap's record on it, and the hold of an ONLINE station. -/
theorem helloIsRecordedThenTested : Obligations.HelloIsRecordedThenTested := by
  unfold Obligations.HelloIsRecordedThenTested
  refine ⟨fun s f valid hello => ?recorded, fun s f hello => ⟨fun noMatch => ?passed, fun i r found slot => ?absorbed⟩,
    fun s f valid hello listed => ?held⟩
  case recorded =>
    obtain ⟨b, hb⟩ : ∃ b, b = (s.classifyUp f (s.matchSlot f)).receiving s.portF.endFrame := ⟨_, rfl⟩
    have left : Untouched s (s.classifyUp f (s.matchSlot f)) := untouched_classifyUp_hello hello _
    have station : ∀ a, b.station a = (s.classifyUp f (s.matchSlot f)).station a := fun a => hb ▸ station_receiving _ a
    have history : ∀ a, (b.station a).history = (s.station a).history := fun a => by rw [station, left.histories]
    have listed : b.seenListed f.station = s.seenListed f.station :=
      seenListed_congr (by rw [hb]; exact left.loading) (by rw [station, left.configs])
    have now : b.bridgeTime = s.bridgeTime := by rw [hb]; exact left.bridgeTime
    have carried := helloTap_carries (s := b) valid f.payload
    rw [listed] at carried
    have arrives := hello_arrival (s := s) valid hello
    rw [← hb] at arrives
    obtain ⟨t, ht⟩ : ∃ t, t = b.helloTap f.station f.payload := ⟨_, rfl⟩
    rw [← ht] at carried arrives
    have counts : b.counter .hellosSeen = s.counter .hellosSeen := by
      rw [hb]
      exact classifyUp_hello_keeps hello _ (fun t => t.counter .hellosSeen)
        (fun t u h => by simp [State.counter, show u.counters = t.counters from (congrArg State.counters h :)])
        (fun t => by rw [count_counted, if_neg (by decide)])
        (fun t => by rw [passUpFrame_counter, if_neg (by simp), if_neg (by simp)])
    have unlisted : s.seenListed f.station = false → ∀ a, (t.station a).history = (s.station a).history := fun no a => by
      rw [no] at carried
      rw [carried.left.histories, if_neg Bool.false_ne_true, ← history]
      exact congrArg StationRecord.history (station_congr (by rw [count_hellosSeen_tap]) a)
    have taken : s.seenListed f.station = true → ∀ a, (t.station a).history =
        if a = f.station then appendHistory (s.station a).history (helloEntry s.bridgeTime f.payload)
        else (s.station a).history := fun yes a => by
      rw [yes] at carried
      rw [carried.left.histories, if_pos rfl, recorded_station valid, now]
      split <;> simp [history]
    refine ⟨_, arrives, ?_, fun a other => ?_, fun no => ?_, fun yes => ⟨?_, ?_⟩⟩
    · rw [close_counter, ht, helloTap_counter valid _ _ (by decide) (by decide) (by decide), if_pos rfl, counts]
    · rw [close_history]
      cases seen : s.seenListed f.station with
      | false => exact unlisted seen a
      | true => exact (taken seen a).trans (if_neg other)
    · rw [close_history]
      exact unlisted no _
    · refine close_pending_kept t .hello (carried.pending _ ?_)
      rw [yes, if_pos rfl]
      exact raise_isPending _ _
    · rw [close_history]
      exact (taken yes _).trans (if_pos rfl)
  case passed =>
    rw [noMatch]
    exact passUpFrame_shape f
  case absorbed =>
    rw [found]
    show s.settleFrom (s.absorb i f) = _
    rw [absorb_hello hello, slot]
  case held =>
    intro b online idle refused busy calm
    obtain ⟨h, v, record, arrives⟩ := hello_effect busy valid hello listed calm
    have left : Untouched s b := untouched_classifyUp_hello hello _
    have here : h.station f.station = { b.station f.station with history := helloHistory b f } :=
      (record.station _).trans (if_pos rfl)
    obtain ⟨holds, rests⟩ := helloEffect_idle valid record idle
    obtain ⟨t, ht⟩ : ∃ t, t = h.helloEffect f.station (decide (f.payload.getD 1 0 ≠ 0)) := ⟨_, rfl⟩
    rw [← ht] at holds rests arrives
    have policy := left.configs f.station
    have stations : ∀ a, (t.upward v).station a = t.station a := station_congr rfl
    have ends : ∀ x : StationState, t.run = b.run →
        t.station f.station = { b.station f.station with state := x, history := helloHistory b f } →
        (∀ a, a ≠ f.station → t.station a = b.station a) →
        (x = match (s.station f.station).config.holdPolicy with
             | .never => StationState.online
             | .onLoss => if f.payload.getD 1 0 = 0 then .held else .online
             | .always => .held) →
        ∃ t, exec (.fFrameArrival f) s = .next t ∧ t.run = b.run ∧ (∀ a, a ≠ f.station → t.station a = b.station a)
          ∧ (t.station f.station).config = (s.station f.station).config
          ∧ (t.station f.station).member = (b.station f.station).member
          ∧ (t.station f.station).state = match (s.station f.station).config.holdPolicy with
             | .never => .online
             | .onLoss => if f.payload.getD 1 0 = 0 then .held else .online
             | .always => .held := fun x run record others same => by
      have own : (t.upward v).station f.station = { b.station f.station with state := x, history := helloHistory b f } :=
        (stations _).trans record
      refine ⟨_, arrives, run, fun a other => (stations a).trans (others a other), ?_, ?_, ?_⟩
      · rw [own]
        exact policy
      · rw [own]
      · rw [own]
        exact same
    by_cases applied : (b.station f.station).config.holdPolicy = .always
        ∨ ((b.station f.station).config.holdPolicy = .onLoss ∧ f.payload.getD 1 0 = 0)
    · obtain ⟨z, held, same⟩ := holds (.inr (.inr (.inr ⟨online, applied⟩)))
      have stays : z.autoStart f.station = z := by
        rw [autoStart_eq, if_neg]
        rintro ⟨-, allowed⟩
        rw [autoStartAllowed_congr held, refused] at allowed
        cases allowed
      rw [stays] at same
      rw [same] at ends
      refine ends .held (by rw [held.shape]) ((held.station _).trans (if_pos rfl))
        (fun a other => (held.station a).trans (if_neg other)) ?_
      rw [policy] at applied
      rcases applied with p | ⟨p, lost⟩
      · rw [p]
      · rw [p, if_pos lost]
    · have same := rests (by
        rintro (k | k | k | k)
        · rw [online] at k; cases k
        · rw [online] at k; cases k
        · rw [online] at k; cases k.1
        · exact applied k.2)
      rw [same] at ends
      refine ends .online (by rw [record.shape]) (by rw [here, ← online]) (fun a other => (record.station a).trans (if_neg other)) ?_
      · rw [policy] at applied
        cases p : (s.station f.station).config.holdPolicy with
        | never => rfl
        | onLoss => exact (if_neg fun lost => applied (.inr ⟨p, lost⟩)).symm
        | always => exact absurd (.inl p) applied

end Sys2Proof.Machine
end

section
/-! SUPPORT. A HELLO that starts a run, and one that joins its station to it (R50 to R52, R108, R110). -/

namespace Sys2Proof.Machine

variable {s : State}

/-! ## The start (R50, R108) -/

theorem validate_congr {b z : State} (plan : z.plan = b.plan) (payloads : z.payloads = b.payloads)
    (configs : ∀ a, (z.station a).config = (b.station a).config) (budgets : z.feedA = b.feedA ∧ z.feedB = b.feedB) :
    z.validate = b.validate := by
  have steps : ∀ n, z.step n = b.step n := fun n => by simp [State.step, plan]
  have payload : ∀ n, z.payload n = b.payload n := fun n => by simp [State.payload, payloads]
  have faults : ∀ n, z.stepFault n = b.stepFault n := fun n => by
    have feed : ∀ f, z.feed f = b.feed f := fun f => by
      cases f
      · exact budgets.1
      · exact budgets.2
    simp [State.stepFault, State.listed, steps, payload, configs, feed]
  simp [State.validate, steps, faults]

section
variable {b u z : State} {f : Frame} (held : HeldFrom b f u z)
include held

theorem HeldFrom.config (a : Nat) : (z.station a).config = (b.station a).config := by
  rw [held.station]
  split <;> rfl

theorem HeldFrom.validate : z.validate = b.validate := by
  refine validate_congr ?_ ?_ held.config ⟨?_, ?_⟩
  all_goals rw [held.shape]
end

theorem started_queues : s.started.queues = s.queues := (congrArg State.queues (started_core (s := s)) :)
theorem started_passDown : s.started.passDown = s.passDown := (congrArg State.passDown (started_core (s := s)) :)

/-- Settles O31: the station HELD, then the conditions of the start in their order. -/
theorem helloStartsARun : Obligations.HelloStartsARun := by
  unfold Obligations.HelloStartsARun
  intro s f busy valid hello listed b idle calm x applies holds asks u
  obtain ⟨h, v, record, arrives⟩ := hello_effect busy valid hello listed calm
  have left : Untouched s b := untouched_classifyUp_hello hello _
  obtain ⟨held, rests⟩ := helloEffect_idle valid record idle
  obtain ⟨t, ht⟩ : ∃ t, t = h.helloEffect f.station (decide (f.payload.getD 1 0 ≠ 0)) := ⟨_, rfl⟩
  rw [← ht] at held rests arrives
  have stations : ∀ a, (t.upward v).station a = t.station a := station_congr rfl
  have allowed : ∀ z, HeldFrom b f u z → (z.autoStartAllowed f.station = true ↔ asks) := fun z from_b => by
    rw [autoStartAllowed_congr from_b]
    show (x.config.autoRun && !b.straps.inhibit && !b.silence.suppress) = true ↔ _
    rw [left.straps, left.silence, Bool.and_eq_true, Bool.and_eq_true, Bool.not_eq_true', Bool.not_eq_true', and_assoc]
  by_cases holding : holds
  · obtain ⟨z, from_b, same⟩ := held holding
    have from_b : HeldFrom b f u z := from_b
    have run : z.run = b.run := by rw [from_b.shape]
    have entries : z.entries = b.entries := by rw [from_b.shape]
    have own : z.station f.station = { x with state := .held, history := helloHistory b f } :=
      (from_b.station _).trans (if_pos rfl)
    have idleZ : z.run.inProgress = false := by rw [run]; exact idle
    rw [autoStart_eq, from_b.validate] at same
    by_cases asked : asks
    · rw [if_pos ⟨idleZ, (allowed z from_b).2 asked⟩] at same
      cases fault : b.validate with
      | none =>
        rw [if_pos fault] at same
        obtain ⟨number, time, -, -, pending, -⟩ := settle_started z
        have now : z.bridgeTime = s.bridgeTime := by rw [from_b.shape]; exact left.bridgeTime
        have steps : ∀ n, z.step n = s.step n := fun n => by
          rw [show z.step n = b.step n by rw [from_b.shape]; rfl]
          simp [State.step, left.plan]
        refine ⟨z.started, t.upward v, arrives, ?queues, ?fifo, fun _ _ _ => ⟨?started, ?number, ?time, ?ground, ?run, fun a => ?station,
          fun n => ?entry, ?slots, ?clocks, ?same⟩, fun _ _ k => absurd rfl k, fun _ k => absurd asked k, fun k => absurd holding k⟩
        case queues =>
          refine Eq.trans ?_ from_b.ground.queues
          rw [same]
          exact (settle_queues _).trans started_queues
        case fifo =>
          refine Eq.trans ?_ from_b.passDown
          rw [same]
          exact (settle_passDown _).trans started_passDown
        case started =>
          rw [same]
          exact pending
        case number =>
          rw [same, ← run]
          exact number
        case time =>
          rw [same, ← now]
          exact time
        case ground => exact from_b.ground.trans sameGround_started
        case run => rw [started_run, run, now]
        case station =>
          rw [started_station, from_b.station]
          by_cases here : a = f.station
          · rw [if_pos here, if_pos rfl, if_pos here, here]
          · rw [if_neg here, if_neg here]
        case entry => rw [started_entry, steps]
        case slots => rw [started_slots, from_b.shape]
        case clocks => rw [started_contributions, from_b.shape]
        case same =>
          rw [same]
          exact ⟨rfl, rfl, rfl, rfl, rfl, rfl⟩
      | some y =>
        rw [if_neg (by rw [fault]; simp)] at same
        refine ⟨z, t.upward v, arrives, ?_, ?_, fun _ _ k => absurd k (by simp), fun _ _ _ => ⟨?_, ?_, ?_, ?_⟩,
          fun _ k => absurd asked k, fun k => absurd holding k⟩
        · rw [same]
          exact from_b.ground.queues
        · rw [same]
          exact from_b.passDown
        · rw [same]
          exact raise_isPending _ _
        · rw [same]
          exact run
        · rw [same]
          exact entries
        · rw [stations, same, raise_station]
          exact own
    · rw [if_neg fun k => asked ((allowed z from_b).1 k.2)] at same
      refine ⟨z, t.upward v, arrives, ?_, ?_, fun _ k => absurd k asked, fun _ k => absurd k asked, fun _ _ => ⟨?_, ?_, ?_⟩,
        fun k => absurd holding k⟩
      · rw [same]
        exact from_b.ground.queues
      · rw [same]
        exact from_b.passDown
      · rw [same]
        exact run
      · rw [same]
        exact entries
      · rw [stations, same]
        exact own
  · have same := rests holding
    have plain : u = b := if_neg fun k => holding (.inr (.inr (.inr k)))
    refine ⟨h, t.upward v, arrives, ?_, ?_, fun k => absurd k holding, fun k => absurd k holding, fun k => absurd k holding,
      fun _ => ⟨?_, ?_, ?_⟩⟩
    · rw [plain, same, record.shape]
      rfl
    · rw [plain, same, record.shape]
      rfl
    · rw [same, record.shape]
      rfl
    · rw [same, record.shape]
      rfl
    · rw [stations, same]
      exact (record.station _).trans (if_pos rfl)

/-! ## The joining of a run (R110) -/

/-- The moment of a grant test is read from the step entries, the plan, the slots and the run record. -/
theorem grantMoment_congr {b h : State} (entries : h.entries = b.entries) (plan : h.plan = b.plan) (slots : h.slots = b.slots)
    (run : h.run = b.run) (w : State) : h.grantMoment w = b.grantMoment w := by
  have step : ∀ n, h.step n = b.step n := fun n => by simp [State.step, plan]
  have state : ∀ n, h.stepState n = b.stepState n := fun n => by simp [State.stepState, step, entry_congr entries]
  have heads : ∀ f, h.headOf f = b.headOf f := fun f => by simp [State.headOf, step, entry_congr entries]
  have closed : h.recordClosed w = b.recordClosed w := by
    funext i
    simp [State.recordClosed, slot_congr slots]
  simp [State.grantMoment, state, heads, closed, State.runState, run]

/-- In a run a HELLO from an ONLINE station that its hold policy holds, and from a drain with no fault pending, takes the station to
HELD and joins it to the run; a drain with a fault pending only takes the record (R49, R52, R110). -/
theorem helloEffect_joins {b h : State} {f : Frame} (valid : validStation f.station = true) (record : Recorded b f h)
    (runs : b.run.inProgress = true) :
    let x := b.station f.station
    let applies : Prop := x.config.holdPolicy = .always ∨ (x.config.holdPolicy = .onLoss ∧ f.payload.getD 1 0 = 0)
    let t := h.helloEffect f.station (decide (f.payload.getD 1 0 ≠ 0))
    (x.state = .online → applies → ∃ z, HeldFrom b f (b.handOver f.station) z
        ∧ t = b.settleFrom (z.joinRun f.station .hello))
      ∧ (x.state = .draining → x.faultPending = false → ∃ z, HeldFrom b f b z
        ∧ t = b.settleFrom (z.joinRun f.station .drainingHello))
      ∧ (x.state = .draining → x.faultPending = true → t = h) := by
  intro x applies t
  have here : h.station f.station = { x with history := helloHistory b f } := (record.station _).trans (if_pos rfl)
  have state : (h.station f.station).state = x.state := by rw [here]
  have from_b : ∀ z w : State, z.entries = b.entries → z.plan = b.plan → z.slots = b.slots → z.run = b.run →
      z.settleFrom w = b.settleFrom w := fun z w entries plan slots run => by
    unfold State.settleFrom
    rw [grantMoment_congr entries plan slots run]
  refine ⟨fun online applied => ?_, fun drains clear => ?_, fun drains fault => ?_⟩
  · refine ⟨_, heldFrom_handOver valid record online, ?_⟩
    have held := heldFrom_handOver valid record online
    obtain ⟨y, hy⟩ : ∃ y, y = h.heldWith f.station (h.passDown.filter (fun g => !handedOver f.station g))
      (h.handOver f.station) := ⟨_, rfl⟩
    rw [← hy] at held ⊢
    have effect : t = h.helloOnline f.station (decide (f.payload.getD 1 0 ≠ 0)) := by
      show h.helloEffect f.station (decide (f.payload.getD 1 0 ≠ 0)) = _
      unfold State.helloEffect
      rw [state.trans online]
    have policy : (h.station f.station).config.holdPolicy.applies (decide (f.payload.getD 1 0 ≠ 0)) = true := by
      rw [here]
      exact (applies_iff _ _).2 applied
    have runsY : y.run.inProgress = true := by rw [held.shape]; exact runs
    have joined : (y.joinRun f.station .hello).run.inProgress = true := by
      rw [(joinRun_joins valid .hello runsY).1.run]
      exact runsY
    rw [effect]
    unfold State.helloOnline
    rw [if_pos policy, enterHeld_eq valid (state.trans online), ← hy]
    dsimp only
    rw [if_pos joined]
    refine from_b h _ ?_ ?_ ?_ ?_
    all_goals rw [record.shape]
  · refine ⟨_, heldFrom_update valid record, ?_⟩
    have held := heldFrom_update valid record
    obtain ⟨z, hz⟩ : ∃ z, z = h.updateStation f.station (fun r => { r with state := .held }) := ⟨_, rfl⟩
    rw [← hz] at held ⊢
    have effect : t = h.helloDraining f.station := by
      show h.helloEffect f.station (decide (f.payload.getD 1 0 ≠ 0)) = _
      unfold State.helloEffect
      rw [state.trans drains]
    rw [effect]
    unfold State.helloDraining
    rw [here, if_neg (show ¬ x.faultPending = true by rw [clear]; decide), ← hz]
    dsimp only
    rw [if_pos (by rw [held.shape]; exact runs)]
    refine from_b z _ ?_ ?_ ?_ ?_
    all_goals rw [held.shape]
  · show h.helloEffect f.station (decide (f.payload.getD 1 0 ≠ 0)) = h
    unfold State.helloEffect
    rw [state.trans drains]
    unfold State.helloDraining
    rw [here]
    exact if_pos fault

/-- What a station HELD by a HELLO leaves, joined to the run. -/
theorem heldFrom_joins {b u z : State} {f : Frame} (valid : validStation f.station = true) (held : HeldFrom b f u z)
    (runs : b.run.inProgress = true) (k : Restart) (own : Nat → Bool)
    (ownsIff : ∀ n, own n = ((b.step n).used && decide ((b.step n).station = f.station))) (v : State) :
    let w := z.joinRun f.station k
    let t := (b.settleFrom w).upward v
    SameGround u w ∧ t.queues = u.queues ∧ t.passDown = u.passDown
      ∧ (∀ n, w.entry n = if own n = true ∧ k.returns (b.entry n).state = true ∧ (b.entry n).state ≠ .pending then
          { b.entry n with state := .pending, cause := .none, nak := 0, settle := none } else b.entry n)
      ∧ (∀ a, w.station a = if a = f.station then
          { b.station f.station with state := .held, member := true, history := helloHistory b f } else b.station a)
      ∧ (∀ i, w.slot i = if b.slotOf f.station = some i then cancelled (b.slot i) else b.slot i)
      ∧ w.contributions = b.contributions.map (fun c =>
          if own c.step = true ∧ k.returns (b.entry c.step).state = true ∧ (b.entry c.step).state = .issued
          then { c with running := true } else c)
      ∧ w.run = b.run ∧ SameRun t (b.settleFrom w) := by
  intro w t
  have run : z.run = b.run := by rw [held.shape]
  have entries : ∀ n, z.entry n = b.entry n := entry_congr (by rw [held.shape])
  have steps : ∀ n, z.step n = b.step n := fun n => by simp [State.step, show z.plan = b.plan by rw [held.shape]]
  have slots : z.slots = b.slots := by rw [held.shape]
  have clocks : z.contributions = b.contributions := by rw [held.shape]
  obtain ⟨⟨entry, slot, contributions, same, seq⟩, station⟩ := joinRun_joins (s := z) valid k (by rw [run]; exact runs)
  have core : w.core = z.core := joinRun_core f.station k
  simp only [entries, steps, ← ownsIff, slot_congr slots, slotOf_congr slots, clocks] at entry slot contributions
  refine ⟨held.ground.trans (sameGround_of_core core seq), ?_, ?_, entry, fun a => ?_, slot, contributions, same.trans run,
    ⟨rfl, rfl, rfl, rfl, rfl, rfl⟩⟩
  · exact (settleFrom_queues b w).trans ((congrArg State.queues core :).trans held.ground.queues)
  · exact (settleFrom_passDown b w).trans ((congrArg State.passDown core :).trans held.passDown)
  · refine (station a).trans ?_
    rw [held.station]
    by_cases here : a = f.station
    · subst here
      rw [if_pos rfl, if_pos rfl, if_pos rfl]
    · rw [if_neg here, if_neg here, if_neg here]

/-- Settles O30: the station HELD with its hand-over or its drain's queue, its joining, and the follow-up. -/
theorem helloJoinsTheRun : Obligations.HelloJoinsTheRun := by
  unfold Obligations.HelloJoinsTheRun
  intro s f busy valid hello listed b runs calm x own applies joins u
  obtain ⟨h, v, record, arrives⟩ := hello_effect busy valid hello listed calm
  have left : Untouched s b := untouched_classifyUp_hello hello _
  have queues : b.queues = s.queues := classifyUp_hello_keeps hello _ State.queues (fun _ _ k => (congrArg State.queues k :))
    (fun t => by rw [count_eq]) (fun t => by rw [passUpFrame_shape])
  have owns : ∀ n, own n = ((b.step n).used && decide ((b.step n).station = f.station)) := fun n => by
    simp only [State.step, left.plan]
    rfl
  obtain ⟨onlines, drains, faults⟩ := helloEffect_joins valid record runs
  obtain ⟨t, ht⟩ : ∃ t, t = h.helloEffect f.station (decide (f.payload.getD 1 0 ≠ 0)) := ⟨_, rfl⟩
  rw [← ht] at onlines drains faults arrives
  by_cases online : x.state = .online ∧ applies
  · have hu : u = b.handOver f.station := if_pos online
    obtain ⟨z, held, same⟩ := onlines online.1 online.2
    obtain ⟨ground, tQueues, fifo, entry, station, slot, clocks, run, sameRun⟩ := heldFrom_joins valid held runs .hello own owns v
    refine ⟨z.joinRun f.station .hello, t.upward v, arrives, fun _ => ?_, fun k => absurd (online.1.symm.trans k) (by decide)⟩
    rw [hu, same]
    refine ⟨ground, tQueues, fifo, fun n => (entry n).trans (if_congr ?_ rfl rfl), station, slot,
      clocks.trans (List.map_congr_left fun c _ => if_congr ?_ rfl rfl), run, sameRun⟩
    · exact ⟨fun ⟨own, returns, other⟩ => ⟨own, other, .inr (of_decide_eq_true returns)⟩, fun ⟨own, other, k⟩ =>
        ⟨own, decide_eq_true (k.resolve_left fun drains => absurd (online.1.symm.trans drains) (by decide)), other⟩⟩
    · simp only [Restart.returns]
      exact ⟨fun k => ⟨k.1, k.2.2⟩, fun k => ⟨k.1, by rw [k.2]; decide, k.2⟩⟩
  · have hu : u = b := if_neg online
    by_cases draining : x.state = .draining ∧ x.faultPending = false
    · obtain ⟨z, held, same⟩ := drains draining.1 draining.2
      obtain ⟨ground, tQueues, fifo, entry, station, slot, clocks, run, sameRun⟩ :=
        heldFrom_joins valid held runs .drainingHello own owns v
      refine ⟨z.joinRun f.station .drainingHello, t.upward v, arrives, fun _ => ?_,
        fun _ k => absurd (draining.2.symm.trans k) (by decide)⟩
      rw [hu, same]
      refine ⟨ground, tQueues, fifo, fun n => (entry n).trans (if_congr ?_ rfl rfl), station, slot,
        clocks.trans (List.map_congr_left fun c _ => if_congr ?_ rfl rfl), run, sameRun⟩
      · exact ⟨fun ⟨own, _, other⟩ => ⟨own, other, .inl draining.1⟩, fun ⟨own, other, _⟩ => ⟨own, rfl, other⟩⟩
      · exact ⟨fun ⟨own, _, issued⟩ => ⟨own, issued⟩, fun ⟨own, issued⟩ => ⟨own, rfl, issued⟩⟩
    · refine ⟨h, t.upward v, arrives, fun k => (k.elim draining online).elim, fun k fault => ?_⟩
      have stations : ∀ a, (t.upward v).station a = t.station a := station_congr rfl
      have same := faults k fault
      refine ⟨?_, fun a other => ?_, ?_, ?_, ?_, ?_⟩
      · rw [stations, same]
        exact (record.station _).trans (if_pos rfl)
      · rw [stations, same]
        exact (record.station _).trans (if_neg other)
      all_goals
        rw [same, record.shape]
      · rfl
      · rfl
      · rfl
      · exact queues

end Sys2Proof.Machine
end

section
/-! SUPPORT. A station frame that a record absorbs (R24, R131 to R136): the record, its step, and what the Run Engine leaves of them. -/

namespace Sys2Proof.Machine

variable {s : State}

/-! ## Records that close -/

theorem slot_lt {i : Nat} {r : InjectionRecord} (h : s.slot i = some r) : i < 8 := by
  by_contra out
  simp [State.slot, getAt, out] at h

section
variable {i : Nat} {r : InjectionRecord}

theorem setSlot_here (lt : i < 8) (x : Option InjectionRecord) : (s.setSlot i x).slot i = x := by
  rw [setSlot_slot, if_pos ⟨rfl, lt⟩]

/-- What stands in a slot whose record has closed is a fresh record. -/
theorem closeRecord_fresh (y : InjectionRecord) (h : (s.closeRecord i).slot i = some y) : y.Fresh := by
  cases slot : s.slot i with
  | none =>
    unfold State.closeRecord at h
    rw [slot] at h
    cases slot.symm.trans h
  | some r =>
    have lt := slot_lt slot
    unfold State.closeRecord at h
    rw [slot] at h
    dsimp only at h
    split at h
    · rw [openRecord_slot _ _ _ _ lt] at h
      cases h
      exact ⟨rfl, rfl⟩
    · rw [setSlot_here lt] at h
      cases h

/-- A fresh record, or none, stays so through the follow-up. -/
theorem SlotsTurn.keepsFresh {t : State} (turned : SlotsTurn s t) (before : ∀ y, s.slot i = some y → y.Fresh) (y : InjectionRecord)
    (h : t.slot i = some y) : y.Fresh := by
  cases slot : s.slot i with
  | none => exact turned.fresh i y slot h
  | some x =>
    have same := turned.kept i x slot
    rw [h] at same
    cases same
    exact before _ slot

theorem openRecord_entries (n k c : Nat) : (s.openRecord i n k c).entries = s.entries := by
  unfold State.openRecord State.makeAttempt
  split <;> rfl

theorem closeRecord_entries : (s.closeRecord i).entries = s.entries := by
  unfold State.closeRecord
  split
  · split
    · exact openRecord_entries _ _ _
    · rfl
  · rfl

variable (seq : Byte)

theorem resolveRecord_entries (further : Option Nat) : (s.resolveRecord i seq further).entries = s.entries := by
  unfold State.resolveRecord
  cases s.slot i with
  | none => rfl
  | some r =>
    dsimp only
    generalize (if r.outstanding = some seq then none else r.outstanding) = left
    split
    · rfl
    · exact closeRecord_entries

variable (h : s.slot i = some r)
include h

/-- A record answered while a later attempt is outstanding goes to CLOSING (R134). -/
theorem resolveRecord_later (further : Option Nat) {q : Byte} (out : r.outstanding = some q) (later : q ≠ seq) :
    (s.resolveRecord i seq further).slot i = some { r with closing := true, ready := none, further := further } := by
  have other : r.outstanding ≠ some seq := fun k => later (Option.some.inj (out.symm.trans k))
  have left : (if r.outstanding = some seq then none else r.outstanding) = r.outstanding := if_neg other
  unfold State.resolveRecord
  rw [h]
  dsimp only
  rw [left, if_pos (by rw [out]; rfl), setSlot_here (slot_lt h)]

/-- A record answered with no later attempt outstanding closes (R134, R135). -/
theorem resolveRecord_closes (further : Option Nat) (last : r.outstanding = none ∨ r.outstanding = some seq) :
    s.resolveRecord i seq further =
      (s.setSlot i (some { r with ready := none, outstanding := none, further := further })).closeRecord i := by
  have left : (if r.outstanding = some seq then none else r.outstanding) = none := by
    split
    · rfl
    · next other => exact last.resolve_right other
  unfold State.resolveRecord
  rw [h]
  dsimp only
  rw [left]
  rfl

theorem resolveRecord_free (last : r.outstanding = none ∨ r.outstanding = some seq) :
    (s.resolveRecord i seq none).slot i = none := by
  have lt := slot_lt h
  rw [resolveRecord_closes seq h none last]
  unfold State.closeRecord
  rw [setSlot_here lt]
  exact setSlot_here lt none

/-- The record of a RESTORE step's further frame (R135). -/
theorem resolveRecord_further (c : Nat) (last : r.outstanding = none ∨ r.outstanding = some seq) :
    ∃ y, (s.resolveRecord i seq (some c)).slot i = some y ∧ y.step = r.step ∧ y.frameIndex = r.frameIndex + 1 ∧ y.startChannel = c
      ∧ y.closing = false ∧ y.ready = y.attempts.head? ∧ y.attempts.length = 1 := by
  have lt := slot_lt h
  rw [resolveRecord_closes seq h (some c) last]
  unfold State.closeRecord
  rw [setSlot_here lt]
  exact ⟨_, openRecord_slot _ _ _ _ lt, rfl, rfl, rfl, rfl, rfl, rfl⟩
end

/-! ## Steps whose frames are finished, and steps that fail -/

/-- The entry of a step whose action is over (R132, R138). -/
def settledEntry (x : StepRecord) (later : BridgeTime) (e : StepEntry) : StepEntry :=
  { e with state := if x.settle = 0 then .done else .settling, settle := if x.settle = 0 then none else some later }

theorem settleStep_entry {n : Nat} (lt : n < 96) :
    (s.settleStep n).entry n = settledEntry (s.step n) (s.later ((s.step n).settle * 10)) (s.entry n) := by
  unfold State.settleStep settledEntry
  split
  · rw [setEntry_entry, if_pos ⟨rfl, lt⟩]
  · rw [setEntry_entry, if_pos ⟨rfl, lt⟩]

theorem acceptLast_entry {i n : Nat} (lt : n < 96) (seq : Byte) :
    (s.acceptLast i n seq).entry n = settledEntry (s.step n) (s.later ((s.step n).settle * 10)) (s.entry n) := by
  unfold State.acceptLast
  rw [entry_congr (resolveRecord_entries seq none)]
  exact settleStep_entry (s := s.startClock n) lt

theorem settleStep_slots (n : Nat) : (s.settleStep n).slots = s.slots := by
  unfold State.settleStep
  split <;> exact setEntry_slots ..

theorem finishFrames_slots (n : Nat) : (s.finishFrames n).slots = s.slots := settleStep_slots (s := s.startClock n) n

theorem follows_haltRun (n : Nat) : Follows s (s.haltRun n) := by
  unfold State.haltRun
  split
  · exact .rfl' s
  · have halted : Follows s { s with run := { s.run with halting := some n } } := follows_of_same rfl rfl
    exact halted.trans (follows_raise _ _)

theorem follows_propagate (n : Nat) : Follows s (s.propagate n) := by
  unfold State.propagate
  dsimp only
  split
  · exact follows_evaluateAll s
  · exact (((follows_evaluateAll s).trans (follows_haltRun n)).trans (follows_faultRequest _ _ _)).trans (follows_evaluateAll _)

/-- A step that fails: its entry, and its event (R139). -/
theorem failStep_failed {n : Nat} (lt : n < 96) (cause : FailureCause) (counted : cause ≠ .overBudget) (nak : Byte) :
    (s.failStep n cause nak).entry n = { s.entry n with state := .failed, cause := cause, nak := nak }
      ∧ (s.failStep n cause nak).isPending .stepFailed = true := by
  obtain ⟨u, hu⟩ : ∃ u, u = ((s.setEntry n { s.entry n with state := .failed, cause := cause, nak := nak }).startClock n).raise
      .stepFailed := ⟨_, rfl⟩
  have fails : s.failStep n cause nak = u.propagate n := by
    unfold State.failStep
    dsimp only
    rw [if_neg counted, hu]
  have entry : u.entry n = { s.entry n with state := .failed, cause := cause, nak := nak } := by
    rw [hu]
    exact (setEntry_entry s n n _).trans (if_pos ⟨rfl, lt⟩)
  have follows : Follows u (u.propagate n) := follows_propagate n
  rw [fails]
  refine ⟨(follows.terminal n (by rw [entry]; rfl)).trans entry, follows.pending _ ?_⟩
  rw [hu]
  exact raise_isPending _ _

/-! ## A slot that no cancellation changes -/

section
variable {i : Nat} (kept : cancelled (s.slot i) = s.slot i)
include kept

theorem cancelRecordOf_kept (a n : Nat) : (s.cancelRecordOf a n).slot i = s.slot i := by
  have record : ∀ j, (s.cancelRecord j).slot i = s.slot i := fun j => by
    rw [cancelRecord_slot]
    split
    · exact kept
    · rfl
  unfold State.cancelRecordOf
  split
  · split
    · split
      · exact record _
      · rfl
    · rfl
  · rfl

theorem leaveStep_kept (a : Nat) (d : Bool) (n : Nat) : (State.leaveStep a d s n).slot i = s.slot i := by
  unfold State.leaveStep
  split
  · exact slot_congr (setEntry_slots ..) i
  · exact slot_congr (setEntry_slots ..) i
  · have skipped : (s.setStepState n .skipped).slot i = s.slot i := slot_congr (setEntry_slots ..) i
    exact (cancelRecordOf_kept (s := s.setStepState n .skipped) (by rw [skipped]; exact kept) a n).trans skipped
  · split
    · rfl
    · exact slot_congr (setEntry_slots ..) i
  · rfl

theorem leaveRun_kept (a : Nat) (d : Bool) : (s.leaveRun a d).slot i = s.slot i := by
  have left : (s.updateStation a (fun r => { r with member := false })).slot i = s.slot i := slot_congr (updateStation_slots ..) i
  unfold State.leaveRun State.leaveSteps
  dsimp only
  split
  · exact foldl_kept (fun t : State => t.slot i = s.slot i) _ _
      (fun t n _ same => (leaveStep_kept (s := t) (by rw [same]; exact kept) a d n).trans same) _ left
  · exact left

theorem faultRequest_kept (a : Nat) (c : FaultCause) : (s.faultRequest a c).slot i = s.slot i := by
  have update : ∀ g : StationRecord → StationRecord, (s.updateStation a g).slot i = s.slot i := fun g =>
    slot_congr (updateStation_slots ..) i
  have leaves : ∀ g : StationRecord → StationRecord, ((s.updateStation a g).leaveRun a false).slot i = s.slot i := fun g =>
    (leaveRun_kept (s := s.updateStation a g) (by rw [update]; exact kept) a false).trans (update g)
  unfold State.faultRequest
  split
  · exact update _
  iterate 2
    · split
      · exact leaves _
      · exact leaves _
  · split
    · rfl
    · exact leaves _
  all_goals rfl

theorem failStep_kept (n : Nat) (cause : FailureCause) (nak : Byte) : (s.failStep n cause nak).slot i = s.slot i := by
  have evaluated : ∀ t : State, t.evaluateAll.slots = t.slots := fun t =>
    foldl_keeps State.slots _ (fun s n => evaluate_slots (s := s) n) _ t
  have halted : ∀ t : State, (t.haltRun n).slots = t.slots := fun t => by
    unfold State.haltRun
    split <;> rfl
  unfold State.failStep State.propagate
  dsimp only
  generalize hu : State.raise _ _ = u
  have before : u.evaluateAll.slot i = s.slot i := by
    rw [slot_congr (evaluated u), ← hu]
    exact slot_congr (setEntry_slots ..) i
  split
  · exact before
  · have stands : (u.evaluateAll.haltRun n).slot i = s.slot i := (slot_congr (halted _) i).trans before
    rw [slot_congr (evaluated _)]
    exact (faultRequest_kept (s := u.evaluateAll.haltRun n) (by rw [stands]; exact kept) _ _).trans stands
end

/-! ## What a frame does to the record that absorbs it -/

section
variable {i : Nat} {r : InjectionRecord} {f : Frame} (slot : s.slot i = some r)
include slot

/-- A CLOSING record, or one in its re-poll wait, counts a late reply (R133, R136). -/
theorem absorb_waits (waits : r.closing = true ∨ r.repollWait = true) : s.absorb i f =
    if r.closing = true then (s.count .lateReplies).closeRecord i else s.count .lateReplies := by
  unfold State.absorb
  rw [slot]
  dsimp only
  split
  · rfl
  · next isOpen => rw [if_pos (waits.resolve_left isOpen)]

variable (waits : ¬ (r.closing = true ∨ r.repollWait = true))
include waits

theorem absorb_open : s.absorb i f = match (s.step r.step).action with
    | some .restore =>
      if f.kind = kindAck then s.acceptRestore i r f.seq
      else if f.kind = kindNak then s.refuse i r.step f
      else s
    | some .await => if f.kind = kindState then s.answerPoll i r f else s
    | _ =>
      if f.kind = kindAck then s.acceptLast i r.step f.seq
      else if f.kind = kindNak then s.refuse i r.step f
      else s := by
  unfold State.absorb
  rw [slot]
  dsimp only
  rw [if_neg fun k => waits (.inl k), if_neg fun k => waits (.inr k)] <;> rfl

theorem absorb_accepts (ack : f.kind = kindAck) (acts : (s.step r.step).action = some .fixedSet ∨ (s.step r.step).action = some .order) :
    s.absorb i f = s.acceptLast i r.step f.seq := by
  rw [absorb_open slot waits]
  rcases acts with x | x <;> rw [x] <;> exact if_pos ack

theorem absorb_refuses (nak : f.kind = kindNak) (acts : (s.step r.step).action = some .restore
    ∨ (s.step r.step).action = some .fixedSet ∨ (s.step r.step).action = some .order) : s.absorb i f = s.refuse i r.step f := by
  have noAck : f.kind ≠ kindAck := by rw [nak]; decide
  rw [absorb_open slot waits]
  rcases acts with x | x | x <;> rw [x] <;> exact (if_neg noAck).trans (if_pos nak)

theorem absorb_polls (state : f.kind = kindState) (acts : (s.step r.step).action = some .await) :
    s.absorb i f = s.answerPoll i r f := by
  rw [absorb_open slot waits, acts]
  exact if_pos state

theorem absorb_restores (ack : f.kind = kindAck) (acts : (s.step r.step).action = some .restore) {h : Nat}
    (built : r.builtHighest = some h) : s.absorb i f =
      if s.confirmedIn r.station (h + 1) (s.step r.step).last = [] then s.acceptLast i r.step f.seq
      else s.resolveRecord i f.seq (some (h + 1)) := by
  have next : s.nextStart r = (s, h + 1) := by
    unfold State.nextStart
    rw [built]
  rw [absorb_open slot waits, acts]
  refine (if_pos ack).trans ?_
  unfold State.acceptRestore
  rw [next]
  exact if_congr List.isEmpty_iff rfl rfl

/-- No other frame has an effect on the record (R131 to R133). -/
theorem absorb_ignores (idle : ((s.step r.step).action = some .await ∧ (f.kind = kindAck ∨ f.kind = kindNak))
    ∨ (f.kind ≠ kindAck ∧ f.kind ≠ kindNak ∧ f.kind ≠ kindState)) : s.absorb i f = s := by
  rw [absorb_open slot waits]
  rcases idle with ⟨await, answer⟩ | ⟨noAck, noNak, noState⟩
  · have noState : f.kind ≠ kindState := by rcases answer with k | k <;> rw [k] <;> decide
    rw [await]
    exact if_neg noState
  · split
    · exact (if_neg noAck).trans (if_neg noNak)
    · exact if_neg noState
    · exact (if_neg noAck).trans (if_neg noNak)
end

theorem inRange_iff (x : StepRecord) (payload : List Byte) : x.inRange payload = true ↔
    ∃ v, pointValue payload x.awaitChannel = some v ∧ x.low ≤ v ∧ v ≤ x.high := by
  unfold StepRecord.inRange
  cases pointValue payload x.awaitChannel <;> simp

theorem inRange_false (x : StepRecord) (payload : List Byte) (h : ∀ v, pointValue payload x.awaitChannel = some v →
    v < x.low ∨ x.high < v) : x.inRange payload = false := by
  rw [Bool.eq_false_iff, ne_eq, inRange_iff]
  rintro ⟨v, value, low, high⟩
  rcases h v value with k | k <;> omega

/-! ## The taps before the absorption (R25) -/

/-- What the taps leave of what the absorption reads: the steps and their entries but for their states, and the records. -/
structure Tapped (s : State) (f : Frame) (y : State) : Prop where
  plan     : y.plan = s.plan
  now      : y.bridgeTime = s.bridgeTime
  counters : y.counters = s.counters
  passUp   : y.passUp = s.passUp
  wireF    : y.wireF = s.wireF
  wireS    : y.wireS = s.wireS
  records  : SlotsTurn s y
  entries  : EntriesTurn s y
  acked    : f.kind = kindAck → y.points = (s.confirmPoints f.station f.seq).points
  quiet    : s.meterReading f = none → ∃ x p, y = State.receiving { s with points := p } x

theorem meterReading_kind {f : Frame} (h : f.kind ≠ kindState) : s.meterReading f = none := by
  unfold State.meterReading
  simp [h]

theorem tapped_upTaps (f : Frame) (x : PortState) : Tapped s f ((s.receiving x).upTaps f) := by
  have plain : ∀ p, Tapped s f (State.receiving { s with points := p } x) ∨ (f.kind = kindAck) := fun p => by
    by_cases ack : f.kind = kindAck
    · exact .inr ack
    · exact .inl ⟨rfl, rfl, rfl, rfl, rfl, rfl, slotsTurn_of_same rfl, entriesTurn_of_same rfl, fun k => absurd k ack,
        fun _ => ⟨x, p, rfl⟩⟩
  have reading : (s.receiving x).meterReading f = s.meterReading f := by
    unfold State.meterReading State.seenListed State.listed
    rw [station_receiving]
    rfl
  unfold State.upTaps
  split
  · exact ⟨rfl, rfl, rfl, rfl, rfl, rfl, slotsTurn_of_same rfl, entriesTurn_of_same rfl, fun _ => rfl, fun _ => ⟨x, _, rfl⟩⟩
  · next noAck =>
    split
    · exact (plain _).resolve_right noAck
    · rw [reading]
      cases meter : s.meterReading f with
      | none => exact (plain s.points).resolve_right noAck
      | some m =>
        obtain ⟨feed, v⟩ := m
        dsimp only
        have shape : ∃ p q l, (s.receiving x).takeReading feed v = { s.receiving x with feedA := p, feedB := q, contributions := l } := by
          unfold State.takeReading
          dsimp only
          split <;> cases feed <;> exact ⟨_, _, _, rfl⟩
        obtain ⟨p, q, l, shape⟩ := shape
        have slots : ((s.receiving x).takeReading feed v).slots = s.slots := by rw [shape]; rfl
        have entries : ((s.receiving x).takeReading feed v).entries = s.entries := by rw [shape]; rfl
        refine ⟨?_, ?_, ?_, ?_, ?_, ?_, (slotsTurn_of_same slots).trans (slotsTurn_followUp true _),
          (entriesTurn_of_same entries).trans (entriesTurn_followUp true _), fun k => absurd k noAck,
          fun k => absurd (meter.symm.trans k) (by simp)⟩
        · rw [settle_plan, shape]
          rfl
        · rw [settle_bridgeTime, shape]
          rfl
        · rw [settle_counters, shape]
          rfl
        · rw [settle_passUp, shape]
          rfl
        · rw [settle_wireF, shape]
          rfl
        · rw [settle_wireS, shape]
          rfl

theorem acceptLast_core (i n : Nat) (seq : Byte) : (s.acceptLast i n seq).core = s.core :=
  (resolveRecord_core ..).trans (finishFrames_core s n)

theorem refuse_core (i n : Nat) (f : Frame) : (s.refuse i n f).core = s.core :=
  (failStep_core ..).trans (resolveRecord_core ..)

theorem answerPoll_core (i : Nat) (r : InjectionRecord) (f : Frame) : (s.answerPoll i r f).core = s.core := by
  unfold State.answerPoll
  dsimp only
  split
  · exact acceptLast_core ..
  · split
    · rfl
    · exact (failStep_core ..).trans (resolveRecord_core ..)

theorem acceptRestore_core (i : Nat) (r : InjectionRecord) (seq : Byte) :
    ∃ k, (s.acceptRestore i r seq).core = { s.core with freeCount := k } := by
  have either : ∀ (t : State) c, t.core = { s.core with freeCount := t.freeCount } →
      (if (t.confirmedIn r.station c (t.step r.step).last).isEmpty then t.acceptLast i r.step seq
        else t.resolveRecord i seq (some c)).core = { s.core with freeCount := t.freeCount } := fun t c same => by
    split
    · exact (acceptLast_core ..).trans same
    · exact (resolveRecord_core ..).trans same
  unfold State.acceptRestore State.nextStart
  cases r.builtHighest with
  | some h => exact ⟨_, either s (h + 1) rfl⟩
  | none => exact ⟨_, either s.drawFree _ rfl⟩

/-- The absorption by a record that awaits a reply writes nothing of the counters, the ports' queues and the wires. -/
theorem absorb_core {i : Nat} {r : InjectionRecord} {f : Frame} (slot : s.slot i = some r)
    (waits : ¬ (r.closing = true ∨ r.repollWait = true)) : ∃ k, (s.absorb i f).core = { s.core with freeCount := k } := by
  have same : ∀ t : State, t.core = s.core → ∃ k, t.core = { s.core with freeCount := k } := fun t h => ⟨s.freeCount, h.trans rfl⟩
  rw [absorb_open slot waits]
  split
  · split
    · exact acceptRestore_core ..
    · split
      · exact same _ (refuse_core ..)
      · exact same _ rfl
  · split
    · exact same _ (answerPoll_core ..)
    · exact same _ rfl
  · split
    · exact same _ (acceptLast_core ..)
    · split
      · exact same _ (refuse_core ..)
      · exact same _ rfl

/-- The arrival of a station frame that a record absorbs, while the F-port sends: the taps, the absorption, the follow-up. -/
theorem absorbed_arrival {f : Frame} {i : Nat} {r : InjectionRecord} (busy : s.FBusy) (valid : validStation f.station = true)
    (kind : f.kind ≠ kindHello) (found : s.matchSlot f = some i) (slot : s.slot i = some r) :
    ∃ y v : State, Tapped s f y ∧ exec (.fFrameArrival f) s = .next ((y.settleFrom (y.absorb i f)).upward v)
      ∧ (s.SBusy → v.passUp = s.passUp) := by
  obtain ⟨y, hy⟩ : ∃ y, y = (s.receiving s.portF.endFrame).upTaps f := ⟨_, rfl⟩
  have tapped : Tapped s f y := hy ▸ tapped_upTaps f _
  obtain ⟨t, ht⟩ : ∃ t, t = y.settleFrom (y.absorb i f) := ⟨_, rfl⟩
  have slotY := tapped.records.kept i r slot
  have keeps {α : Type} (g : State → α) (core : ∀ u : State, g u.core = g u) (free : ∀ (u : State) k, g { u with freeCount := k } = g u)
      (counts : ∀ u : State, g (u.count .lateReplies) = g u) : g t = g y := by
    rw [ht, ← core, settleFrom_core, core]
    by_cases waits : r.closing = true ∨ r.repollWait = true
    · rw [absorb_waits slotY waits]
      split
      · rw [← core, closeRecord_core, core, counts]
      · exact counts y
    · obtain ⟨k, shape⟩ := absorb_core (f := f) slotY waits
      rw [← core, shape, free, core]
  have wireF : t.wireF = s.wireF := (keeps State.wireF core_wireF (fun _ _ => rfl) (fun u => by rw [count_eq])).trans tapped.wireF
  have wireS : t.wireS = s.wireS := (keeps State.wireS core_wireS (fun _ _ => rfl) (fun u => by rw [count_eq])).trans tapped.wireS
  have passUp : t.passUp = s.passUp :=
    (keeps State.passUp core_passUp (fun _ _ => rfl) (fun u => by rw [count_eq])).trans tapped.passUp
  have arrives : exec (.fFrameArrival f) s = .next (s.close t) := by
    show Host.Outcome.next (s.close ((s.receiving s.portF.endFrame).fArrival f)) = _
    unfold State.fArrival
    rw [if_neg (by simp [valid]), if_neg kind, show (s.receiving s.portF.endFrame).matchSlot f = some i from found, ← hy, ht]
    rfl
  obtain ⟨v, closed, up⟩ := close_upward (s := s) (t := t) (by unfold State.FBusy; rw [wireF]; exact busy)
  refine ⟨y, v, tapped, by rw [arrives, closed, ht], fun sends => ?_⟩
  rw [(up (by unfold State.SBusy; rw [wireS]; exact sends)).2.1]
  exact passUp

theorem grantMoment_self : s.grantMoment s = false := by
  have closed : ∀ i, s.recordClosed s i = false := fun i => by
    unfold State.recordClosed
    cases s.slot i <;> simp
  simp [State.grantMoment, closed]

/-- Settles O28: the taps, then the absorption by the record's state, the action and the frame kind; the follow-up leaves the record
and the steps that are over. -/
theorem absorbedRepliesAct : Obligations.AbsorbedRepliesAct := by
  unfold Obligations.AbsorbedRepliesAct
  intro s f i r busy valid kind found slot lt x e waits finishes refused outside left
  obtain ⟨y, v, tapped, arrives, up⟩ := absorbed_arrival busy valid kind found slot
  obtain ⟨z, hz⟩ : ∃ z, z = y.absorb i f := ⟨_, rfl⟩
  obtain ⟨t, ht⟩ : ∃ t, t = y.settleFrom z := ⟨_, rfl⟩
  rw [← hz, ← ht] at arrives
  have slotY : y.slot i = some r := tapped.records.kept i r slot
  have inRange : i < 8 := slot_lt slot
  have steps : ∀ n, y.step n = s.step n := fun n => by simp [State.step, tapped.plan]
  have action : (y.step r.step).action = x.action := by rw [steps]
  have later : ∀ k, y.later k = s.later k := fun k => by simp [State.later, tapped.now]
  have entryY : EntryTurn e (y.entry r.step) := tapped.entries r.step
  have records : SlotsTurn z t := ht ▸ slotsTurn_followUp _ z
  have follows : Follows z t := ht ▸ follows_settleFrom y z
  have confirmed : f.kind = kindAck → ∀ h, y.confirmedIn r.station (h + 1) (y.step r.step).last = left h := fun ack h => by
    unfold State.confirmedIn
    rw [tapped.acked ack, steps]
    rfl
  have slotT : ∀ q, (t.upward v).slot q = t.slot q := fun q => rfl
  have core_counters' : ∀ c, z.core = { y.core with freeCount := c } → t.counters = s.counters := fun c shape => by
    rw [ht, settleFrom_counters, ← core_counters, shape]
    exact tapped.counters
  -- the frames of the step are finished
  have accepts : ¬ waits → finishes → z = y.acceptLast i r.step f.seq := fun idle fin => by
    rw [hz]
    rcases fin with ⟨ack, acts⟩ | ⟨state, acts, value⟩ | ⟨ack, acts, h, built, none⟩
    · exact absorb_accepts slotY idle ack (by rw [action]; exact acts)
    · rw [absorb_polls slotY idle state (action.trans acts)]
      unfold State.answerPoll
      dsimp only
      rw [steps]
      exact if_pos ((inRange_iff _ _).2 value)
    · rw [absorb_restores slotY idle ack (action.trans acts) built, confirmed ack]
      exact if_pos none
  have refuses : ¬ waits → refused → z = (y.resolveRecord i f.seq none).failStep r.step .refused (f.payload.getD 0 0) :=
    fun idle ⟨nak, acts⟩ => hz.trans (absorb_refuses slotY idle nak (by rw [action]; exact acts))
  have answers : ¬ waits → outside → z = if r.pollCount < x.pollLimit
      then y.setSlot i (some { r with ready := none, outstanding := none, repollWait := true
                                      deadline := some (y.later Config.repollUnits) })
      else (y.resolveRecord i f.seq none).failStep r.step .outOfRange 0 := fun idle ⟨state, acts, out⟩ => by
    rw [hz, absorb_polls slotY idle state (action.trans acts)]
    unfold State.answerPoll
    dsimp only
    rw [steps, inRange_false _ _ out]
    rfl
  have restores : ¬ waits → f.kind = kindAck → x.action = some .restore → ∀ h, r.builtHighest = some h → left h ≠ [] →
      z = y.resolveRecord i f.seq (some (h + 1)) := fun idle ack acts h built more => by
    rw [hz, absorb_restores slotY idle ack (action.trans acts) built, confirmed ack]
    exact if_neg more
  -- what stands in the slot once the frame is resolved
  have resolvedSlot : ∀ u : State, u.slots = y.slots → ∀ n c b (w : State),
      (w = u.resolveRecord i f.seq none ∨ w = (u.resolveRecord i f.seq none).failStep n c b) →
      (∀ q, r.outstanding = some q → q ≠ f.seq → w.slot i = some { r with closing := true, ready := none, further := none })
        ∧ (r.outstanding = none ∨ r.outstanding = some f.seq → w.slot i = none) := fun u same n c b w shape => by
    have slotU : u.slot i = some r := (slot_congr same i).trans slotY
    have through : ∀ o, cancelled o = o → (u.resolveRecord i f.seq none).slot i = o → w.slot i = o := fun o kept before => by
      rcases shape with rfl | rfl
      · exact before
      · exact (failStep_kept (by rw [before]; exact kept) _ _ _).trans before
    exact ⟨fun q out other => through _ rfl (resolveRecord_later f.seq slotU none out other),
      fun last => through none rfl (resolveRecord_free f.seq slotU last)⟩
  have resolves : ¬ waits → finishes ∨ refused ∨ (outside ∧ x.pollLimit ≤ r.pollCount) →
      (∀ q, r.outstanding = some q → q ≠ f.seq → z.slot i = some { r with closing := true, ready := none, further := none })
        ∧ (r.outstanding = none ∨ r.outstanding = some f.seq → z.slot i = none) := fun idle k => by
    rcases k with fin | ref | ⟨out, limit⟩
    · exact resolvedSlot (y.finishFrames r.step) (finishFrames_slots _) 0 .none 0 z (.inl (accepts idle fin))
    · exact resolvedSlot y rfl _ _ _ z (.inr (refuses idle ref))
    · exact resolvedSlot y rfl _ _ _ z (.inr ((answers idle out).trans (if_neg (by omega))))
  have failed : ∀ (cause : FailureCause) (nak : Byte), cause ≠ .overBudget →
      z = (y.resolveRecord i f.seq none).failStep r.step cause nak →
      t.entry r.step = { y.entry r.step with state := .failed, cause := cause, nak := nak } ∧ t.isPending .stepFailed = true :=
    fun cause nak counts shape => by
      obtain ⟨entry, pending⟩ := failStep_failed (s := y.resolveRecord i f.seq none) lt cause counts nak
      rw [← shape] at entry pending
      rw [entry_congr (resolveRecord_entries f.seq none)] at entry
      exact ⟨(follows.terminal _ (by rw [entry]; rfl)).trans entry, follows.pending _ pending⟩
  refine ⟨_, arrives, up, fun w => ?late, fun idle => ?counters, fun closing => ?closes, fun idle fin => ?finished,
    fun idle ref => ?refused, fun idle out => ⟨fun more => ?waits, fun limit => ?outOfRange⟩,
    fun idle ack acts last h built more => ?further, fun idle k => ⟨fun q out other => ?later, fun last => ?free⟩,
    fun idle ack acts q out other h built more => ?laterFurther, fun idle other => ?ignored⟩
  case late =>
    have shape := absorb_waits (f := f) slotY w
    have counters : t.counters = (y.count .lateReplies).counters := by
      rw [ht, settleFrom_counters, hz, shape]
      split
      · rw [← core_counters, closeRecord_core, core_counters]
      · rfl
    intro c
    show t.counter c = _
    have before : y.counter c = s.counter c := by simp [State.counter, tapped.counters]
    rw [← before, ← count_counted]
    simp [State.counter, counters]
  case counters =>
    obtain ⟨c, shape⟩ := absorb_core (f := f) slotY idle
    exact core_counters' c (hz ▸ shape)
  case closes =>
    intro q h
    have fresh := records.keepsFresh (i := i) (fun q h => by
      rw [hz, absorb_waits slotY (.inl closing), if_pos closing] at h
      exact closeRecord_fresh q h) q h
    exact ⟨fresh.isOpen, fresh.unsent⟩
  case finished =>
    have entry : z.entry r.step = settledEntry x (s.later (x.settle * 10)) (y.entry r.step) := by
      rw [accepts idle fin, acceptLast_entry lt, steps, later]
    have same : settledEntry x (s.later (x.settle * 10)) (y.entry r.step) = settledEntry x (s.later (x.settle * 10)) e := by
      unfold settledEntry
      rw [entryY.cause, entryY.nak, entryY.attempts]
    have kept : t.entry r.step = z.entry r.step := by
      by_cases zero : x.settle = 0
      · refine follows.terminal _ ?_
        rw [entry, settledEntry, if_pos zero]
        rfl
      · rw [ht]
        refine followUp_settling _ _ ?_
        rw [entry, settledEntry, if_neg zero]
    exact kept.trans (entry.trans same)
  case refused =>
    obtain ⟨entry, pending⟩ := failed _ _ (by decide) (refuses idle ref)
    have entry : (t.upward v).entry r.step = _ := entry
    rw [entry]
    exact ⟨rfl, rfl, rfl, entryY.attempts, pending⟩
  case waits =>
    refine records.kept i _ ?_
    rw [answers idle out, if_pos more, setSlot_here inRange, later]
    rfl
  case outOfRange =>
    obtain ⟨entry, pending⟩ := failed _ _ (by decide) ((answers idle out).trans (if_neg (by omega)))
    have entry : (t.upward v).entry r.step = _ := entry
    rw [entry]
    exact ⟨rfl, rfl, pending⟩
  case further =>
    obtain ⟨w, here, facts⟩ := resolveRecord_further f.seq slotY (h + 1) last
    exact ⟨w, records.kept i w (by rw [restores idle ack acts h built more]; exact here), facts⟩
  case later => exact records.kept i _ ((resolves idle k).1 q out other)
  case free =>
    intro q h
    have fresh := records.fresh i q ((resolves idle k).2 last) h
    exact ⟨fresh.isOpen, fresh.unsent⟩
  case laterFurther =>
    refine records.kept i _ ?_
    rw [restores idle ack acts h built more]
    exact resolveRecord_later f.seq slotY _ out other
  case ignored =>
    have noMeter : s.meterReading f = none := by
      rcases other with ⟨-, k⟩ | ⟨-, -, k⟩
      · exact meterReading_kind (by rcases k with k | k <;> rw [k] <;> decide)
      · exact meterReading_kind k
    obtain ⟨p, points, shape⟩ := tapped.quiet noMeter
    have nothing : z = y := by
      rw [hz]
      refine absorb_ignores slotY idle ?_
      rw [action]
      exact other
    have follow : t = (State.followUp false { s with points := points }).receiving p := by
      rw [ht, nothing, State.settleFrom, grantMoment_self, shape, receiving_followUp]
    have same : (t.upward v).points = points := by
      rw [follow]
      exact followUp_points false { s with points := points }
    rw [same, follow]
    exact ⟨⟨rfl, rfl, rfl, rfl, rfl, rfl⟩, rfl, rfl⟩

end Sys2Proof.Machine
end

section
/-! SUPPORT. The choice of the F-port's arbiter (R30 to R32, R71): its order, the frames it sends, and the turns that an empty build
takes (log 11). -/

namespace Sys2Proof.Machine

variable {s : State}

/-! ## The choice (R30) -/

theorem headAlert_false (h : ∀ g, s.passDown.head? = some g → g.kind ≠ kindAlert) : s.headAlert = false := by
  unfold State.headAlert
  cases head : s.passDown.head? with
  | none => rfl
  | some g => exact decide_eq_false (h g head)

theorem drainChoice_none (h : s.drainOffers = []) : s.drainChoice = none := by
  unfold State.drainChoice
  rw [h]
  rfl

section
variable (noAlert : ∀ g, s.passDown.head? = some g → g.kind ≠ kindAlert)
include noAlert

theorem fChoice_reserve (h : s.alertReserve.isSome = true) : s.fChoice = some .alertReserve := by
  rw [fChoice_eq, headAlert_false noAlert, if_neg Bool.false_ne_true, if_pos h]

variable (noReserve : s.alertReserve = none)
include noReserve

section
variable (guard : s.drainGuard < 4 ∨ s.drainOffers = [])
include guard

omit noAlert noReserve in
/-- With the guard low, or nothing to drain, no drain frame is due. -/
theorem fChoice_undue : (decide (4 ≤ s.drainGuard) && s.drainChoice.isSome) = false := by
  rcases guard with low | none
  · simp [Nat.not_le.2 low]
  · simp [drainChoice_none none]

theorem fChoice_injects {i : Nat} (h : s.injectionChoice = some i) : s.fChoice = some (.injection i) := by
  rw [fChoice_eq, headAlert_false noAlert, if_neg Bool.false_ne_true, if_neg (by rw [noReserve]; decide),
    fChoice_undue guard, if_neg Bool.false_ne_true]
  simp [h]

theorem fChoice_passes (noRecord : s.injectionChoice = none) (fifo : s.passDown ≠ []) : s.fChoice = some .pass := by
  rw [fChoice_eq, headAlert_false noAlert, if_neg Bool.false_ne_true, if_neg (by rw [noReserve]; decide),
    fChoice_undue guard, if_neg Bool.false_ne_true]
  simp [noRecord, fifo]
end

theorem fChoice_drains {a : Nat} (choice : s.drainChoice = some a)
    (turn : 4 ≤ s.drainGuard ∨ (s.injectionChoice = none ∧ s.passDown = [])) : s.fChoice = some (.drain a) := by
  rw [fChoice_eq, headAlert_false noAlert, if_neg Bool.false_ne_true, if_neg (by rw [noReserve]; decide), choice]
  split
  · rfl
  · next due =>
    rcases turn with full | ⟨noRecord, empty⟩
    · exact absurd (by simp [full]) due
    · rw [noRecord, empty]
      rfl
end

/-! ## The record chosen among the injections (R30) -/

/-- The lower step number of two, the first at a tie. -/
def State.lower (s : State) (best : Option Nat) (i : Nat) : Option Nat :=
  match best with
  | none => some i
  | some j => if s.slotStep i < s.slotStep j then some i else some j

theorem foldl_lower (l : List Nat) (best : Option Nat) (i : Nat) (h : l.foldl s.lower best = some i) :
    (i ∈ l ∨ best = some i) ∧ (∀ j ∈ l, s.slotStep i ≤ s.slotStep j) ∧ ∀ j, best = some j → s.slotStep i ≤ s.slotStep j := by
  induction l generalizing best with
  | nil => exact ⟨.inr h, by simp, fun j k => by cases h.symm.trans k; exact Nat.le_refl _⟩
  | cons k l ih =>
    obtain ⟨mem, below, first⟩ := ih _ h
    cases best with
    | none =>
      have lowest := first k rfl
      refine ⟨.inl ?_, fun j at_l => ?_, fun j none => by cases none⟩
      · rcases mem with mem | mem
        · exact List.mem_cons_of_mem _ mem
        · cases mem
          exact List.mem_cons_self
      · rcases List.mem_cons.1 at_l with rfl | at_l
        · exact lowest
        · exact below j at_l
    | some b =>
      by_cases less : s.slotStep k < s.slotStep b
      · have step : s.lower (some b) k = some k := if_pos less
        rw [step] at mem first
        have lowest := first k rfl
        refine ⟨.inl ?_, fun j at_l => ?_, fun j same => by cases same; omega⟩
        · rcases mem with mem | mem
          · exact List.mem_cons_of_mem _ mem
          · cases mem
            exact List.mem_cons_self
        · rcases List.mem_cons.1 at_l with rfl | at_l
          · exact lowest
          · exact below j at_l
      · have step : s.lower (some b) k = some b := if_neg less
        rw [step] at mem first
        have lowest := first b rfl
        refine ⟨mem.imp (List.mem_cons_of_mem _) id, fun j at_l => ?_, fun j same => by cases same; exact lowest⟩
        rcases List.mem_cons.1 at_l with rfl | at_l
        · omega
        · exact below j at_l

theorem injectionChoice_lowest {i : Nat} (h : s.injectionChoice = some i) :
    s.offersInjection i = true ∧ ∀ j, j < 8 → s.offersInjection j = true → s.slotStep i ≤ s.slotStep j := by
  obtain ⟨mem, below, -⟩ := foldl_lower (s := s) (slotNumbers.filter s.offersInjection) none i h
  have offered := mem.resolve_right (by simp)
  exact ⟨(List.mem_filter.1 offered).2, fun j lt offers => below j (List.mem_filter.2 ⟨by simpa [slotNumbers] using lt, offers⟩)⟩

/-! ## The rotation of the drains (R31) -/

theorem drainOffers_ascending : s.drainOffers.Pairwise (· < ·) := by
  have numbers : stationNumbers.Pairwise (· < ·) := by
    unfold stationNumbers
    exact List.pairwise_lt_range'
  exact numbers.filter _

theorem find_le {l : List Nat} (ascending : l.Pairwise (· < ·)) {p : Nat → Bool} {a : Nat} (h : l.find? p = some a) :
    ∀ b ∈ l, p b = true → a ≤ b := by
  induction l with
  | nil => cases h
  | cons c l ih =>
    obtain ⟨low, rest⟩ := List.pairwise_cons.1 ascending
    intro b mem holds
    by_cases here : p c = true
    · rw [List.find?_cons_of_pos here] at h
      cases h
      rcases List.mem_cons.1 mem with rfl | mem
      · exact Nat.le_refl _
      · exact (low b mem).le
    · rw [List.find?_cons_of_neg here] at h
      rcases List.mem_cons.1 mem with rfl | mem
      · exact absurd holds here
      · exact ih rest h b mem holds

theorem head_le {l : List Nat} (ascending : l.Pairwise (· < ·)) {a : Nat} (h : l.head? = some a) : ∀ b ∈ l, a ≤ b := by
  cases l with
  | nil => cases h
  | cons c l =>
    cases h
    intro b mem
    rcases List.mem_cons.1 mem with rfl | mem
    · exact Nat.le_refl _
    · exact ((List.pairwise_cons.1 ascending).1 b mem).le

theorem drainChoice_rotates {a : Nat} (h : s.drainChoice = some a) :
    (s.lastDrain < a ∧ ∀ b ∈ s.drainOffers, s.lastDrain < b → a ≤ b)
      ∨ ((∀ b ∈ s.drainOffers, b ≤ s.lastDrain) ∧ ∀ b ∈ s.drainOffers, a ≤ b) := by
  unfold State.drainChoice at h
  split at h
  · next c found =>
    cases h
    exact .inl ⟨by simpa using List.find?_some found, fun b mem above =>
      find_le drainOffers_ascending found b mem (decide_eq_true above)⟩
  · next none =>
    refine .inr ⟨fun b mem => ?_, head_le drainOffers_ascending h⟩
    have := List.find?_eq_none.1 none b mem
    simpa using this

/-! ## One turn of the arbiter -/

theorem fArbiter_free (free : s.wireF = none) : s.fArbiter = s.fChoose 128 := by
  unfold State.fArbiter
  rw [free]
  rfl

section
variable (k : Nat)

theorem fChoose_alert (h : s.fChoice = some .alertHead) : s.fChoose (k + 1) = s.sendHead .alert s.drainGuard := by
  unfold State.fChoose
  rw [h]

theorem fChoose_reserve (h : s.fChoice = some .alertReserve) : s.fChoose (k + 1) = s.sendReserve := by
  unfold State.fChoose
  rw [h]

theorem fChoose_pass (h : s.fChoice = some .pass) : s.fChoose (k + 1) = s.sendHead .pass s.guardAfterOther := by
  unfold State.fChoose
  rw [h]

theorem fChoose_drain {a : Nat} (h : s.fChoice = some (.drain a)) : s.fChoose (k + 1) = s.sendDrain a := by
  unfold State.fChoose
  rw [h]

theorem fChoose_injection {i : Nat} {r : InjectionRecord} {q : Byte} (h : s.fChoice = some (.injection i)) (slot : s.slot i = some r)
    (ready : r.ready = some q) :
    s.fChoose (k + 1) = if s.emptyBuild r then (s.finishEmpty i r).fChoose k else s.sendInjection i r q := by
  conv_lhs => unfold State.fChoose
  rw [h]
  dsimp only
  rw [slot]
  dsimp only
  rw [ready]
end

theorem sendHead_eq {f : Frame} {rest : List Frame} (h : s.passDown = f :: rest) (x : FSource) (g : Nat) :
    s.sendHead x g = { s with passDown := rest, wireF := some { frame := f, source := x }, drainGuard := g } := by
  unfold State.sendHead
  rw [h]

theorem guardAfterOther_eq : s.guardAfterOther = if s.drainOffers = [] then 0 else min 4 (s.drainGuard + 1) := by
  unfold State.guardAfterOther
  exact if_congr List.isEmpty_iff rfl rfl

theorem emptyBuild_iff (r : InjectionRecord) : s.emptyBuild r = true ↔ (s.step r.step).action = some .restore
    ∧ s.confirmedIn r.station r.startChannel (s.step r.step).last = [] := by
  simp [State.emptyBuild]

/-! ## The turns of empty builds (R71, log 11) -/

/-- The steps that wait to be evaluated or to act. -/
def State.waiting (s : State) : Finset Nat :=
  (Finset.range 96).filter (fun n => (s.entry n).state = .pending ∨ (s.entry n).state = .awaiting)

/-- The slots whose record offers a frame. -/
def State.offering (s : State) : Finset Nat := (Finset.range 8).filter (fun i => s.offersInjection i = true)

/-- What bounds the empty builds of one choice: an empty build takes one record from those that offer a frame, and a grant, which adds
one, takes one step from those that wait. -/
def State.turnsLeft (s : State) : Nat := s.waiting.card + s.offering.card

theorem turnsLeft_le (s : State) : s.turnsLeft ≤ 104 := by
  have waiting : s.waiting.card ≤ 96 := (Finset.card_filter_le _ _).trans (Finset.card_range 96).le
  have offering : s.offering.card ≤ 8 := (Finset.card_filter_le _ _).trans (Finset.card_range 8).le
  unfold State.turnsLeft
  omega

theorem offersInjection_congr {t : State} {i : Nat} (h : t.slot i = s.slot i) : t.offersInjection i = s.offersInjection i := by
  unfold State.offersInjection
  rw [h]

theorem waiting_subset {t : State} (h : EntriesTurn s t) : t.waiting ⊆ s.waiting := by
  intro n mem
  simp only [State.waiting, Finset.mem_filter] at mem ⊢
  exact ⟨mem.1, (h n).waits mem.2⟩

theorem turnsLeft_of_slots {t : State} (entries : EntriesTurn s t) (slots : t.slots = s.slots) : t.turnsLeft ≤ s.turnsLeft := by
  have offering : t.offering = s.offering :=
    Finset.filter_congr fun i _ => by rw [offersInjection_congr (slot_congr slots i)]
  unfold State.turnsLeft
  rw [offering]
  exact Nat.add_le_add_right (Finset.card_le_card (waiting_subset entries)) _

theorem turnsLeft_grant {i n : Nat} (eligible : s.eligible n = true) : (s.grant i n).turnsLeft ≤ s.turnsLeft := by
  have awaiting : (s.entry n).state = .awaiting := mayAct_awaiting n (eligible_mayAct eligible)
  have lt : n < 96 := by
    by_contra out
    have : s.entry n = .reset := by simp [State.entry, getAt, out]
    rw [this] at awaiting
    cases awaiting
  have waits : (s.grant i n).waiting ⊂ s.waiting := by
    refine Finset.ssubset_iff_subset_ne.2 ⟨waiting_subset (entriesTurn_grant n i eligible), fun same => ?_⟩
    have mem : n ∈ (s.grant i n).waiting := by
      rw [same]
      simp [State.waiting, lt, awaiting]
    simp [State.waiting, grant_entry, lt] at mem
  have offers : (s.grant i n).offering ⊆ insert i s.offering := fun j mem => by
    by_cases same : j = i
    · rw [same]
      exact Finset.mem_insert_self _ _
    · refine Finset.mem_insert_of_mem ?_
      simp only [State.offering, Finset.mem_filter] at mem ⊢
      rw [← offersInjection_congr (grant_slots n i j same)]
      exact mem
  have fewer := Finset.card_lt_card waits
  have more := (Finset.card_le_card offers).trans (Finset.card_insert_le i s.offering)
  unfold State.turnsLeft
  omega

/-- The follow-up leaves no more turns. -/
theorem turnsLeft_followUp (due : Bool) (s : State) : (State.followUp due s).turnsLeft ≤ s.turnsLeft :=
  followUp_turns (R := fun s t => t.turnsLeft ≤ s.turnsLeft) ⟨fun _ => Nat.le_refl _, fun _ _ _ h k => k.trans h,
    fun _ n => turnsLeft_of_slots (entriesTurn_evaluate n) (evaluate_slots n),
    fun _ n acts => turnsLeft_of_slots (entriesTurn_completeFrameless n acts) (completeFrameless_slots n acts),
    fun _ f => turnsLeft_of_slots (entriesTurn_of_same (markWait_keeps f).1) (markWait_keeps f).2.1,
    fun _ _ _ _ _ eligible => turnsLeft_grant eligible,
    fun _ o idle => turnsLeft_of_slots (entriesTurn_ended o) (ended_slots o idle)⟩ due s

/-- A chosen injection has its record, with an attempt ready. -/
theorem offers_record {i : Nat} (h : s.offersInjection i = true) :
    ∃ r q, s.slot i = some r ∧ r.ready = some q ∧ r.closing = false := by
  unfold State.offersInjection at h
  cases slot : s.slot i with
  | none =>
    rw [slot] at h
    cases h
  | some r =>
    rw [slot] at h
    simp only [Bool.and_eq_true, Bool.not_eq_true'] at h
    obtain ⟨q, ready⟩ := Option.isSome_iff_exists.1 h.2
    exact ⟨r, q, rfl, ready, h.1⟩

/-- What an empty build does before its follow-up: the record closed, the step's frames finished (R71). -/
def State.emptied (s : State) (i n : Nat) : State := (s.setSlot i none).finishFrames n

theorem finishEmpty_eq (i : Nat) (r : InjectionRecord) : s.finishEmpty i r = (s.emptied i r.step).settle := rfl

theorem emptied_slot (i n j : Nat) : (s.emptied i n).slot j = if j = i then none else s.slot j := by
  have written : (s.emptied i n).slot j = (s.setSlot i none).slot j := slot_congr (finishFrames_slots n) j
  rw [written, setSlot_slot]
  by_cases same : j = i
  · subst same
    rw [if_pos rfl]
    split
    · rfl
    · next out =>
      have out : ¬ j < 8 := fun lt => out ⟨rfl, lt⟩
      simp [State.slot, getAt, out]
  · rw [if_neg fun k => same k.1.symm, if_neg same]

theorem emptied_entry {n : Nat} (lt : n < 96) (i m : Nat) : (s.emptied i n).entry m =
    if m = n then settledEntry (s.step n) (s.later ((s.step n).settle * 10)) (s.entry n) else s.entry m := by
  by_cases same : m = n
  · subst same
    rw [if_pos rfl]
    exact settleStep_entry (s := (s.setSlot i none).startClock m) lt
  · rw [if_neg same]
    have other : ∀ (t : State) e, (t.setEntry n e).entry m = t.entry m := fun t e =>
      (setEntry_entry t n m e).trans (if_neg fun k => same k.1.symm)
    unfold State.emptied State.finishFrames State.settleStep
    split <;> exact other _ _

/-- An empty build leaves fewer turns (R71). -/
theorem turnsLeft_finishEmpty {i : Nat} {r : InjectionRecord} (offers : s.offersInjection i = true) :
    (s.finishEmpty i r).turnsLeft < s.turnsLeft := by
  obtain ⟨x, q, slot, -⟩ := offers_record offers
  have lt : i < 8 := slot_lt slot
  have fewer : (s.emptied i r.step).offering ⊂ s.offering := by
    refine Finset.ssubset_iff_subset_ne.2 ⟨fun j mem => ?_, fun same => ?_⟩
    · obtain ⟨range, offered⟩ := Finset.mem_filter.1 mem
      refine Finset.mem_filter.2 ⟨range, ?_⟩
      by_cases here : j = i
      · have free : (s.emptied i r.step).slot j = none := (emptied_slot i r.step j).trans (if_pos here)
        unfold State.offersInjection at offered
        rw [free] at offered
        cases offered
      · rw [← offersInjection_congr ((emptied_slot i r.step j).trans (if_neg here))]
        exact offered
    · have mem : i ∈ (s.emptied i r.step).offering := by
        rw [same]
        simp [State.offering, lt, offers]
      simp [State.offering, State.offersInjection, emptied_slot] at mem
  have waits : (s.emptied i r.step).waiting ⊆ s.waiting := fun n mem => by
    simp only [State.waiting, Finset.mem_filter] at mem ⊢
    refine ⟨mem.1, ?_⟩
    by_cases lt : r.step < 96
    · rw [emptied_entry lt] at mem
      by_cases here : n = r.step
      · rw [if_pos here] at mem
        refine absurd mem.2 ?_
        unfold settledEntry
        dsimp only
        split <;> simp
      · rw [if_neg here] at mem
        exact mem.2
    · have written : ∀ (t : State) e, (t.setEntry r.step e).entry n = t.entry n := fun t e => by
        rw [setEntry_entry, if_neg]
        rintro ⟨rfl, within⟩
        exact lt within
      have same : (s.emptied i r.step).entry n = s.entry n := by
        unfold State.emptied State.finishFrames State.settleStep
        split <;> exact written _ _
      rw [same] at mem
      exact mem.2
  have less := Finset.card_lt_card fewer
  have most := Finset.card_le_card waits
  have settled := turnsLeft_followUp true (s.emptied i r.step)
  rw [finishEmpty_eq]
  unfold State.settle
  unfold State.turnsLeft at settled ⊢
  omega

/-- One turn of the arbiter: an empty build, after which it chooses again, or the end. -/
theorem fChoose_turn (s : State) : (∃ i r, s.offersInjection i = true ∧ ∀ k, s.fChoose (k + 1) = (s.finishEmpty i r).fChoose k)
    ∨ ∃ t, ∀ k, s.fChoose (k + 1) = t := by
  cases choice : s.fChoice with
  | none =>
    refine .inr ⟨s, fun k => ?_⟩
    unfold State.fChoose
    rw [choice]
  | some c =>
    cases c with
    | alertHead => exact .inr ⟨_, fun k => fChoose_alert k choice⟩
    | alertReserve => exact .inr ⟨_, fun k => fChoose_reserve k choice⟩
    | pass => exact .inr ⟨_, fun k => fChoose_pass k choice⟩
    | drain a => exact .inr ⟨_, fun k => fChoose_drain k choice⟩
    | injection i =>
      have chosen : s.injectionChoice = some i := by
        have drains : s.drainChoice.map FChoice.drain ≠ some (.injection i) := fun k => by
          obtain ⟨b, -, same⟩ := Option.map_eq_some_iff.1 k
          cases same
        rw [fChoice_eq] at choice
        split at choice
        · cases choice
        · split at choice
          · cases choice
          · split at choice
            · exact absurd choice drains
            · split at choice
              · next j found =>
                cases choice
                exact found
              · split at choice
                · exact absurd choice drains
                · cases choice
      have offers := (injectionChoice_lowest chosen).1
      obtain ⟨r, q, slot, ready, -⟩ := offers_record offers
      have turn := fun k => fChoose_injection k choice slot ready
      by_cases empty : s.emptyBuild r = true
      · exact .inl ⟨i, r, offers, fun k => (turn k).trans (if_pos empty)⟩
      · exact .inr ⟨_, fun k => (turn k).trans (if_neg empty)⟩

/-- The fuel of the arbiter's choice is enough: more of it makes no difference. -/
theorem fChoose_fuel (k : Nat) (h : s.turnsLeft < k) : s.fChoose k = s.fChoose (k + 1) := by
  induction k generalizing s with
  | zero => omega
  | succ k ih =>
    rcases fChoose_turn s with ⟨i, r, offers, turn⟩ | ⟨t, ends⟩
    · have fewer := turnsLeft_finishEmpty (r := r) offers
      rw [turn, turn]
      exact ih (by omega)
    · rw [ends, ends]

/-! ## What the frames sent leave -/

theorem syncHead_shape (f : Feed) : s.syncHead f = { s with feedA := (s.syncHead f).feedA, feedB := (s.syncHead f).feedB } := by
  unfold State.syncHead
  dsimp only
  split
  · rfl
  · cases f <;> rfl

/-- A step entry written: the feeds' heads follow, and nothing else (R157). -/
theorem setEntry_shape (n : Nat) (e : StepEntry) : s.setEntry n e =
    { s with entries := (s.setEntry n e).entries, feedA := (s.setEntry n e).feedA, feedB := (s.setEntry n e).feedB } := by
  have heads : ∀ t : State, ∃ a b, t.syncHeads = { t with feedA := a, feedB := b } := fun t => by
    unfold State.syncHeads
    rw [syncHead_shape, syncHead_shape (s := t)]
    exact ⟨_, _, rfl⟩
  obtain ⟨a, b, shape⟩ := heads { s with entries := putAt s.entries n e }
  have shape : s.setEntry n e = { s with entries := putAt s.entries n e, feedA := a, feedB := b } := shape
  rw [shape]

theorem emptied_keeps (i n : Nat) : s.emptied i n = { s with
      slots := (s.emptied i n).slots, entries := (s.emptied i n).entries, contributions := (s.emptied i n).contributions
      feedA := (s.emptied i n).feedA, feedB := (s.emptied i n).feedB }
    ∧ (s.emptied i n).contributions = s.contributions.map (fun c => if c.step = n then { c with running := true } else c) := by
  have written : ∀ e, (((s.setSlot i none).startClock n).setEntry n e) = { s with
      slots := (((s.setSlot i none).startClock n).setEntry n e).slots
      entries := (((s.setSlot i none).startClock n).setEntry n e).entries
      contributions := (((s.setSlot i none).startClock n).setEntry n e).contributions
      feedA := (((s.setSlot i none).startClock n).setEntry n e).feedA
      feedB := (((s.setSlot i none).startClock n).setEntry n e).feedB }
      ∧ (((s.setSlot i none).startClock n).setEntry n e).contributions
        = s.contributions.map (fun c => if c.step = n then { c with running := true } else c) := fun e => by
    refine ⟨?_, (setEntry_contributions ..).trans (startClock_contributions n)⟩
    rw [setEntry_shape]
    rfl
  unfold State.emptied State.finishFrames State.settleStep
  split
  · exact written _
  · exact written _

theorem emptied_ground (i n : Nat) : SameGround s (s.emptied i n) := by
  refine sameGround_of_core (finishFrames_core _ n) ?_
  rw [(emptied_keeps i n).1]

/-- A drain frame is sent (R31, R88). -/
theorem sendDrain_sends {a : Nat} {f : Frame} {rest : List Frame} (valid : validStation a = true) (queue : s.queue a = f :: rest) :
    (s.sendDrain a).wireF = some { frame := f, source := .drain } ∧ (s.sendDrain a).drainGuard = 0 ∧ (s.sendDrain a).lastDrain = a
      ∧ (s.sendDrain a).queue a = rest := by
  have taken : (s.drained a f rest).queue a = rest := (drained_queue a f rest a).trans (if_pos ⟨rfl, valid⟩)
  have core : (s.sendDrain a).core = (s.drained a f rest).core := by
    rw [sendDrain_eq queue]
    split
    · rw [settleFrom_core, checkDrain_core]
    · rfl
  refine ⟨(congrArg State.wireF core :), (congrArg State.drainGuard core :), (congrArg State.lastDrain core :), ?_⟩
  have queues : (s.sendDrain a).queues = (s.drained a f rest).queues := (congrArg State.queues core :)
  rw [queue_congr queues, taken]

/-- An injection frame is built and sent (R129). -/
theorem sendInjection_sends {i : Nat} {r : InjectionRecord} (slot : s.slot i = some r) (lt : r.step < 96) (q : Byte) :
    (s.sendInjection i r q).wireF = some { frame := { station := r.station, kind := (s.step r.step).injectionKind, seq := q
                                                      payload := s.injectionPayload r }, source := .injection }
      ∧ (s.sendInjection i r q).drainGuard = s.guardAfterOther
      ∧ (s.sendInjection i r q).entry r.step = { s.entry r.step with attempts := min 255 ((s.entry r.step).attempts + 1) }
      ∧ ∃ x, (s.sendInjection i r q).slot i = some x ∧ x.outstanding = some q ∧ x.ready = none ∧ x.attempts = r.attempts
        ∧ x.closing = r.closing ∧ x.station = r.station ∧ x.step = r.step := by
  obtain ⟨x, hx⟩ : ∃ x : InjectionRecord, x = { r with
      outstanding := some q, ready := none, deadline := none
      builtHighest := if (s.step r.step).action = some .restore then s.builtHighest r else none } := ⟨_, rfl⟩
  refine ⟨rfl, rfl, ?_, x, ?_, by rw [hx], by rw [hx], by rw [hx], by rw [hx], by rw [hx], by rw [hx]⟩
  · exact (setEntry_entry (s.setSlot i _) r.step r.step _).trans (if_pos ⟨rfl, lt⟩)
  · rw [hx]
    exact (slot_congr (setEntry_slots (s := s.setSlot i _) r.step _) i).trans (setSlot_here (slot_lt slot) _)

theorem injectionKind_eq (x : StepRecord) : x.injectionKind =
    if x.action = some .order then 11 else if x.action = some .await then 12 else 10 := by
  unfold StepRecord.injectionKind
  split
  · next order => rw [if_pos order]; rfl
  · next await => rw [await]; rfl
  · next other poll => rw [if_neg other, if_neg poll]; rfl

theorem injectionPayload_eq (r : InjectionRecord) : s.injectionPayload r =
    if (s.step r.step).action = some .restore
      then pointBytes ((s.confirmedIn r.station r.startChannel (s.step r.step).last).take 16)
    else if (s.step r.step).action = some .await then [byte (s.step r.step).awaitChannel]
    else (s.payload (s.step r.step).payloadIndex).data.take (s.payload (s.step r.step).payloadIndex).length := by
  unfold State.injectionPayload
  dsimp only
  split
  · next restore => rw [if_pos restore]; rfl
  · next await => rw [await]; rfl
  · next other poll => rw [if_neg other, if_neg poll]; rfl

/-- Settles O38: the choice clause by clause; an empty build leaves fewer turns, so that the arbiter's fuel lasts. -/
theorem fieldArbiterOrder : Obligations.FieldArbiterOrder := by
  unfold Obligations.FieldArbiterOrder
  refine ⟨fun s f rest free fifo alert => ?alert, fun s f free noAlert reserve => ?reserve,
    fun s f rest free fifo kind noReserve guard noRecord => ?pass,
    fun s i r q free noReserve noAlert guard chosen slot ready lt => ?injection,
    fun s i r free noReserve noAlert guard chosen slot ready lt restore nothing => ?empty,
    fun s i chosen => injectionChoice_lowest chosen, fun s a chosen free noReserve noAlert turn => ?drain,
    fun s a chosen => ⟨(drainOffers_mem (drainChoice_mem chosen)).2, drainChoice_rotates chosen⟩⟩
  case alert =>
    have choice : s.fChoice = some .alertHead := by
      have head : s.headAlert = true := by
        unfold State.headAlert
        rw [fifo]
        exact decide_eq_true alert
      rw [fChoice_eq, if_pos head]
    rw [fArbiter_free free, fChoose_alert 127 choice, sendHead_eq fifo]
  case reserve =>
    rw [fArbiter_free free, fChoose_reserve 127 (fChoice_reserve noAlert (by rw [reserve]; rfl)), State.sendReserve, reserve]
  case pass =>
    have noAlert : ∀ g, s.passDown.head? = some g → g.kind ≠ kindAlert := fun g head => by
      rw [fifo] at head
      cases head
      exact kind
    rw [fArbiter_free free, fChoose_pass 127 (fChoice_passes noAlert noReserve guard noRecord (by rw [fifo]; simp)),
      sendHead_eq fifo, guardAfterOther_eq]
  case injection =>
    intro t points more
    have turn := fChoose_injection 127 (fChoice_injects noAlert noReserve guard chosen) slot ready
    rw [if_neg fun empty => (emptyBuild_iff r).1 empty |>.elim fun a b => more a b] at turn
    obtain ⟨wire, guard', entry, record⟩ := sendInjection_sends slot lt q
    rw [fArbiter_free free, turn]
    refine ⟨?_, guard'.trans guardAfterOther_eq, entry, record⟩
    rw [wire, injectionKind_eq, injectionPayload_eq]
  case empty =>
    obtain ⟨q, ready⟩ := Option.isSome_iff_exists.1 ready
    have turn := fChoose_injection 127 (fChoice_injects noAlert noReserve guard chosen) slot ready
    rw [if_pos ((emptyBuild_iff r).2 ⟨restore, nothing⟩), finishEmpty_eq] at turn
    have freeStill : (s.emptied i r.step).settle.wireF = none := by
      rw [settle_wireF, (emptied_keeps i r.step).1]
      exact free
    have bound := turnsLeft_le (s.emptied i r.step).settle
    refine ⟨s.emptied i r.step, ?_, fun j => emptied_slot i r.step j, fun n => ?_, (emptied_keeps i r.step).2,
      (emptied_keeps i r.step).1, emptied_ground i r.step⟩
    · rw [fArbiter_free free, turn, fArbiter_free freeStill]
      exact fChoose_fuel 127 (by omega)
    · rw [emptied_entry lt]
      by_cases same : n = r.step
      · rw [if_pos same, if_pos same, same]
        rfl
      · rw [if_neg same, if_neg same]
  case drain =>
    obtain ⟨valid, -, some'⟩ := drainOffers_mem (drainChoice_mem chosen)
    obtain ⟨f, rest, queue⟩ := List.exists_cons_of_ne_nil some'
    obtain ⟨wire, guard, last, left⟩ := sendDrain_sends valid queue
    rw [fArbiter_free free, fChoose_drain 127 (fChoice_drains noAlert noReserve chosen turn)]
    exact ⟨f, by rw [queue]; rfl, wire, guard, last, by rw [left, queue]; rfl⟩

end Sys2Proof.Machine
end

section
/-! SUPPORT. An ALERT (R28, R45, R93, R171 to R173): its placement, the discarded queues, and the stations it overrides. -/

namespace Sys2Proof.Machine

variable {s : State}

/-! ## The placement (R28) -/

/-- `s` with the ALERT reserve given. -/
def State.setReserve (s : State) (x : Option Frame) : State := { s with alertReserve := x }

theorem placeAlert_eq (f : Frame) : s.placeAlert f =
    if s.passDown.length < 8 then s.setPassDown (s.passDown ++ [f])
    else if s.alertReserve = none then s.setReserve (some f) else s.defer f 9 := by
  show (if s.passDown.length < 8 then s.setPassDown (s.passDown ++ [f])
    else if s.alertReserve.isNone = true then s.setReserve (some f) else s.defer f 9) = _
  simp only [Option.isNone_iff_eq_none]

/-- Where an ALERT is placed (R28). -/
def AlertPlaced (s t : State) (f : Frame) : Prop :=
  (s.passDown.length < 8 → t.passDown = s.passDown ++ [f] ∧ t.alertReserve = s.alertReserve)
    ∧ (8 ≤ s.passDown.length → t.passDown = s.passDown
        ∧ (s.alertReserve = none → t.alertReserve = some f)
        ∧ (s.alertReserve.isSome = true → t.alertReserve = s.alertReserve ∧ t.isPending .deferral = true
            ∧ t.counter .framesDeferred = counted (s.counter .framesDeferred)))

/-- A placement writes the FIFO, the reserve, the replies, the counters and the pending flags. -/
theorem placeAlert_shape (f : Frame) : s.placeAlert f =
    { s with passDown := (s.placeAlert f).passDown, alertReserve := (s.placeAlert f).alertReserve
             replies := (s.placeAlert f).replies, counters := (s.placeAlert f).counters
             noticePending := (s.placeAlert f).noticePending } := by
  rw [placeAlert_eq]
  split
  · rfl
  · split
    · rfl
    · have queues := defer_queues (s := s) f 9
      have armed : (s.defer f 9).highWaterArmed = s.highWaterArmed := by
        unfold State.defer State.replyHold
        show (State.count _ _).highWaterArmed = _
        rw [count_armed, placeReply_armed]
      rw [defer_holds]
      unfold State.holding
      rw [queues, armed]

theorem placeAlert_placed (f : Frame) : AlertPlaced s (s.placeAlert f) f := by
  rw [placeAlert_eq]
  refine ⟨fun room => ?_, fun full => ?_⟩
  · rw [if_pos room]
    exact ⟨rfl, rfl⟩
  · rw [if_neg (Nat.not_lt.2 full)]
    by_cases free : s.alertReserve = none
    · rw [if_pos free]
      exact ⟨rfl, fun _ => rfl, fun k => by rw [free] at k; cases k⟩
    · rw [if_neg free]
      refine ⟨by rw [defer_holds]; rfl, fun k => absurd k free, fun _ => ⟨by rw [defer_holds]; rfl, defer_isPending f 9, ?_⟩⟩
      rw [defer_counter f 9 _ (by decide), if_pos rfl]

theorem follows_placeAlert (f : Frame) : Follows s (s.placeAlert f) := by
  rw [placeAlert_eq]
  split
  · exact follows_of_same rfl rfl
  · split
    · exact follows_of_same rfl rfl
    · exact follows_defer f 9

theorem placeAlert_counter (f : Frame) (c : Counter) (deferred : c ≠ .framesDeferred) (lost : c ≠ .repliesLost) :
    (s.placeAlert f).counter c = s.counter c := by
  rw [placeAlert_eq]
  split
  · rfl
  · split
    · rfl
    · rw [defer_counter f 9 c lost, if_neg deferred]

theorem placeAlert_overridden (f : Frame) : (s.placeAlert f).isPending .overridden = s.isPending .overridden := by
  rw [placeAlert_eq]
  split
  · rfl
  · split
    · rfl
    · unfold State.defer State.replyHold
      rw [raise_isPending_of_group_ne _ _ _ (by decide), count_isPending_of_ne _ _ _ (by decide),
        placeReply_isPending _ _ (by decide)]

/-- The replies of an ALERT's placement: a HOLD-REPLY DEFERRED when neither the FIFO nor the reserve has room. -/
def State.deferredAlert (s : State) (f : Frame) : List Reply := if s.passDown.length < 8 ∨ s.alertReserve = none then []
  else [{ frame := { station := f.station, kind := 43, seq := f.seq, payload := [3, 13, 9] }, isReset := false }]

theorem placeAlert_replies {f : Frame} (alert : f.kind = kindAlert) (room : s.replies.length + (s.deferredAlert f).length ≤ 16) :
    (s.placeAlert f).replies = s.replies ++ s.deferredAlert f := by
  unfold State.deferredAlert at room ⊢
  rw [placeAlert_eq]
  by_cases fifo : s.passDown.length < 8
  · rw [if_pos fifo, if_pos (.inl fifo)]
    simp [State.setPassDown]
  · rw [if_neg fifo]
    by_cases free : s.alertReserve = none
    · rw [if_pos free, if_pos (.inr free)]
      simp [State.setReserve]
    · have deferred : ¬ (s.passDown.length < 8 ∨ s.alertReserve = none) := fun k => k.elim fifo free
      rw [if_neg deferred, List.length_singleton] at room
      rw [if_neg free, if_neg deferred, defer_replies]
      unfold State.replyHold
      rw [placeReply_replies room]
      unfold holdReply
      rw [alert]
      rfl

theorem untouched_placeAlert (f : Frame) : Untouched s (s.placeAlert f) := by
  have station : ∀ a, (s.placeAlert f).station a = s.station a := station_congr (by rw [placeAlert_shape])
  refine ⟨?_, ?_, ?_, ?_, ?_, ?_, ?_, ?_, ?_, ?_, ?_, ?_, ?_, ?_, ?_, ?_, ?_, ?_,
    fun a => congrArg StationRecord.config (station a), fun a => congrArg StationRecord.history (station a)⟩
  all_goals rw [placeAlert_shape]

/-! ## The discard of a queue (R93) -/

section
variable (a : Nat) (l : List Frame)

theorem holding_discardFrames (v : State) : State.discardFrames a l (v.holding s) = v.holding (State.discardFrames a l s) := by
  induction l generalizing s with
  | nil => rfl
  | cons f l ih => rw [State.discardFrames, holding_setQueue, holding_rearm, holding_replyHold, holding_count, ih]; rfl

theorem discardFrames_holds : State.discardFrames a l s = s.holding (State.discardFrames a l s) :=
  holding_discardFrames a l s

theorem follows_discardFrames : Follows s (State.discardFrames a l s) := by
  induction l generalizing s with
  | nil => exact .rfl' s
  | cons f l ih =>
    exact (((follows_setQueue a l).trans follows_rearm).trans ((follows_placeReply _).trans (follows_count _))).trans (ih (s := _))

theorem discardFrames_counter (c : Counter) (lost : c ≠ .repliesLost) : (State.discardFrames a l s).counter c =
    if c = .framesDiscarded then counted^[l.length] (s.counter c) else s.counter c := by
  induction l generalizing s with
  | nil => simp [State.discardFrames]
  | cons f l ih =>
    rw [State.discardFrames, ih, count_counted]
    unfold State.replyHold
    rw [placeReply_counter _ _ lost, rearm_counter, setQueue_counter]
    split <;> rfl

theorem discardFrames_replies (len k : Nat) (places : k + l.length = len) (room : s.replies.length + l.length ≤ 16) :
    (State.discardFrames a l s).replies = s.replies ++ leavingReplies .discarded len k l := by
  induction l generalizing s k with
  | nil => simp [State.discardFrames, leavingReplies]
  | cons f l ih =>
    simp only [List.length_cons] at places room
    have before : ((s.setQueue a l).rearm).replies = s.replies := rearm_replies.trans (setQueue_replies _ _)
    have placed : ((((s.setQueue a l).rearm).replyHold f .discarded l.length).count .framesDiscarded).replies =
        s.replies ++ [{ frame := holdReply f .discarded l.length, isReset := false }] := by
      rw [count_replies]
      unfold State.replyHold
      rw [placeReply_replies (by rw [before]; omega), before]
    rw [State.discardFrames, ih (k + 1) (by omega) (by rw [placed]; simp; omega), placed, leavingReplies_cons,
      show len - 1 - k = l.length by omega, List.append_assoc]
    rfl

theorem discardFrames_queue (valid : validStation a = true) (b : Nat) (full : s.queue a = l) :
    (State.discardFrames a l s).queue b = if b = a then [] else s.queue b := by
  induction l generalizing s with
  | nil =>
    show s.queue b = _
    split
    · next same => rw [same, full]
    · rfl
  | cons f l ih =>
    have queues : ((((s.setQueue a l).rearm).replyHold f .discarded l.length).count .framesDiscarded).queues
        = (s.setQueue a l).queues := by
      rw [count_queues]
      exact (placeReply_queues _).trans rearm_queues
    have queue : ∀ c, ((((s.setQueue a l).rearm).replyHold f .discarded l.length).count .framesDiscarded).queue c =
        if a = c ∧ validStation c = true then l else s.queue c := fun c => (queue_congr queues c).trans (setQueue_queue ..)
    rw [State.discardFrames, ih ((queue a).trans (if_pos ⟨rfl, valid⟩))]
    by_cases same : b = a
    · rw [if_pos same, if_pos same]
    · rw [if_neg same, if_neg same, queue, if_neg fun k => same k.1.symm]

theorem discardQueue_holds : s.discardQueue a = s.holding (s.discardQueue a) := by
  have frames := discardFrames_holds (s := s) a (s.queue a)
  unfold State.discardQueue
  dsimp only
  split
  · exact frames
  · exact congrArg (fun z : State => z.raise .discard) frames

theorem follows_discardQueue : Follows s (s.discardQueue a) := by
  unfold State.discardQueue
  dsimp only
  split
  · exact follows_discardFrames a _
  · exact (follows_discardFrames a _).trans (follows_raise _ _)

theorem discardQueue_isPending (some' : s.queue a ≠ []) : (s.discardQueue a).isPending .discard = true := by
  unfold State.discardQueue
  dsimp only
  rw [if_neg (by simpa using some')]
  exact raise_isPending _ _

theorem discardQueue_frames {α : Type} (g : State → α) (raised : ∀ (t : State) e, g (t.raise e) = g t) :
    g (s.discardQueue a) = g (State.discardFrames a (s.queue a) s) := by
  unfold State.discardQueue
  dsimp only
  split
  · rfl
  · exact raised _ _

theorem discardQueue_queue (valid : validStation a = true) (b : Nat) :
    (s.discardQueue a).queue b = if b = a then [] else s.queue b :=
  (discardQueue_frames a (fun t => t.queue b) (fun _ _ => raise_queue ..)).trans (discardFrames_queue a _ valid b rfl)
end

/-! ## The override of a station (R45) -/

/-- The station record of an override (R45). -/
def overriddenRecord (r : StationRecord) : StationRecord := { r with state := .overridden, faultPending := false }

/-- An override before its leaving of membership. -/
def State.silenced (s : State) (a : Nat) : State := (s.updateStation a overriddenRecord).discardQueue a

theorem overrideStation_eq (a : Nat) : s.overrideStation a =
    if (s.station a).state = .unlisted ∨ (s.station a).state = .overridden then s else (s.silenced a).leaveRun a false := by
  unfold State.overrideStation
  cases state : (s.station a).state <;> rfl

theorem silenced_keeps (a : Nat) : (s.silenced a).stations = (s.updateStation a overriddenRecord).stations
    ∧ (s.silenced a).entries = s.entries ∧ (s.silenced a).slots = s.slots ∧ (s.silenced a).run = s.run
    ∧ (s.silenced a).plan = s.plan := by
  have shape : s.silenced a = (s.updateStation a overriddenRecord).holding (s.silenced a) := discardQueue_holds a
  rw [shape, updateStation_stations]
  exact ⟨rfl, rfl, rfl, rfl, rfl⟩

/-- What an override and its follow-up leave besides the stations, the hold queues and the run. -/
structure Overrides (s t : State) : Prop where
  left         : Untouched s t
  passDown     : t.passDown = s.passDown
  alertReserve : t.alertReserve = s.alertReserve
  wireF        : t.wireF = s.wireF
  wireS        : t.wireS = s.wireS
  counter      : ∀ c, c ≠ .framesDiscarded → c ≠ .repliesLost → t.counter c = s.counter c
  pending      : ∀ e, s.isPending e = true → t.isPending e = true

theorem Overrides.trans {t u : State} (h : Overrides s t) (k : Overrides t u) : Overrides s u :=
  ⟨h.left.trans k.left, k.passDown.trans h.passDown, k.alertReserve.trans h.alertReserve, k.wireF.trans h.wireF,
    k.wireS.trans h.wireS, fun c x y => (k.counter c x y).trans (h.counter c x y), fun e on => k.pending e (h.pending e on)⟩

theorem overrides_of_core {t : State} (core : t.core = s.core) (follows : Follows s t) : Overrides s t := by
  have counters : t.counters = s.counters := (congrArg State.counters core :)
  exact ⟨untouched_of_core core, (congrArg State.passDown core :), (congrArg State.alertReserve core :),
    (congrArg State.wireF core :), (congrArg State.wireS core :), fun c _ _ => by simp [State.counter, counters], follows.pending⟩

theorem Overrides.rfl' (s : State) : Overrides s s := overrides_of_core rfl (.rfl' s)

theorem overrides_silenced (a : Nat) : Overrides s (s.silenced a) := by
  obtain ⟨u, hu⟩ : ∃ u, u = s.updateStation a overriddenRecord := ⟨_, rfl⟩
  have updated : Overrides s u :=
    hu ▸ overrides_of_core (updateStation_core s a _ fun _ => rfl) (follows_updateStation s a _)
  have shape : u.discardQueue a = u.holding (u.discardQueue a) := discardQueue_holds a
  have keeps {α : Type} (g : State → α) : g (u.discardQueue a) = g (u.holding (u.discardQueue a)) := congrArg g shape
  have discarded : Overrides u (u.discardQueue a) := by
    refine ⟨by rw [shape]; exact untouched_holding _, keeps State.passDown, keeps State.alertReserve, keeps State.wireF,
      keeps State.wireS, fun c frames lost => ?_, (follows_discardQueue a).pending⟩
    rw [discardQueue_frames a (fun t => t.counter c) (fun _ _ => raise_counter ..), discardFrames_counter a _ c lost, if_neg frames]
  unfold State.silenced
  rw [← hu]
  exact updated.trans discarded

theorem overrides_overrideStation (a : Nat) : Overrides s (s.overrideStation a) := by
  rw [overrideStation_eq]
  split
  · exact .rfl' s
  · exact (overrides_silenced a).trans (overrides_of_core (leaveRun_core _ a false) (follows_leaveRun _ a false))

/-- One station of an ALERT: its override, and the follow-up (R172). -/
def State.alertTurn (s : State) (a : Nat) : State := s.settleFrom (s.overrideStation a)

theorem overrides_alertTurn (a : Nat) : Overrides s (s.alertTurn a) :=
  (overrides_overrideStation a).trans (overrides_of_core (settleFrom_core _ _) (follows_settleFrom _ _))

section
variable {a : Nat} (valid : validStation a = true)
include valid

theorem overrideStation_station (b : Nat) (live : (s.station a).state ≠ .unlisted ∧ (s.station a).state ≠ .overridden) :
    (s.overrideStation a).station b = if b = a then { overriddenRecord (s.station a) with member := false } else s.station b := by
  rw [overrideStation_eq, if_neg fun k => k.elim live.1 live.2, leaveRun_station, station_congr (silenced_keeps a).1,
    updateStation_station]
  by_cases same : a = b
  · subst same
    rw [if_pos rfl, if_pos ⟨rfl, valid⟩, if_pos rfl]
  · rw [if_neg same, if_neg fun k => same k.1, if_neg (Ne.symm same)]

theorem overrideStation_queue (b : Nat) : (s.overrideStation a).queue b =
    if b = a ∧ (s.station a).state ≠ .unlisted ∧ (s.station a).state ≠ .overridden then [] else s.queue b := by
  rw [overrideStation_eq]
  by_cases live : (s.station a).state = .unlisted ∨ (s.station a).state = .overridden
  · rw [if_pos live, if_neg fun k => live.elim k.2.1 k.2.2]
  · have queues : ((s.silenced a).leaveRun a false).queues = (s.silenced a).queues :=
      (congrArg State.queues (leaveRun_core (s.silenced a) a false) :)
    have before : (s.updateStation a overriddenRecord).queue b = s.queue b := queue_congr (updateStation_queues ..) b
    rw [if_neg live, queue_congr queues]
    show ((s.updateStation a overriddenRecord).discardQueue a).queue b = _
    rw [discardQueue_queue a valid, before]
    exact if_congr ⟨fun k => ⟨k, fun u => live (.inl u), fun o => live (.inr o)⟩, And.left⟩ rfl rfl

/-- A station once overridden: no member, no pending fault, no frame held. -/
structure State.Silent (s : State) (a : Nat) : Prop where
  state   : (s.station a).state = .overridden
  member  : (s.station a).member = false
  pending : (s.station a).faultPending = false
  queue   : s.queue a = []

omit valid in
theorem alertTurn_queue (b c : Nat) (same : (s.overrideStation b).queue c = s.queue c) : (s.alertTurn b).queue c = s.queue c :=
  (queue_congr (settleFrom_queues s (s.overrideStation b)) c).trans same

omit valid in
theorem silent_followUp {t : State} (h : t.Silent a) : (s.settleFrom t).Silent a := by
  have turned : StationTurn (t.station a) ((s.settleFrom t).station a) := stationsTurn_followUp _ t a
  refine ⟨(turned.rests ?_ ?_ ?_).trans h.state, ?_, ?_, ?_⟩
  · rw [h.state]; decide
  · rw [h.state]; decide
  · rw [h.state]; decide
  · exact Bool.eq_false_iff.2 fun k => Bool.eq_false_iff.1 h.member (turned.member k)
  · exact Bool.eq_false_iff.2 fun k => Bool.eq_false_iff.1 h.pending (turned.pending k)
  · rw [queue_congr (settleFrom_queues s t)]
    exact h.queue

/-- The turn of a station that is neither UNLISTED nor OVERRIDDEN (R45). -/
theorem alertTurn_silences (live : (s.station a).state ≠ .unlisted ∧ (s.station a).state ≠ .overridden) :
    (s.alertTurn a).Silent a := by
  have record := overrideStation_station valid a live
  rw [if_pos rfl] at record
  refine silent_followUp ⟨?_, ?_, ?_, ?_⟩
  · rw [record]; rfl
  · rw [record]
  · rw [record]; rfl
  · rw [overrideStation_queue valid, if_pos ⟨rfl, live⟩]
end

/-- The turn of a station leaves every other one's record to the follow-up. -/
theorem alertTurn_other {a b : Nat} (other : a ≠ b) (valid : validStation b = true) :
    StationTurn (s.station a) ((s.alertTurn b).station a) ∧ (s.alertTurn b).queue a = s.queue a := by
  have same : (s.overrideStation b).station a = s.station a := by
    by_cases live : (s.station b).state = .unlisted ∨ (s.station b).state = .overridden
    · rw [overrideStation_eq, if_pos live]
    · rw [overrideStation_station valid a ⟨fun u => live (.inl u), fun o => live (.inr o)⟩, if_neg other]
  refine ⟨?_, alertTurn_queue b a ?_⟩
  · rw [← same]
    exact stationsTurn_followUp _ _ a
  · rw [overrideStation_queue valid, if_neg fun k => other k.1]

/-- An override leaves an OVERRIDDEN or UNLISTED station, and its queue. -/
theorem alertTurn_spent {a : Nat} (spent : (s.station a).state = .unlisted ∨ (s.station a).state = .overridden) :
    StationTurn (s.station a) ((s.alertTurn a).station a) ∧ (s.alertTurn a).queue a = s.queue a := by
  have same : s.overrideStation a = s := by rw [overrideStation_eq, if_pos spent]
  refine ⟨?_, alertTurn_queue a a (by rw [same])⟩
  unfold State.alertTurn
  rw [same]
  exact stationsTurn_followUp _ _ a

theorem StationTurn.overridden_iff {r r' : StationRecord} (h : StationTurn r r') : r'.state = .overridden ↔ r.state = .overridden := by
  by_cases moving : r.state = .held ∨ r.state = .restoring ∨ r.state = .draining
  · have left := (h.leaves moving).2
    refine ⟨fun k => absurd k left, fun k => ?_⟩
    rcases moving with m | m | m <;> rw [m] at k <;> cases k
  · rw [h.rests (fun k => moving (.inl k)) (fun k => moving (.inr (.inl k))) (fun k => moving (.inr (.inr k)))]

theorem StationTurn.live {r r' : StationRecord} (h : StationTurn r r') (k : r.state ≠ .unlisted ∧ r.state ≠ .overridden) :
    r'.state ≠ .unlisted ∧ r'.state ≠ .overridden := by
  by_cases moving : r.state = .held ∨ r.state = .restoring ∨ r.state = .draining
  · exact h.leaves moving
  · rw [h.rests (fun k => moving (.inl k)) (fun k => moving (.inr (.inl k))) (fun k => moving (.inr (.inr k)))]
    exact k

/-! ## The turns of an ALERT (R171, R172) -/

section
variable (l : List Nat) (valid : ∀ b ∈ l, validStation b = true) (a : Nat)

theorem overrides_turns : Overrides s (l.foldl State.alertTurn s) :=
  foldl_kept (Overrides s) _ l (fun _ b _ reached => reached.trans (overrides_alertTurn b)) s (.rfl' s)

include valid

/-- A station that no turn is for keeps its queue, and is OVERRIDDEN when it was. -/
theorem turns_others (out : a ∉ l) : (l.foldl State.alertTurn s).queue a = s.queue a
    ∧ (((l.foldl State.alertTurn s).station a).state = .overridden ↔ (s.station a).state = .overridden) :=
  foldl_kept (fun t : State => t.queue a = s.queue a ∧ ((t.station a).state = .overridden ↔ (s.station a).state = .overridden))
    _ l (fun t b mem ⟨queue, state⟩ => by
      obtain ⟨turned, same⟩ := alertTurn_other (s := t) (a := a) (fun k => out (k ▸ mem)) (valid b mem)
      exact ⟨same.trans queue, turned.overridden_iff.trans state⟩) s ⟨rfl, Iff.rfl⟩

/-- A station that is OVERRIDDEN stays so. -/
theorem turns_overridden (h : (s.station a).state = .overridden) : ((l.foldl State.alertTurn s).station a).state = .overridden :=
  foldl_kept (fun t : State => (t.station a).state = .overridden) _ l (fun t b mem reached => by
    by_cases same : a = b
    · subst same
      exact (alertTurn_spent (.inr reached)).1.overridden_iff.2 reached
    · exact (alertTurn_other same (valid b mem)).1.overridden_iff.2 reached) s h

theorem turns_silent (h : s.Silent a) : (l.foldl State.alertTurn s).Silent a :=
  foldl_kept (fun t : State => t.Silent a) _ l (fun t b mem reached => by
    have kept : StationTurn (t.station a) ((t.alertTurn b).station a) ∧ (t.alertTurn b).queue a = t.queue a := by
      by_cases same : a = b
      · subst same
        exact alertTurn_spent (.inr reached.state)
      · exact alertTurn_other same (valid b mem)
    exact ⟨kept.1.overridden_iff.2 reached.state,
      Bool.eq_false_iff.2 fun k => Bool.eq_false_iff.1 reached.member (kept.1.member k),
      Bool.eq_false_iff.2 fun k => Bool.eq_false_iff.1 reached.pending (kept.1.pending k), kept.2.trans reached.queue⟩) s h

/-- A station with a turn of its own, neither UNLISTED nor OVERRIDDEN before, is silent after all of them. -/
theorem turns_silences (mem : a ∈ l) (live : (s.station a).state ≠ .unlisted ∧ (s.station a).state ≠ .overridden) :
    (l.foldl State.alertTurn s).Silent a := by
  induction l generalizing s with
  | nil => cases mem
  | cons b l ih =>
    have validL : ∀ c ∈ l, validStation c = true := fun c k => valid c (List.mem_cons_of_mem _ k)
    by_cases same : a = b
    · subst same
      exact turns_silent l validL a (alertTurn_silences (valid a List.mem_cons_self) live)
    · have turned := (alertTurn_other (s := s) same (valid b List.mem_cons_self)).1
      exact ih validL ((List.mem_cons.1 mem).resolve_left same) (turned.live live)
end

/-! ## The steps and the record of a member that an ALERT overrides (R46, R137) -/

/-- A record of another step is left by a leaving step. -/
theorem leaveStep_otherRecord {a i m : Nat} (d : Bool) {r : InjectionRecord} (own : s.slotOf a = some i) (slot : s.slot i = some r)
    (other : r.step ≠ m) : (State.leaveStep a d s m).slots = s.slots := by
  have skipped : (s.setStepState m .skipped).slots = s.slots := setStepState_slots m .skipped
  have record : (s.setStepState m .skipped).slot i = some r := (slot_congr skipped i).trans slot
  unfold State.leaveStep
  split
  · exact skipped
  · exact skipped
  · refine Eq.trans (show _ = (s.setStepState m .skipped).slots from ?_) skipped
    show ((s.setStepState m .skipped).cancelRecordOf a m).slots = _
    unfold State.cancelRecordOf
    rw [slotOf_congr skipped, own]
    dsimp only
    rw [record]
    dsimp only
    rw [if_neg other]
  · split
    · rfl
    · exact setEntry_slots ..
  · rfl

/-- The record of an ISSUED step is cancelled at its leaving. -/
theorem leaveStep_ownRecord {a i : Nat} (d : Bool) {r : InjectionRecord} (own : s.slotOf a = some i) (slot : s.slot i = some r)
    (issued : (s.entry r.step).state = .issued) : (State.leaveStep a d s r.step).slot i = cancelled (some r) := by
  have skipped : (s.setStepState r.step .skipped).slots = s.slots := setStepState_slots r.step .skipped
  have record : (s.setStepState r.step .skipped).slot i = some r := (slot_congr skipped i).trans slot
  unfold State.leaveStep
  rw [issued]
  show ((s.setStepState r.step .skipped).cancelRecordOf a r.step).slot i = _
  unfold State.cancelRecordOf
  rw [slotOf_congr skipped, own]
  dsimp only
  rw [record]
  dsimp only
  rw [if_pos rfl, cancelRecord_slot, if_pos rfl, record]

/-- An open record with an attempt outstanding goes to CLOSING with the leaving of its ISSUED step, whatever step leaves first. -/
theorem leaveSteps_closes {a i : Nat} (d : Bool) {r : InjectionRecord} (l : List Nat) (mem : r.step ∈ l) (own : s.slotOf a = some i)
    (slot : s.slot i = some r) (issued : (s.entry r.step).state = .issued) (opened : r.closing = false)
    (sent : r.outstanding.isSome = true) :
    (l.foldl (State.leaveStep a d) s).slot i = some { r with closing := true, ready := none, further := none } := by
  induction l generalizing s with
  | nil => cases mem
  | cons m l ih =>
    rw [List.foldl_cons]
    by_cases same : r.step = m
    · subst same
      have closed : (State.leaveStep a d s r.step).slot i = some { r with closing := true, ready := none, further := none } := by
        rw [leaveStep_ownRecord d own slot issued]
        simp [cancelled, opened, sent]
      exact foldl_kept (fun t : State => t.slot i = some { r with closing := true, ready := none, further := none }) _ l
        (fun t m _ h => (leaveStep_kept (s := t) (by rw [h]; rfl) a d m).trans h) _ closed
    · have slots := leaveStep_otherRecord d own slot same
      refine ih ((List.mem_cons.1 mem).resolve_left same) ((slotOf_congr slots a).trans own) ((slot_congr slots i).trans slot) ?_
      rw [leaveStep_entry, if_neg fun k => same k.1.symm]
      exact issued

theorem leaveRun_closes {a i : Nat} (d : Bool) {r : InjectionRecord} (member : (s.station a).member = true)
    (runs : s.run.inProgress = true) (used : (s.step r.step).used = true) (stationed : (s.step r.step).station = a)
    (own : s.slotOf a = some i) (slot : s.slot i = some r) (issued : (s.entry r.step).state = .issued) (opened : r.closing = false)
    (sent : r.outstanding.isSome = true) :
    (s.leaveRun a d).slot i = some { r with closing := true, ready := none, further := none } := by
  obtain ⟨u, hu⟩ : ∃ u, u = s.updateStation a (fun r => { r with member := false }) := ⟨_, rfl⟩
  have slots : u.slots = s.slots := hu ▸ updateStation_slots ..
  have mem : r.step ∈ u.stepsOf a := by
    have step : u.step r.step = s.step r.step := by rw [hu]; simp [State.step]
    rw [mem_stepsOf, step]
    simp [used, stationed]
  unfold State.leaveRun State.leaveSteps
  dsimp only
  rw [if_pos (by simp [member, runs]), ← hu]
  refine leaveSteps_closes d _ mem ((slotOf_congr slots a).trans own) ((slot_congr slots i).trans slot) ?_ opened sent
  rw [hu, entry_congr (updateStation_entries ..)]
  exact issued

theorem leftEntry_skipped {e : StepEntry} (used : e.state ≠ .idle) (unfinished : e.state.terminal = false) :
    (leftEntry false e).state = .skipped := by
  unfold leftEntry
  cases state : e.state <;> simp_all [StepState.terminal]

/-- An unfinished step of a member that an ALERT overrides is SKIPPED, and the record of an ISSUED one with an attempt outstanding
goes to CLOSING. -/
theorem alertTurn_leaves {a : Nat} (live : (s.station a).state ≠ .unlisted ∧ (s.station a).state ≠ .overridden)
    (member : (s.station a).member = true) (runs : s.run.inProgress = true) {n : Nat} (used : (s.step n).used = true)
    (stationed : (s.step n).station = a) (valid : validStation a = true) :
    ((s.entry n).state ≠ .idle → (s.entry n).state.terminal = false → ((s.alertTurn a).entry n).state = .skipped)
      ∧ ∀ i r, s.slotOf a = some i → s.slot i = some r → r.step = n → (s.entry n).state = .issued → r.closing = false →
        r.outstanding.isSome = true → (s.alertTurn a).slot i = some { r with closing := true, ready := none, further := none } := by
  obtain ⟨stations, entries, slots, run, plan⟩ := silenced_keeps (s := s) a
  obtain ⟨o, ho⟩ : ∃ o, o = s.overrideStation a := ⟨_, rfl⟩
  have leaves : o = (s.silenced a).leaveRun a false := by
    rw [ho, overrideStation_eq, if_neg fun k => k.elim live.1 live.2]
  have step : ∀ m, (s.silenced a).step m = s.step m := fun m => by simp [State.step, plan]
  have member' : ((s.silenced a).station a).member = true := by
    rw [station_congr stations, updateStation_station, if_pos ⟨rfl, valid⟩]
    exact member
  have runs' : (s.silenced a).run.inProgress = true := by rw [run]; exact runs
  unfold State.alertTurn
  rw [← ho]
  have turned : SlotsTurn o (s.settleFrom o) := slotsTurn_followUp _ o
  have follows : Follows o (s.settleFrom o) := follows_settleFrom s o
  refine ⟨fun begun unfinished => ?_, fun i r own slot same issued opened sent => turned.kept i _ ?_⟩
  · have skipped : (o.entry n).state = .skipped := by
      rw [leaves, leaveRun_entry false member' runs' (by rw [step]; exact used) (by rw [step]; exact stationed),
        entry_congr entries]
      exact leftEntry_skipped begun unfinished
    rw [follows.terminal n (by rw [skipped]; rfl)]
    exact skipped
  · subst same
    rw [leaves]
    exact leaveRun_closes false member' runs' (by rw [step]; exact used) (by rw [step]; exact stationed)
      ((slotOf_congr slots a).trans own) ((slot_congr slots i).trans slot) (by rw [entry_congr entries]; exact issued) opened sent

/-! ## The replies and counts of a discard (R93) -/

/-- What reads nothing of the stations, the steps and the run is after an override's turn what the discard leaves. -/
theorem alertTurn_discards {a : Nat} (live : (s.station a).state ≠ .unlisted ∧ (s.station a).state ≠ .overridden) :
    (s.alertTurn a).core = ((s.updateStation a overriddenRecord).discardQueue a).core := by
  unfold State.alertTurn
  rw [settleFrom_core, overrideStation_eq, if_neg fun k => k.elim live.1 live.2, leaveRun_core]
  rfl

theorem alertTurn_counter {a : Nat} (live : (s.station a).state ≠ .unlisted ∧ (s.station a).state ≠ .overridden) :
    (s.alertTurn a).counter .framesDiscarded = counted^[(s.queue a).length] (s.counter .framesDiscarded) := by
  have queue : (s.updateStation a overriddenRecord).queue a = s.queue a := queue_congr (updateStation_queues ..) a
  refine (congrArg (fun t : State => t.counter .framesDiscarded) (alertTurn_discards live) :).trans ?_
  show ((s.updateStation a overriddenRecord).discardQueue a).counter .framesDiscarded = _
  rw [discardQueue_frames a (fun t => t.counter .framesDiscarded) (fun _ _ => raise_counter ..),
    discardFrames_counter a _ _ (by decide), if_pos rfl, queue]
  congr 1
  cases a <;> rfl

theorem alertTurn_replies {a : Nat} (live : (s.station a).state ≠ .unlisted ∧ (s.station a).state ≠ .overridden)
    (room : s.replies.length + (s.queue a).length ≤ 16) :
    (s.alertTurn a).replies = s.replies ++ leavingReplies .discarded (s.queue a).length 0 (s.queue a) := by
  have queue : (s.updateStation a overriddenRecord).queue a = s.queue a := queue_congr (updateStation_queues ..) a
  have replies : (s.updateStation a overriddenRecord).replies = s.replies := by cases a <;> rfl
  refine (congrArg State.replies (alertTurn_discards live) :).trans ?_
  show ((s.updateStation a overriddenRecord).discardQueue a).replies = _
  rw [discardQueue_frames a State.replies (fun _ _ => raise_replies ..), queue,
    discardFrames_replies a _ _ 0 (Nat.zero_add _) (by rw [replies]; exact room), replies]

theorem alertTurn_discard {a : Nat} (live : (s.station a).state ≠ .unlisted ∧ (s.station a).state ≠ .overridden)
    (held : s.queue a ≠ []) : (s.alertTurn a).isPending .discard = true := by
  have queue : (s.updateStation a overriddenRecord).queue a = s.queue a := queue_congr (updateStation_queues ..) a
  have discarded : (s.silenced a).isPending .discard = true := discardQueue_isPending a (by rw [queue]; exact held)
  unfold State.alertTurn
  rw [overrideStation_eq, if_neg fun k => k.elim live.1 live.2]
  exact (follows_settleFrom _ _).pending _ ((follows_leaveRun _ a false).pending _ discarded)

/-! ## The cause and the notice of an ALERT (R172, R173) -/

/-- ALERT holds a run in progress, and "overridden" is raised. -/
def State.alerted (s : State) : State := (s.addCause (fun c => { c with alert := true })).raise .overridden

theorem addCause_run (g : Causes → Causes) : (s.addCause g).run =
    if s.run.inProgress = true then { s.run with causes := g s.run.causes } else s.run := by
  unfold State.addCause
  dsimp only
  split
  · split <;> rfl
  · rfl

theorem addCause_shape (g : Causes → Causes) :
    s.addCause g = { s with run := (s.addCause g).run, noticePending := (s.addCause g).noticePending } := by
  unfold State.addCause
  dsimp only
  split
  · split <;> rfl
  · rfl

theorem alerted_shape : s.alerted = { s with run := s.alerted.run, noticePending := s.alerted.noticePending } :=
  congrArg (fun t : State => t.raise .overridden) (addCause_shape _)

theorem alerted_cause (runs : s.alerted.run.inProgress = true) : s.alerted.run.causes.alert = true := by
  have run : s.alerted.run = (s.addCause (fun c => { c with alert := true })).run := rfl
  rw [addCause_run] at run
  rw [run] at runs ⊢
  split at runs
  · next going => rw [if_pos going]
  · next idle => exact absurd runs idle

theorem follows_addCause (g : Causes → Causes) : Follows s (s.addCause g) := by
  unfold State.addCause
  dsimp only
  split
  · have held : Follows s { s with run := { s.run with causes := g s.run.causes } } := follows_of_same rfl rfl
    split
    · exact held.trans (follows_raise _ _)
    · exact held
  · exact .rfl' s

theorem overrides_alerted : Overrides s s.alerted := by
  have station : ∀ a, s.alerted.station a = s.station a := station_congr (by rw [alerted_shape])
  have follows : Follows s s.alerted := (follows_addCause _).trans (follows_raise _ _)
  refine ⟨⟨?_, ?_, ?_, ?_, ?_, ?_, ?_, ?_, ?_, ?_, ?_, ?_, ?_, ?_, ?_, ?_, ?_, ?_,
    fun a => congrArg StationRecord.config (station a), fun a => congrArg StationRecord.history (station a)⟩,
    ?_, ?_, ?_, ?_, fun c _ _ => ?_, follows.pending⟩
  all_goals rw [alerted_shape]
  rfl

/-! ## The arrival (R171 to R173) -/

theorem alertArrival_eq {t : State} {f : Frame} (placed : t = s.placeAlert f) : s.alertArrival f =
    if t.affected f = [] then t else ((t.affected f).foldl State.alertTurn t).alerted := by
  subst placed
  unfold State.alertArrival
  dsimp only
  simp only [List.isEmpty_iff]
  split
  · next none => rw [none]; rfl
  · rfl

theorem affected_congr {t : State} (f : Frame) (listed : ∀ a, t.seenListed a = s.seenListed a) : t.affected f = s.affected f := by
  have same : t.seenListed = s.seenListed := funext listed
  unfold State.affected
  rw [same]

/-- The downward decision of an ALERT (R21). -/
theorem classifyDown_alert {f : Frame} (b : Bool) (alert : f.kind = kindAlert) (some' : f.station ≠ 0) :
    s.classifyDown b f = s.alertArrival f := by
  unfold State.classifyDown
  rw [if_neg some', if_pos alert]

/-- The state in which an ALERT has its place: what its turns start from. -/
def State.placed (s : State) (f : Frame) : State := s.heard.placeAlert f

section
variable (f : Frame)

/-- An ALERT's place writes nothing of the stations, the queues, the steps and the run. -/
theorem placed_keeps : (s.placed f).stations = s.stations ∧ (s.placed f).queues = s.queues ∧ (s.placed f).run = s.run
    ∧ (s.placed f).entries = s.entries ∧ (s.placed f).slots = s.slots ∧ (s.placed f).plan = s.plan
    ∧ (s.placed f).wireF = s.wireF ∧ (s.placed f).wireS = s.wireS ∧ (s.placed f).loading = s.loading := by
  unfold State.placed
  rw [placeAlert_shape]
  exact ⟨rfl, rfl, rfl, rfl, rfl, rfl, rfl, rfl, rfl⟩

theorem placed_affected : (s.placed f).affected f = s.affected f :=
  have ⟨stations, _, _, _, _, _, _, _, loading⟩ := placed_keeps (s := s) f
  affected_congr f fun a => seenListed_congr loading (by rw [station_congr stations])

theorem placed_place : AlertPlaced s (s.placed f) f := placeAlert_placed (s := s.heard) f

/-- What the turns of an ALERT and the closing of its event leave of its place. -/
theorem AlertPlaced.kept {t u : State} {f : Frame} (h : AlertPlaced s t f) (k : Overrides t u) : AlertPlaced s u f := by
  refine ⟨fun room => ?_, fun full => ?_⟩
  · obtain ⟨fifo, reserve⟩ := h.1 room
    exact ⟨k.passDown.trans fifo, k.alertReserve.trans reserve⟩
  · obtain ⟨fifo, free, taken⟩ := h.2 full
    refine ⟨k.passDown.trans fifo, fun none => k.alertReserve.trans (free none), fun some' => ?_⟩
    obtain ⟨reserve, deferral, counter⟩ := taken some'
    exact ⟨k.alertReserve.trans reserve, k.pending _ deferral, (k.counter _ (by decide) (by decide)).trans counter⟩

/-- The event of an ALERT, the F-port sending: its arrival, and the upward side of the closing. -/
theorem alert_exec {f : Frame} (present : s.silence.silent = false) (fBusy : s.FBusy) (alert : f.kind = kindAlert)
    (some' : f.station ≠ 0) {t : State} (arrived : t = s.heard.alertArrival f) (wireF : t.wireF = s.wireF) (wireS : t.wireS = s.wireS) :
    ∃ v, exec (.sFrameArrival f) s = .next (t.upward v) ∧ (s.SBusy → v.replies = t.replies) := by
  have arrives : exec (.sFrameArrival f) s = .next (s.close t) := by
    show Host.Outcome.next (s.close (s.arrive .s f)) = _
    rw [arrive_present present, classifyDown_alert _ alert some', arrived]
  obtain ⟨v, closed, up⟩ := close_upward (s := s) (t := t) (show t.wireF.isSome = true by rw [wireF]; exact fBusy)
  exact ⟨v, arrives.trans (by rw [closed]), fun sends => (up (show t.wireS.isSome = true by rw [wireS]; exact sends)).1⟩
end

/-- The turns of the stations an ALERT affects, and the cause and notice after them. -/
def State.alertTurns (s : State) (f : Frame) : State := ((s.affected f).foldl State.alertTurn (s.placed f)).alerted

theorem overrides_alertTurns (f : Frame) : Overrides (s.placed f) (s.alertTurns f) :=
  (overrides_turns _).trans overrides_alerted

/-- What an ALERT that affects a station leaves, whichever its stations are. -/
theorem alertTurns_effect {f : Frame} (present : s.silence.silent = false) (fBusy : s.FBusy) (alert : f.kind = kindAlert)
    (some' : f.station ≠ 0) (affects : s.affected f ≠ []) :
    ∃ v, exec (.sFrameArrival f) s = .next ((s.alertTurns f).upward v) ∧ (s.SBusy → v.replies = (s.alertTurns f).replies)
      ∧ Untouched s.heard ((s.alertTurns f).upward v) ∧ (s.alertTurns f).isPending .overridden = true
      ∧ ((s.alertTurns f).run.inProgress = true → (s.alertTurns f).run.causes.alert = true) ∧ AlertPlaced s (s.alertTurns f) f := by
  have turned := overrides_alertTurns (s := s) f
  obtain ⟨-, -, -, -, -, -, wireF, wireS, -⟩ := placed_keeps (s := s) f
  have arrived : s.alertTurns f = s.heard.alertArrival f := by
    rw [alertArrival_eq (t := s.placed f) rfl, placed_affected, if_neg affects]
    rfl
  obtain ⟨v, ran, replies⟩ := alert_exec present fBusy alert some' arrived (turned.wireF.trans wireF) (turned.wireS.trans wireS)
  exact ⟨v, ran, replies, ((untouched_placeAlert f).trans turned.left).trans (untouched_upward _ v), raise_isPending _ _,
    alerted_cause, (placed_place f).kept turned⟩

/-- What an ALERT that affects no station leaves: its place. -/
theorem alertPlaced_effect {f : Frame} (present : s.silence.silent = false) (fBusy : s.FBusy) (alert : f.kind = kindAlert)
    (some' : f.station ≠ 0) (none : s.affected f = []) :
    ∃ v, exec (.sFrameArrival f) s = .next ((s.placed f).upward v) ∧ Untouched s.heard ((s.placed f).upward v) := by
  obtain ⟨-, -, -, -, -, -, wireF, wireS, -⟩ := placed_keeps (s := s) f
  have arrived : s.placed f = s.heard.alertArrival f := by
    rw [alertArrival_eq (t := s.placed f) rfl, placed_affected, if_pos none]
  obtain ⟨v, ran, -⟩ := alert_exec present fBusy alert some' arrived wireF wireS
  exact ⟨v, ran, (untouched_placeAlert f).trans (untouched_upward _ v)⟩

/-! ## The stations an ALERT affects (R171) -/

theorem station_invalid {a : Nat} (h : validStation a = false) : s.station a = .default := by
  have out : ¬ (1 ≤ a ∧ a ≤ 126) := fun k => by rw [(validStation_iff a).2 k] at h; cases h
  cases a with
  | zero => rfl
  | succ n => simp only [State.station, getAt]; rw [dif_neg (by omega)]

theorem valid_of_listed {a : Nat} (h : s.seenListed a = true) : validStation a = true := by
  by_contra invalid
  simp [State.seenListed, State.listed, station_invalid (s := s) (Bool.eq_false_iff.2 invalid)] at h
  exact absurd h.2 (by decide)

/-- A broadcast affects the listed stations. -/
theorem affected_broadcast {f : Frame} (broadcast : f.station = 127) {a : Nat} : a ∈ s.affected f ↔ s.seenListed a = true := by
  unfold State.affected
  rw [if_pos broadcast, List.mem_filter, mem_stationNumbers]
  exact ⟨And.right, fun h => ⟨valid_of_listed h, h⟩⟩

theorem affected_single {f : Frame} (listed : s.seenListed f.station = true) : s.affected f = [f.station] := by
  have high := ((validStation_iff _).1 (valid_of_listed listed)).2
  unfold State.affected
  rw [if_neg (by omega), if_pos listed]

theorem affected_none {f : Frame} (none : ∀ a, f.station = 127 ∨ f.station = a → s.seenListed a = false) : s.affected f = [] := by
  unfold State.affected
  split
  · next broadcast => exact List.filter_eq_nil_iff.2 fun a _ => by rw [none a (.inl broadcast)]; decide
  · rw [none _ (.inr rfl)]
    rfl

/-! ## What an ALERT leaves of its stations -/

section
variable {f : Frame}

theorem alertTurns_single (listed : s.seenListed f.station = true) :
    s.alertTurns f = ((s.placed f).alertTurn f.station).alerted := by
  unfold State.alertTurns
  rw [affected_single listed]
  rfl

theorem alertTurns_tables : (s.alertTurns f).stations = ((s.affected f).foldl State.alertTurn (s.placed f)).stations
    ∧ (s.alertTurns f).queues = ((s.affected f).foldl State.alertTurn (s.placed f)).queues := by
  unfold State.alertTurns
  rw [alerted_shape]
  exact ⟨rfl, rfl⟩

theorem placed_station (a : Nat) : (s.placed f).station a = s.station a := station_congr (placed_keeps f).1 a

theorem placed_queue (a : Nat) : (s.placed f).queue a = s.queue a := queue_congr (placed_keeps f).2.1 a

theorem affected_valid {b : Nat} (h : b ∈ s.affected f) : validStation b = true := by
  unfold State.affected at h
  split at h
  · exact mem_stationNumbers.1 (List.mem_filter.1 h).1
  · split at h
    · next listed =>
      rw [List.mem_singleton.1 h]
      exact valid_of_listed listed
    · cases h

/-- A listed station that an ALERT affects is OVERRIDDEN, and was so or is silent now. -/
theorem alertTurns_station {a : Nat} (mem : a ∈ s.affected f) (listed : (s.station a).state ≠ .unlisted) :
    ((s.alertTurns f).station a).state = .overridden
      ∧ ((s.station a).state ≠ .overridden → (s.alertTurns f).Silent a) := by
  obtain ⟨stations, queues⟩ := alertTurns_tables (s := s) (f := f)
  have valid : ∀ b ∈ s.affected f, validStation b = true := fun b => affected_valid
  have silent : (s.station a).state ≠ .overridden → (s.alertTurns f).Silent a := fun new => by
    obtain ⟨state, member, pending, queue⟩ := turns_silences (s := s.placed f) _ valid a mem (by rw [placed_station]; exact ⟨listed, new⟩)
    have station := station_congr stations a
    exact ⟨by rw [station]; exact state, by rw [station]; exact member, by rw [station]; exact pending,
      (queue_congr queues a).trans queue⟩
  refine ⟨?_, silent⟩
  by_cases spent : (s.station a).state = .overridden
  · rw [station_congr stations]
    exact turns_overridden _ valid a (by rw [placed_station]; exact spent)
  · exact (silent spent).state

/-- A station that an ALERT does not affect keeps its queue, and is OVERRIDDEN when it was. -/
theorem alertTurns_others {a : Nat} (out : a ∉ s.affected f) : (s.alertTurns f).queue a = s.queue a
    ∧ (((s.alertTurns f).station a).state = .overridden ↔ (s.station a).state = .overridden) := by
  obtain ⟨stations, queues⟩ := alertTurns_tables (s := s) (f := f)
  obtain ⟨queue, state⟩ := turns_others (s := s.placed f) _ (fun b => affected_valid) a out
  rw [placed_queue] at queue
  rw [placed_station] at state
  exact ⟨(queue_congr queues a).trans queue, by rw [station_congr stations]; exact state⟩

section
variable (listed : s.seenListed f.station = true)
  (live : (s.station f.station).state ≠ .unlisted ∧ (s.station f.station).state ≠ .overridden)
include listed live

/-- The discard of the queue of the one station that an ALERT overrides (R93). -/
theorem alertTurns_discards (alert : f.kind = kindAlert) : (s.queue f.station ≠ [] → (s.alertTurns f).isPending .discard = true)
    ∧ (s.alertTurns f).counter .framesDiscarded = counted^[(s.queue f.station).length] (s.counter .framesDiscarded)
    ∧ (s.replies.length + (s.deferredAlert f).length + (s.queue f.station).length ≤ 16 → (s.alertTurns f).replies =
        s.replies ++ s.deferredAlert f ++ leavingReplies .discarded (s.queue f.station).length 0 (s.queue f.station)) := by
  have queue : (s.placed f).queue f.station = s.queue f.station := placed_queue _
  have live' : ((s.placed f).station f.station).state ≠ .unlisted ∧ ((s.placed f).station f.station).state ≠ .overridden := by
    rw [placed_station]
    exact live
  rw [alertTurns_single listed]
  refine ⟨fun held => ?_, ?_, fun room => ?_⟩
  · exact overrides_alerted.pending _ (alertTurn_discard live' (by rw [queue]; exact held))
  · have counter : (s.placed f).counter .framesDiscarded = s.counter .framesDiscarded :=
      placeAlert_counter (s := s.heard) f _ (by decide) (by decide)
    have alerted : ((s.placed f).alertTurn f.station).alerted.counter .framesDiscarded
        = ((s.placed f).alertTurn f.station).counter .framesDiscarded := by rw [alerted_shape]; rfl
    rw [alerted, alertTurn_counter live', queue, counter]
  · have replies : (s.placed f).replies = s.replies ++ s.deferredAlert f := placeAlert_replies (s := s.heard) alert (by
      show s.replies.length + (s.deferredAlert f).length ≤ 16
      omega)
    have alerted : ((s.placed f).alertTurn f.station).alerted.replies = ((s.placed f).alertTurn f.station).replies := by
      rw [alerted_shape]
    rw [alerted, alertTurn_replies live' (by rw [queue, replies, List.length_append]; exact room), queue, replies]

/-- The steps and the record of the one station that an ALERT overrides, a member in a run (R46, R137). -/
theorem alertTurns_leaves (member : (s.station f.station).member = true) (runs : s.run.inProgress = true) {n : Nat}
    (used : (s.step n).used = true) (stationed : (s.step n).station = f.station) :
    ((s.entry n).state ≠ .idle → (s.entry n).state.terminal = false → ((s.alertTurns f).entry n).state = .skipped)
      ∧ ∀ i r, s.slotOf f.station = some i → s.slot i = some r → r.step = n → (s.entry n).state = .issued → r.closing = false →
        r.outstanding.isSome = true → (s.alertTurns f).slot i = some { r with closing := true, ready := none, further := none } := by
  obtain ⟨-, -, run, entries, slots, plan, -⟩ := placed_keeps (s := s) f
  have step : (s.placed f).step n = s.step n := by simp [State.step, plan]
  have slot : ∀ i, ((s.placed f).alertTurn f.station).alerted.slot i = ((s.placed f).alertTurn f.station).slot i :=
    slot_congr (by rw [alerted_shape])
  have entry : ((s.placed f).alertTurn f.station).alerted.entry n = ((s.placed f).alertTurn f.station).entry n :=
    entry_congr (by rw [alerted_shape]) n
  have leaves := alertTurn_leaves (s := s.placed f) (by rw [placed_station]; exact live) (by rw [placed_station]; exact member)
    (by rw [run]; exact runs) (by rw [step]; exact used) (by rw [step]; exact stationed) (valid_of_listed listed)
  rw [entry_congr entries] at leaves
  rw [alertTurns_single listed, entry]
  refine ⟨leaves.1, fun i r own at' same issued opened sent => ?_⟩
  rw [slot]
  exact leaves.2 i r ((slotOf_congr slots _).trans own) ((slot_congr slots i).trans at') same issued opened sent
end
end

/-- Settles O23: an ALERT has its place, then each station it affects its turn, then the run its cause. -/
theorem alertOverridesItsStation : Obligations.AlertOverridesItsStation := by
  unfold Obligations.AlertOverridesItsStation
  refine ⟨fun s f present fBusy alert listed real => ?single, fun s f present fBusy alert broadcast => ?broadcast,
    fun s f present fBusy alert low high none => ?none⟩
  case single =>
    have affected := affected_single listed
    obtain ⟨low, -⟩ := (validStation_iff _).1 (valid_of_listed listed)
    obtain ⟨v, ran, replies, untouched, overridden, cause, place⟩ := alertTurns_effect present fBusy alert (by omega)
      (by rw [affected]; exact List.cons_ne_nil _ _)
    obtain ⟨state, silent⟩ := alertTurns_station (s := s) (f := f) (by rw [affected]; exact List.mem_singleton_self _) real
    refine ⟨_, ran, untouched, state, fun new => ?_, overridden, cause, place⟩
    obtain ⟨discard, counter, tail⟩ := alertTurns_discards listed ⟨real, new⟩ alert
    obtain ⟨-, member, pending, queue⟩ := silent new
    exact ⟨member, queue, pending, ⟨discard, counter, fun sends room => (replies sends).trans (tail room)⟩,
      fun member runs n used stationed => alertTurns_leaves listed ⟨real, new⟩ member runs used stationed⟩
  case broadcast =>
    have mem : ∀ a, a ∈ s.affected f ↔ s.seenListed a = true := fun a => affected_broadcast broadcast
    by_cases affects : s.affected f = []
    · have none : ∀ a, s.seenListed a ≠ true := fun a h => by
        have listed := (mem a).2 h
        rw [affects] at listed
        cases listed
      obtain ⟨v, ran, untouched⟩ := alertPlaced_effect present fBusy alert (by omega) affects
      have state : ∀ a, ((s.placed f).upward v).station a = s.station a := placed_station
      exact ⟨_, ran, untouched, fun a h => absurd h (none a), fun a _ => ⟨placed_queue a, by rw [state]⟩,
        fun ⟨a, h⟩ => absurd h (none a), placed_place f⟩
    · obtain ⟨v, ran, -, untouched, overridden, cause, place⟩ := alertTurns_effect present fBusy alert (by omega) affects
      refine ⟨_, ran, untouched, fun a h real => ?_, fun a h => ?_, fun _ => ⟨overridden, cause⟩, place⟩
      · obtain ⟨state, silent⟩ := alertTurns_station ((mem a).2 h) real
        exact ⟨state, fun new => ⟨(silent new).member, (silent new).queue, (silent new).pending⟩⟩
      · exact alertTurns_others fun k => Bool.eq_false_iff.1 h ((mem a).1 k)
  case none =>
    obtain ⟨v, ran, untouched⟩ := alertPlaced_effect present fBusy alert (by omega) (affected_none none)
    obtain ⟨stations, queues, run, entries, slots, -⟩ := placed_keeps (s := s) f
    exact ⟨_, ran, untouched, stations, queues, run, entries, slots, placeAlert_overridden (s := s.heard) f, placed_place f⟩

end Sys2Proof.Machine
end

section
/-! SUPPORT. The station records stay legal (R37 to R39, R44) under the operations of the Run Engine, the station state machine, the
hold queues, the HELLOs and the F-port's arbiter. -/

namespace Sys2Proof.Machine

variable {s t : State}

/-! ## A legal record, and what the legality of a state reads -/

/-- A station record is legal; `runs` says whether a run is in progress (R37 to R39, R44). -/
structure RecordLegal (runs : Bool) (r : StationRecord) : Prop where
  listed  : r.state = .unlisted ↔ r.config.role = .none
  member  : r.member = true → runs = true ∧ (r.state = .held ∨ r.state = .restoring ∨ r.state = .draining)
  pending : r.faultPending = true → r.state = .draining

theorem stationsLegal_iff : StationsLegal s ↔ ∀ a, RecordLegal s.run.inProgress (s.station a) :=
  ⟨fun h a => ⟨h.listed a, h.members a, h.pending a⟩,
    fun h => ⟨fun a => (h a).listed, fun a => (h a).member, fun a => (h a).pending⟩⟩

/-- A record that goes on to a state other than UNLISTED, its role kept. -/
theorem RecordLegal.moved {b c : Bool} {r r' : StationRecord} (h : RecordLegal b r) (real : r.state ≠ .unlisted)
    (role : r'.config.role = r.config.role) (real' : r'.state ≠ .unlisted)
    (member : r'.member = true → c = true ∧ (r'.state = .held ∨ r'.state = .restoring ∨ r'.state = .draining))
    (pending : r'.faultPending = true → r'.state = .draining) : RecordLegal c r' :=
  ⟨iff_of_false real' (role ▸ fun k => real (h.listed.2 k)), member, pending⟩

/-- A record that is no member is legal whether a run is in progress or not. -/
theorem RecordLegal.unmembered {b : Bool} (c : Bool) {r : StationRecord} (h : RecordLegal b r) :
    RecordLegal c { r with member := false } :=
  ⟨h.listed, fun k => Bool.noConfusion k, h.pending⟩

/-- All that the legality of a state reads: its station records, and whether a run is in progress. -/
def State.roster (s : State) : Vector StationRecord 126 × Bool := (s.stations, s.run.inProgress)

theorem roster_eq (stations : t.stations = s.stations) (run : t.run = s.run) : t.roster = s.roster := by
  simp [State.roster, stations, run]

theorem legal_of_roster (same : t.roster = s.roster) (h : StationsLegal s) : StationsLegal t := by
  obtain ⟨stations, runs⟩ := Prod.mk.inj same
  refine stationsLegal_iff.2 fun a => ?_
  rw [station_congr stations, runs]
  exact stationsLegal_iff.1 h a

/-- One record goes on, all others stay. -/
theorem legal_of_record (a : Nat) (run : t.run = s.run) (others : ∀ b, b ≠ a → t.station b = s.station b)
    (own : RecordLegal s.run.inProgress (t.station a)) (h : StationsLegal s) : StationsLegal t := by
  refine stationsLegal_iff.2 fun b => ?_
  rw [run]
  by_cases same : b = a
  · exact same ▸ own
  · rw [others b same]
    exact stationsLegal_iff.1 h b

theorem roster_ite {c : Prop} [Decidable c] {u : State} (h : t.roster = s.roster) (k : u.roster = s.roster) :
    (if c then t else u).roster = s.roster := by
  split
  · exact h
  · exact k

theorem legal_ite {c : Prop} [Decidable c] (h : StationsLegal s) (k : StationsLegal t) : StationsLegal (if c then s else t) := by
  split
  · exact h
  · exact k

theorem legal_update (a : Nat) (g : StationRecord → StationRecord)
    (own : RecordLegal s.run.inProgress (s.station a) → RecordLegal s.run.inProgress (g (s.station a)))
    (h : StationsLegal s) : StationsLegal (s.updateStation a g) := by
  have before := stationsLegal_iff.1 h
  refine legal_of_record a (updateStation_run ..) (fun b other => ?_) ?_ h
  · rw [updateStation_station, if_neg fun k => other k.1.symm]
  · rw [updateStation_station]
    split
    · exact own (before a)
    · exact before a

/-- A station's record changed, and its leaving of membership. -/
theorem legal_update_leave (a : Nat) (d : Bool) (g : StationRecord → StationRecord)
    (own : RecordLegal s.run.inProgress { g (s.station a) with member := false })
    (stations : t.stations = (s.updateStation a g).stations) (run : t.run = s.run) (h : StationsLegal s) : StationsLegal (t.leaveRun a d) := by
  have record : ∀ b, t.station b = if a = b ∧ validStation b = true then g (s.station b) else s.station b := fun b => by
    rw [station_congr stations, updateStation_station]
  refine legal_of_record a ((leaveRun_run a d).trans run) (fun b other => ?_) ?_ h
  · rw [leaveRun_station, if_neg (Ne.symm other), record, if_neg fun k => other k.1.symm]
  · rw [leaveRun_station, if_pos rfl, record]
    split
    · exact own
    · exact (stationsLegal_iff.1 h a).unmembered _

theorem legal_leaveRun (a : Nat) (d : Bool) (h : StationsLegal s) : StationsLegal (s.leaveRun a d) :=
  legal_of_record a (leaveRun_run a d) (fun b other => by rw [leaveRun_station, if_neg (Ne.symm other)])
    (by rw [leaveRun_station, if_pos rfl]; exact (stationsLegal_iff.1 h a).unmembered _) h

/-! ## Operations that leave the roster -/

section
variable (a n i : Nat)

@[simp] theorem raise_roster (e : NoticeEvent) : (s.raise e).roster = s.roster := rfl
@[simp] theorem setSlot_roster (r : Option InjectionRecord) : (s.setSlot i r).roster = s.roster := rfl
@[simp] theorem startClock_roster : (s.startClock n).roster = s.roster := rfl
@[simp] theorem setFeedRecord_roster (f : Feed) (r : FeedRecord) : (s.setFeedRecord f r).roster = s.roster := by cases f <;> rfl
@[simp] theorem setEntry_roster (e : StepEntry) : (s.setEntry n e).roster = s.roster :=
  roster_eq (setEntry_stations ..) (setEntry_run ..)
@[simp] theorem setStepState_roster (x : StepState) : (s.setStepState n x).roster = s.roster := setEntry_roster ..
@[simp] theorem evaluate_roster : (s.evaluate n).roster = s.roster := roster_eq (evaluate_stations n) (evaluate_run n)
@[simp] theorem evaluateAll_roster : s.evaluateAll.roster = s.roster :=
  foldl_keeps State.roster _ (fun s n => evaluate_roster (s := s) n) _ s
@[simp] theorem makeAttempt_roster : (s.makeAttempt i).roster = s.roster := by
  unfold State.makeAttempt
  split <;> rfl
@[simp] theorem makePoll_roster : (s.makePoll i).roster = s.roster := by
  unfold State.makePoll
  split <;> rfl
@[simp] theorem openRecord_roster (k c : Nat) : (s.openRecord i n k c).roster = s.roster := makeAttempt_roster i
@[simp] theorem closeRecord_roster : (s.closeRecord i).roster = s.roster := by
  unfold State.closeRecord
  split
  · split
    · exact openRecord_roster ..
    · rfl
  · rfl
@[simp] theorem resolveRecord_roster (q : Byte) (c : Option Nat) : (s.resolveRecord i q c).roster = s.roster := by
  unfold State.resolveRecord
  split
  · exact roster_ite rfl (closeRecord_roster i)
  · rfl
@[simp] theorem cancelRecord_roster : (s.cancelRecord i).roster = s.roster := by
  unfold State.cancelRecord
  repeat' split
  all_goals rfl
@[simp] theorem settleStep_roster : (s.settleStep n).roster = s.roster :=
  roster_ite (setEntry_roster ..) (setEntry_roster ..)
@[simp] theorem finishFrames_roster : (s.finishFrames n).roster = s.roster := settleStep_roster n
@[simp] theorem markWait_roster (f : Feed) : (s.markWait f).roster = s.roster := roster_eq (markWait_keeps f).2.2 (markWait_run f)
@[simp] theorem haltRun_roster : (s.haltRun n).roster = s.roster := roster_ite rfl rfl
@[simp] theorem abortStep_roster : (s.abortStep n).roster = s.roster := by
  unfold State.abortStep
  split <;> simp
@[simp] theorem restartSteps_roster (k : Restart) : (s.restartSteps a k).roster = s.roster := by
  have returned : ∀ l, (s.returnSteps l).roster = s.roster := fun l => roster_eq (returnSteps_stations l) (returnSteps_run l)
  unfold State.restartSteps
  dsimp only
  split
  · exact (cancelRecord_roster _).trans (returned _)
  · exact returned _
@[simp] theorem addCause_roster (g : Causes → Causes) : (s.addCause g).roster = s.roster := roster_ite (roster_ite rfl rfl) rfl
@[simp] theorem count_roster (c : Counter) : (s.count c).roster = s.roster := by rw [count_eq]; rfl
@[simp] theorem placeReply_roster (r : Reply) : (s.placeReply r).roster = s.roster := by rw [placeReply_holds]; rfl
@[simp] theorem defer_roster (f : Frame) (len : Nat) : (s.defer f len).roster = s.roster := by rw [defer_holds]; rfl
@[simp] theorem setQueue_roster (q : List Frame) : (s.setQueue a q).roster = s.roster := by cases a <;> rfl
@[simp] theorem rearm_roster : s.rearm.roster = s.roster := roster_ite rfl rfl
@[simp] theorem supersede_roster (f : Frame) : (s.supersede a f).roster = s.roster := by rw [supersede_holds]; rfl
@[simp] theorem testHighWater_roster : s.testHighWater.roster = s.roster := roster_ite rfl rfl
@[simp] theorem appendHeld_roster (f : Frame) : (s.appendHeld a f).roster = s.roster := by
  simp [State.appendHeld, State.replyHold]
end

/-! ## The station state machine (R43, R44, R46) -/

theorem legal_checkDrain (a : Nat) (h : StationsLegal s) : StationsLegal (s.checkDrain a) := by
  unfold State.checkDrain
  split
  · next drains =>
    simp only [Bool.and_eq_true, decide_eq_true_eq] at drains
    obtain ⟨stations, -, run, -⟩ := drainOver_keeps (s := s) a
    rw [drainEnd_eq]
    refine legal_update_leave a true drainEndRecord ?_ stations run h
    refine (stationsLegal_iff.1 h a).moved (by rw [drains.1]; decide) ?_ ?_ (fun k => Bool.noConfusion k) ?_
    all_goals
      unfold drainEndRecord
      split <;> simp_all
  · exact h

theorem legal_enterDraining (a : Nat) (h : StationsLegal s) : StationsLegal (s.enterDraining a) := by
  unfold State.enterDraining
  split
  · next held =>
    simp only [Bool.or_eq_true, decide_eq_true_eq] at held
    refine legal_checkDrain a (legal_update a _ (fun own => own.moved ?_ rfl (by simp) (fun k => ⟨(own.member k).1, by simp⟩)
      fun _ => rfl) h)
    rcases held with e | e <;> rw [e] <;> decide
  · exact h

theorem legal_faultRequest (a : Nat) (c : FaultCause) (h : StationsLegal s) : StationsLegal (s.faultRequest a c) := by
  have own := stationsLegal_iff.1 h a
  have faulted : (s.station a).state ≠ .unlisted → (s.station a).state ≠ .draining → StationsLegal
      ((s.updateStation a (fun r => { r with state := .faulted, faultCause := some c })).leaveRun a false) := fun real settled =>
    legal_update_leave a false _ (own.moved real rfl (by simp) (fun k => Bool.noConfusion k)
      fun k => absurd (own.pending k) settled) rfl (updateStation_run ..) h
  have drains : (s.station a).state ≠ .unlisted → StationsLegal
      ((s.updateStation a (fun r => { r with state := .draining, faultPending := true, faultCause := some c })).leaveRun a false) :=
    fun real => legal_update_leave a false _ (own.moved real rfl (by simp) (fun k => Bool.noConfusion k) fun _ => rfl) rfl
      (updateStation_run ..) h
  unfold State.faultRequest
  split
  case h_1 online =>
    refine legal_of_roster (raise_roster _) (legal_update a _ (fun own => ?_) h)
    refine own.moved (by rw [online]; decide) rfl (by simp) (fun k => ?_) fun k => ?_
    · have := (own.member k).2
      simp [online] at this
    · have := own.pending k
      simp [online] at this
  case h_2 state | h_3 state =>
    split
    · exact legal_of_roster (raise_roster _) (faulted (by rw [state]; decide) (by rw [state]; decide))
    · exact drains (by rw [state]; decide)
  case h_4 state =>
    split
    · exact h
    · exact legal_update_leave a false _ (own.moved (by rw [state]; decide) rfl (by simp [state]) (fun k => Bool.noConfusion k)
        fun _ => state) rfl (updateStation_run ..) h
  all_goals exact h

theorem legal_overrideStation (a : Nat) (h : StationsLegal s) : StationsLegal (s.overrideStation a) := by
  rw [overrideStation_eq]
  split
  · exact h
  · next live =>
    obtain ⟨stations, -, -, run, -⟩ := silenced_keeps (s := s) a
    exact legal_update_leave a false overriddenRecord ((stationsLegal_iff.1 h a).moved (fun k => live (.inl k)) rfl
      (by simp [overriddenRecord]) (fun k => Bool.noConfusion k) fun k => Bool.noConfusion k) stations run h

/-! ## The Run Engine -/

theorem legal_grant (i n : Nat) (h : StationsLegal s) : StationsLegal (s.grant i n) := by
  have issued : StationsLegal (s.issue i n (s.step n)) := legal_of_roster (roster_eq (issue_stations ..) (issue_run ..)) h
  rw [grant_eq]
  split
  · next held =>
    refine legal_update _ _ (fun own => ?_) issued
    refine own.moved (by rw [held]; decide) rfl (by simp) (fun k => ⟨(own.member k).1, by simp⟩) fun k => ?_
    have := own.pending k
    simp [held] at this
  · exact issued

theorem legal_completeFrameless (n : Nat) (h : StationsLegal s) : StationsLegal (s.completeFrameless n) := by
  have settled := legal_of_roster (settleStep_roster n) h
  exact legal_ite (legal_enterDraining _ settled) settled

/-- The end of a run leaves no member (R116). -/
theorem legal_ended (o : RunOutcome) (h : StationsLegal s) : StationsLegal (s.drainMembers.closeRun o) := by
  obtain ⟨u, hu⟩ : ∃ u, u = (stationNumbers.filter fun a => (s.station a).member).foldl State.enterDraining s := ⟨_, rfl⟩
  have drained : StationsLegal u :=
    hu ▸ foldl_kept StationsLegal _ _ (fun t a _ k => legal_enterDraining a k) s h
  have cleared : ∀ a, (s.drainMembers.closeRun o).station a = { u.station a with member := false } := fun a => by
    rw [hu]
    cases a with
    | zero => rfl
    | succ k => exact getAt_mapTable _ (fun r : StationRecord => { r with member := false }) k .default
  refine stationsLegal_iff.2 fun a => ?_
  rw [cleared]
  exact (stationsLegal_iff.1 drained a).unmembered _

theorem legal_followUp (due : Bool) (h : StationsLegal s) : StationsLegal (State.followUp due s) :=
  followUp_turns (R := fun s t => StationsLegal s → StationsLegal t)
    { refl := fun _ => id
      trans := fun _ _ _ h k => k ∘ h
      evaluate := fun _ n => legal_of_roster (evaluate_roster n)
      complete := fun _ n _ => legal_completeFrameless n
      wait := fun _ f => legal_of_roster (markWait_roster f)
      grant := fun _ i n _ _ _ => legal_grant i n
      ended := fun _ o _ => legal_ended o } due s h

theorem legal_settle (h : StationsLegal s) : StationsLegal s.settle := legal_followUp true h
theorem legal_settleFrom (r : State) (h : StationsLegal s) : StationsLegal (r.settleFrom s) := legal_followUp _ h

theorem legal_failStep (n : Nat) (c : FailureCause) (b : Byte) (h : StationsLegal s) : StationsLegal (s.failStep n c b) := by
  unfold State.failStep State.propagate
  dsimp only
  split
  · exact legal_of_roster (by simp) h
  · refine legal_of_roster (evaluateAll_roster) (legal_faultRequest _ _ (legal_of_roster ?_ h))
    simp

theorem legal_abortRun (h : StationsLegal s) : StationsLegal s.abortRun := by
  have steps : (stepNumbers.foldl State.abortStep s).roster = s.roster :=
    foldl_keeps State.roster _ (fun s n => abortStep_roster (s := s) n) _ s
  have slots : (slotNumbers.foldl State.cancelRecord (stepNumbers.foldl State.abortStep s)).roster = s.roster :=
    (foldl_keeps State.roster _ (fun s i => cancelRecord_roster (s := s) i) _ _).trans steps
  exact legal_ended .aborted (legal_of_roster slots h)

/-- The start of a run makes the HELD stations its members (R107). -/
theorem legal_started (h : StationsLegal s) : StationsLegal s.started := by
  refine stationsLegal_iff.2 fun a => ?_
  obtain ⟨listed, member, pending⟩ := stationsLegal_iff.1 h a
  rw [started_station, started_run]
  split
  · next held => exact ⟨listed, fun _ => ⟨rfl, .inl held⟩, pending⟩
  · exact ⟨listed, fun k => ⟨rfl, (member k).2⟩, pending⟩

theorem legal_autoStart (a : Nat) (h : StationsLegal s) : StationsLegal (s.autoStart a) := by
  rw [autoStart_eq]
  exact legal_ite (legal_ite (legal_settle (legal_started h)) (legal_of_roster (raise_roster _) h)) h

/-! ## The hold queues and the entry into HELD (R40, R110) -/

theorem legal_holdEntry (a : Nat) (f : Frame) (h : StationsLegal s) : StationsLegal (State.holdEntry a s f) := by
  have superseded := legal_of_roster (supersede_roster a f) h
  exact legal_ite (legal_of_roster (appendHeld_roster a f) superseded)
    (legal_checkDrain a (legal_of_roster (defer_roster f _) superseded))

/-- A hand-over to a station that drains nothing leaves the roster. -/
theorem handOver_roster {a : Nat} (settled : (s.station a).state ≠ .draining) : (s.handOver a).roster = s.roster := by
  unfold State.handOver
  dsimp only
  rw [holdEntries_hold a _ (by exact settled)]
  rfl

theorem legal_joinRun (a : Nat) (k : Restart) (held : (s.station a).state = .held) (h : StationsLegal s) :
    StationsLegal (s.joinRun a k) := by
  unfold State.joinRun
  split
  · next runs =>
    refine legal_of_roster (restartSteps_roster a k) (legal_update a _ (fun own => ?_) h)
    exact ⟨own.listed, fun _ => ⟨runs, .inl held⟩, own.pending⟩
  · exact h

/-- A station that is listed and not fault-pending goes to HELD. -/
theorem legal_held (a : Nat) (real : (s.station a).state ≠ .unlisted) (clear : (s.station a).faultPending = false)
    (h : StationsLegal s) : StationsLegal (s.updateStation a (fun r => { r with state := .held })) :=
  legal_update a _ (fun own => own.moved real rfl (by simp) (fun k => ⟨(own.member k).1, .inl rfl⟩)
    fun k => absurd (clear.symm.trans k) (by decide)) h

theorem legal_enterHeld {a : Nat} (k : Restart) (online : (s.station a).state = .online) (h : StationsLegal s) :
    StationsLegal (s.enterHeld a k) := by
  have valid : validStation a = true := by
    by_contra invalid
    rw [station_invalid (Bool.eq_false_iff.2 invalid)] at online
    cases online
  have own := stationsLegal_iff.1 h a
  have clear : (s.station a).faultPending = false := Bool.eq_false_iff.2 fun k => by
    have := own.pending k
    simp [online] at this
  have held := legal_held a (by rw [online]; decide) clear h
  obtain ⟨u, hu⟩ : ∃ u, u = s.updateStation a (fun r => { r with state := .held }) := ⟨_, rfl⟩
  have state : (u.station a).state = .held := by rw [hu, updateStation_station, if_pos ⟨rfl, valid⟩]
  have taken := handOver_roster (s := u) (a := a) (by rw [state]; decide)
  unfold State.enterHeld
  rw [← hu] at held ⊢
  refine legal_joinRun a k ?_ (legal_of_roster taken held)
  rw [station_congr (Prod.mk.inj taken).1, state]

end Sys2Proof.Machine
end

section
/-! SUPPORT. The station records stay legal under the HELLOs, the requests, the arrivals, the timers and the resets, and the
statement about every step. -/

namespace Sys2Proof.Machine

variable {s t : State}

/-! ## HELLOs (R47 to R53) -/

/-- A station in a state other than DRAINING has no fault pending (R44). -/
theorem StationsLegal.clear (h : StationsLegal s) {a : Nat} (settled : (s.station a).state ≠ .draining) :
    (s.station a).faultPending = false := Bool.eq_false_iff.2 fun k => settled (h.pending a k)

theorem legal_helloOnline (a : Nat) (kept : Bool) (online : (s.station a).state = .online) (h : StationsLegal s) :
    StationsLegal (s.helloOnline a kept) := by
  have entered := legal_enterHeld .hello online h
  exact legal_ite (legal_ite (legal_settleFrom s entered) (legal_autoStart a entered)) h

theorem legal_helloRestart (a : Nat) (held : (s.station a).state = .held ∨ (s.station a).state = .restoring)
    (h : StationsLegal s) : StationsLegal (s.helloRestart a) := by
  have real : (s.station a).state ≠ .unlisted := by rcases held with e | e <;> rw [e] <;> decide
  have clear := h.clear (a := a) (by rcases held with e | e <;> rw [e] <;> decide)
  have back := legal_held a real clear h
  exact legal_ite (legal_ite (legal_settleFrom _ (legal_of_roster (restartSteps_roster a .hello) back)) back)
    (legal_autoStart a back)

theorem legal_helloDraining (a : Nat) (drains : (s.station a).state = .draining) (h : StationsLegal s) :
    StationsLegal (s.helloDraining a) := by
  unfold State.helloDraining
  split
  · exact h
  · next clear =>
    have valid : validStation a = true := by
      by_contra invalid
      rw [station_invalid (Bool.eq_false_iff.2 invalid)] at drains
      cases drains
    have back := legal_held a (by rw [drains]; decide) (Bool.eq_false_iff.2 clear) h
    refine legal_ite (legal_settleFrom _ (legal_joinRun a _ ?_ back)) (legal_autoStart a back)
    rw [updateStation_station, if_pos ⟨rfl, valid⟩]

theorem legal_helloEffect (a : Nat) (kept : Bool) (h : StationsLegal s) : StationsLegal (s.helloEffect a kept) := by
  unfold State.helloEffect
  split
  case h_1 online => exact legal_helloOnline a kept online h
  case h_2 held => exact legal_helloRestart a (.inl held) h
  case h_3 restoring => exact legal_helloRestart a (.inr restoring) h
  case h_4 drains => exact legal_helloDraining a drains h
  all_goals exact h

theorem legal_helloTap (a : Nat) (payload : List Byte) (h : StationsLegal s) : StationsLegal (s.helloTap a payload) := by
  have counted := legal_of_roster (count_roster .hellosSeen) h
  refine legal_ite ?_ counted
  have recorded := legal_of_roster (raise_roster .hello) (legal_update a
    (fun r => { r with history := appendHistory r.history (helloEntry (s.count .hellosSeen).bridgeTime payload) })
    (fun own => ⟨own.listed, own.member, own.pending⟩) counted)
  exact legal_ite (legal_settleFrom _ (legal_faultRequest a _ (legal_of_roster (raise_roster _) recorded)))
    (legal_helloEffect a _ recorded)

/-! ## Absorbed frames and the deadlines of records (R130 to R136) -/

section
variable (i n : Nat) (q : Byte)

theorem acceptLast_roster : (s.acceptLast i n q).roster = s.roster := by simp [State.acceptLast]

theorem acceptRestore_roster (r : InjectionRecord) : (s.acceptRestore i r q).roster = s.roster := by
  have next : (s.nextStart r).1.roster = s.roster := by
    unfold State.nextStart
    split <;> rfl
  unfold State.acceptRestore
  dsimp only
  split
  · exact (acceptLast_roster ..).trans next
  · exact (resolveRecord_roster ..).trans next

theorem legal_refuse (f : Frame) (h : StationsLegal s) : StationsLegal (s.refuse i n f) :=
  legal_failStep n _ _ (legal_of_roster (resolveRecord_roster ..) h)

theorem legal_answerPoll (r : InjectionRecord) (f : Frame) (h : StationsLegal s) : StationsLegal (s.answerPoll i r f) :=
  legal_ite (legal_of_roster (acceptLast_roster ..) h) (legal_ite (legal_of_roster (setSlot_roster ..) h)
    (legal_failStep _ _ _ (legal_of_roster (resolveRecord_roster ..) h)))
end

theorem legal_absorb (i : Nat) (f : Frame) (h : StationsLegal s) : StationsLegal (s.absorb i f) := by
  have late := legal_of_roster (count_roster .lateReplies) h
  have answered : ∀ (r : InjectionRecord) (t : State), t.roster = s.roster → StationsLegal
      (if f.kind = kindAck then t else if f.kind = kindNak then s.refuse i r.step f else s) := fun r t same =>
    legal_ite (legal_of_roster same h) (legal_ite (legal_refuse i _ f h) h)
  unfold State.absorb
  split
  · exact h
  · next r _ =>
    refine legal_ite (legal_of_roster (closeRecord_roster i) late) (legal_ite late ?_)
    split
    · exact answered r _ (acceptRestore_roster ..)
    · exact legal_ite (legal_answerPoll i r f h) h
    · exact answered r _ (acceptLast_roster ..)

theorem legal_timeOut (i : Nat) (r : InjectionRecord) (h : StationsLegal s) : StationsLegal (s.timeOut i r) :=
  legal_ite (legal_of_roster (by simp) h) (legal_failStep _ _ _ (legal_of_roster (setSlot_roster ..) h))

theorem injectionLeft_roster (f : Frame) : (s.injectionLeft f).roster = s.roster := by
  unfold State.injectionLeft
  repeat' split
  all_goals rfl

/-! ## The pool and the feeds -/

theorem snoop_roster (f : Frame) : (s.snoop f).roster = s.roster := by
  have point : ∀ (s : State) (p : Nat × Nat), (s.snoopPoint f.station f.seq p).roster = s.roster := fun s p => by
    unfold State.snoopPoint
    split
    · split <;> rfl
    · split
      · rfl
      · exact count_roster _
  unfold State.snoop
  split
  · exact foldl_keeps State.roster _ point _ s
  · rfl

theorem takeReading_roster (f : Feed) (v : Nat) : (s.takeReading f v).roster = s.roster := by
  unfold State.takeReading
  dsimp only
  split <;> exact setFeedRecord_roster ..

theorem legal_upTaps (f : Frame) (h : StationsLegal s) : StationsLegal (s.upTaps f) := by
  refine legal_ite (legal_of_roster (s := s) rfl h) (legal_ite (legal_of_roster (s := s) rfl h) ?_)
  split
  · exact legal_settle (legal_of_roster (takeReading_roster ..) h)
  · exact h

theorem foldContributions_roster : s.foldContributions.roster = s.roster := by
  refine (foldl_keeps State.roster _ (fun s c => ?_) _ _).trans rfl
  unfold State.fold
  dsimp only
  split <;> simp

theorem testStale_roster (f : Feed) : (s.testStale f).roster = s.roster := by
  unfold State.testStale
  dsimp only
  split <;> simp

theorem legal_countWait (f : Feed) (n : Nat) (h : StationsLegal s) : StationsLegal (s.countWait f n) := by
  have counted : ∀ r, ((s.markWait f).setFeedRecord f r).roster = s.roster := fun r => by simp
  exact legal_ite (legal_ite (legal_settle (legal_failStep n _ _ (legal_of_roster (counted _) h)))
    (legal_of_roster (counted _) h)) h

theorem legal_countWaits (h : StationsLegal s) : StationsLegal s.countWaits := by
  unfold State.countWaits
  split
  · exact legal_ite (legal_countWait _ _ (legal_countWait _ _ h)) (legal_countWait _ _ (legal_countWait _ _ h))
  · exact legal_countWait _ _ h
  · exact legal_countWait _ _ h
  · exact h

/-! ## Arrivals but the REQUEST's -/

theorem setPort_roster (p : Port) (x : PortState) : (s.setPort p x).roster = s.roster := by cases p <;> rfl

theorem receiveError_roster (p : Port) (e : ReceiveError) : (s.receiveError p e).roster = s.roster := by rw [receiveError_eq]; rfl

theorem legal_endSilence (h : StationsLegal s) : StationsLegal s.endSilence :=
  legal_ite (legal_ite (legal_settle (legal_of_roster (s := s) rfl h)) (legal_of_roster (s := s) rfl h)) h

theorem passDownFrame_roster (f : Frame) : (s.passDownFrame f).roster = s.roster := by rw [(passDownFrame_holds f).1]; rfl

theorem passUpFrame_roster (f : Frame) : (s.passUpFrame f).roster = s.roster := by rw [passUpFrame_shape]; rfl

theorem placeAlert_roster (f : Frame) : (s.placeAlert f).roster = s.roster := by rw [placeAlert_shape]; rfl

theorem legal_alertArrival (f : Frame) (h : StationsLegal s) : StationsLegal (s.alertArrival f) := by
  have overridden := foldl_kept StationsLegal (fun s a => s.settleFrom (s.overrideStation a)) ((s.placeAlert f).affected f)
    (fun s a _ k => legal_settleFrom s (legal_overrideStation a k)) _ (legal_of_roster (placeAlert_roster f) h)
  exact legal_ite overridden (legal_of_roster (addCause_roster _) overridden)

theorem legal_holdArrival (f : Frame) (h : StationsLegal s) : StationsLegal (s.holdArrival f) := by
  have entered := legal_holdEntry f.station f h
  exact legal_ite entered (legal_settleFrom s entered)

theorem legal_fArrival (f : Frame) (h : StationsLegal s) : StationsLegal (s.fArrival f) := by
  have classified : ∀ (t : State) (o : Option Nat), StationsLegal t → StationsLegal (t.classifyUp f o) := fun t o k => by
    cases o with
    | some i => exact legal_settleFrom t (legal_absorb i f k)
    | none => exact legal_of_roster (passUpFrame_roster f) k
  exact legal_ite (legal_of_roster (receiveError_roster ..) h)
    (legal_ite (legal_helloTap _ _ (classified s _ h)) (classified _ _ (legal_upTaps f h)))

/-! ## The closing of an event (R30, R35, R191) -/

theorem legal_fChoose (fuel : Nat) (h : StationsLegal s) : StationsLegal (s.fChoose fuel) := by
  induction fuel generalizing s with
  | zero => exact h
  | succ k ih =>
    have head : ∀ x g, (s.sendHead x g).roster = s.roster := fun x g => by
      unfold State.sendHead
      split <;> rfl
    unfold State.fChoose
    split
    · exact h
    · exact legal_of_roster (head _ _) h
    · refine legal_of_roster ?_ h
      unfold State.sendReserve
      split <;> rfl
    · exact legal_of_roster (head _ _) h
    · next a _ =>
      unfold State.sendDrain
      split
      · exact h
      · next f rest _ =>
        have taken : ((s.setQueue a rest).rearm).roster = s.roster := by simp
        exact legal_ite (legal_settleFrom _ (legal_checkDrain _ (legal_of_roster taken h))) (legal_of_roster taken h)
    · split
      · exact h
      · split
        · exact h
        · refine legal_ite (ih (legal_settle (legal_of_roster ?_ h))) (legal_of_roster ?_ h)
          · simp
          · exact (setEntry_roster ..).trans (setSlot_roster ..)

theorem legal_fArbiter (h : StationsLegal s) : StationsLegal s.fArbiter := legal_ite (legal_fChoose 128 h) h

theorem testNotice_roster (b : Bool) : (s.testNotice b).roster = s.roster := by
  unfold State.testNotice
  split <;> rfl

theorem sArbiter_roster : s.sArbiter.roster = s.roster := by rw [sArbiter_up]; rfl

theorem legal_close (r : State) (h : StationsLegal s) : StationsLegal (r.close s) :=
  legal_of_roster sArbiter_roster (legal_of_roster (testNotice_roster _) (legal_fArbiter h))

/-! ## Resets and the load (R59) -/

theorem legal_warmReset (h : StationsLegal s) : StationsLegal s.warmReset := by
  refine stationsLegal_iff.2 fun a => ?_
  have listed := h.listed a
  rw [warmReset_station]
  refine ⟨?_, fun k => Bool.noConfusion k, fun k => Bool.noConfusion k⟩
  unfold StationRecord.warm
  by_cases unlisted : (s.station a).state = .unlisted <;> simp [unlisted, ← listed]

theorem legal_takeReset (h : StationsLegal s) : StationsLegal s.takeReset := by
  unfold State.takeReset
  split
  · exact legal_warmReset h
  · exact legal_of_roster (s := State.reset) rfl stationsLegal_reset
  · exact h

theorem legal_loadStation (runs : Bool) (c : StationConfig) : RecordLegal runs (loadStation c) := by
  refine ⟨?_, fun k => Bool.noConfusion k, fun k => Bool.noConfusion k⟩
  unfold loadStation
  by_cases none : c.role = .none <;> simp [none]

/-- Each station record of a load is the default one or a configuration's (R59). -/
theorem takeImage_station (m : LoadedImage) (a : Nat) :
    (s.takeImage m).station a = .default ∨ ∃ c ∈ m.stations, (s.takeImage m).station a = loadStation c := by
  cases a with
  | zero => exact .inl rfl
  | succ k =>
    show getAt (tableOf 126 (m.stations.map loadStation) .default) k .default = _ ∨ ∃ c ∈ m.stations,
      getAt (tableOf 126 (m.stations.map loadStation) .default) k .default = _
    by_cases lt : k < 126
    · rw [getAt_tableOf _ _ _ _ lt]
      rcases getD_cases (m.stations.map loadStation) k .default with mem | default
      · obtain ⟨c, here, record⟩ := List.mem_map.1 mem
        exact .inr ⟨c, here, record.symm⟩
      · exact .inl default
    · exact .inl (by simp [getAt, lt])

theorem legal_loadEnd (answers : Bool) (h : StationsLegal s) : StationsLegal (s.loadEnd answers) := by
  have taken : ∀ m, StationsLegal (s.takeImage m) := fun m => stationsLegal_iff.2 fun a => by
    rcases takeImage_station (s := s) m a with e | ⟨c, -, e⟩ <;> rw [e]
    · exact legal_loadStation _ .default
    · exact legal_loadStation _ c
  refine legal_ite ?_ h
  dsimp only
  split
  · exact legal_of_roster (s := s.takeImage _) rfl (taken _)
  · exact legal_of_roster (s := s.takeImage _) rfl (taken _)

/-! ## Requests -/

/-- A PUT at STATIONS makes a station UNLISTED with the role NONE and lists it with another (R58). -/
theorem legal_putStations (args : List Byte) (h : StationsLegal s) : StationsLegal (s.putStations args).state := by
  unfold State.putStations
  split
  · exact h
  · next c _ =>
    dsimp only
    split
    · exact h
    · split
      · exact h
      · next free =>
        refine legal_of_roster (s := s.updateStation s.cursor.index fun r =>
          { r with config := c.clamp, state := roleWritten c.role r.state }) rfl (legal_update _ _ (fun own => ?_) h)
        obtain ⟨listed, member, pending⟩ := own
        simp only [Bool.and_eq_true, decide_eq_true_eq, ne_eq] at free
        have stays : (s.station s.cursor.index).state ≠ .online → (s.station s.cursor.index).state ≠ .unlisted →
            roleWritten c.role (s.station s.cursor.index).state = (s.station s.cursor.index).state := fun online unlisted => by
          rw [roleWritten_eq, if_neg online, if_neg unlisted, ite_self]
        refine ⟨?_, fun k => ?_, fun k => ?_⟩
        · show roleWritten c.role (s.station s.cursor.index).state = .unlisted ↔ c.role = .none
          rw [roleWritten_eq]
          by_cases role : c.role = .none
          · refine iff_of_true ?_ role
            rw [if_pos role]
            split
            · rfl
            · next online =>
              by_contra unlisted
              refine unlisted (listed.2 (by_contra fun other => free ⟨⟨fun same => ?_, online⟩, unlisted⟩))
              exact other (same.symm.trans role)
          · refine iff_of_false ?_ role
            rw [if_neg role]
            split
            · decide
            · assumption
        · obtain ⟨runs, held⟩ := member k
          refine ⟨runs, ?_⟩
          show roleWritten c.role _ = _ ∨ roleWritten c.role _ = _ ∨ roleWritten c.role _ = _
          rw [stays (by rcases held with e | e | e <;> rw [e] <;> decide) (by rcases held with e | e | e <;> rw [e] <;> decide)]
          exact held
        · have drains := pending k
          exact (stays (by rw [drains]; decide) (by rw [drains]; decide)).trans drains

theorem legal_reqPut (args : List Byte) (h : StationsLegal s) : StationsLegal (s.reqPut args).state := by
  have plan : (s.putPlan args).state.roster = s.roster := by
    unfold State.putPlan
    split
    · rfl
    · next r _ =>
      have written : (State.setEntry { s with plan := putAt s.plan s.cursor.index r.clamp } s.cursor.index .reset).roster
          = s.roster := setEntry_roster ..
      dsimp only
      repeat' split
      exacts [rfl, rfl, rfl, written]
  have payload : (s.putPayload args).state.roster = s.roster := by
    unfold State.putPayload
    repeat' split
    all_goals rfl
  have settings : (s.putSettings args).state.roster = s.roster := by
    unfold State.putSettings
    repeat' split
    all_goals rfl
  unfold State.reqPut
  split
  exacts [legal_putStations args h, legal_of_roster plan h, legal_of_roster payload h, legal_of_roster settings h, h, h, h]

theorem legal_reqStation (args : List Byte) (h : StationsLegal s) : StationsLegal (s.reqHold args).state
    ∧ StationsLegal (s.reqRelease args).state ∧ StationsLegal (s.reqClear args).state := by
  refine ⟨?_, ?_, ?_⟩
  · unfold State.reqHold
    split
    · split
      · exact h
      · split
        · next online => exact legal_settleFrom s (legal_enterHeld .held online h)
        · exact h
    · exact h
  · unfold State.reqRelease
    repeat' split
    all_goals first | exact h | exact legal_settleFrom s (legal_enterDraining _ (legal_leaveRun _ _ h))
  · unfold State.reqClear
    split
    · split
      · exact h
      · split
        · next out =>
          simp only [Bool.or_eq_true, decide_eq_true_eq] at out
          refine legal_update _ StationRecord.clear (fun own => own.moved ?_ rfl (by simp [StationRecord.clear]) (fun k => ?_)
            fun k => ?_) h
          · rcases out with e | e <;> rw [e] <;> decide
          · have := (own.member k).2
            rcases out with e | e <;> simp [e] at this
          · have := own.pending k
            rcases out with e | e <;> simp [e] at this
        · exact h
    · exact h

theorem legal_holdList (l : List Nat) (h : StationsLegal s) : StationsLegal (s.holdList l) := by
  refine foldl_kept StationsLegal _ l (fun s a _ k => ?_) s h
  split
  · next online => exact legal_enterHeld .held online k
  · exact k

theorem legal_reqRun (args : List Byte) (h : StationsLegal s) : StationsLegal (s.reqStart args).state
    ∧ StationsLegal (s.reqSuspend args).state ∧ StationsLegal (s.reqResume args).state
    ∧ StationsLegal (s.reqAbort args).state := by
  refine ⟨?_, ?_, ?_, ?_⟩
  · unfold State.reqStart
    repeat' split
    all_goals first | exact h | exact legal_settle (legal_started (legal_holdList _ h))
  · unfold State.reqSuspend
    split
    · exact legal_of_roster (addCause_roster _) h
    · exact h
  · unfold State.reqResume
    repeat' split
    all_goals first | exact h | exact legal_settle (legal_of_roster (s := s) rfl h)
  · unfold State.reqAbort
    split
    · exact legal_ite (legal_abortRun h) h
    · exact h

theorem legal_reqFollowed (args : List Byte) (h : StationsLegal s) : StationsLegal (s.reqPointDrop args).state
    ∧ StationsLegal (s.reqSetFeed args).state := by
  refine ⟨?_, ?_⟩
  · unfold State.reqPointDrop
    repeat' split
    all_goals first | exact h | exact legal_settleFrom s (legal_of_roster (s := s) rfl h)
  · unfold State.reqSetFeed
    repeat' split
    all_goals first | exact h | exact legal_settle (legal_of_roster (setFeedRecord_roster ..) h)

/-- The requests that write no station record and no run. -/
theorem request_rosters (args : List Byte) : (s.reqSelect args).state.roster = s.roster ∧ (s.reqGet args).state.roster = s.roster
    ∧ (s.reqPointGet args).state.roster = s.roster ∧ (s.reqPointList args).state.roster = s.roster
    ∧ (s.reqPointPut args).state.roster = s.roster ∧ (s.reqRunStatus args).state.roster = s.roster
    ∧ (s.reqReadLine args).state.roster = s.roster ∧ (s.reqReadClear args).state.roster = s.roster
    ∧ (s.reqReadCounters args).state.roster = s.roster ∧ (s.reqStore args).state.roster = s.roster
    ∧ ∀ k, (s.reqReset k args).state.roster = s.roster := by
  refine ⟨?_, ?_, ?_, ?_, ?_, ?_, ?_, ?_, ?_, ?_, fun k => ?_⟩
  · unfold State.reqSelect; repeat' split
    all_goals rfl
  · unfold State.reqGet; split <;> rfl
  · unfold State.reqPointGet; repeat' split
    all_goals rfl
  · unfold State.reqPointList; repeat' split
    all_goals rfl
  · unfold State.reqPointPut
    split
    · split
      · rfl
      · dsimp only
        repeat' split
        all_goals rfl
    · rfl
  · unfold State.reqRunStatus; split <;> rfl
  · unfold State.reqReadLine; split <;> rfl
  · unfold State.reqReadClear; repeat' split
    all_goals rfl
  · unfold State.reqReadCounters; split <;> rfl
  · unfold State.reqStore; repeat' split
    all_goals rfl
  · unfold State.reqReset; repeat' split
    all_goals rfl

theorem legal_execute (code : Byte) (args : List Byte) (h : StationsLegal s) : StationsLegal (s.execute code args).state := by
  obtain ⟨hold, release, clear⟩ := legal_reqStation args h
  obtain ⟨start, suspend, resume, abort⟩ := legal_reqRun args h
  obtain ⟨pointDrop, setFeed⟩ := legal_reqFollowed args h
  obtain ⟨select, get, pointGet, pointList, pointPut, runStatus, readLine, readClear, readCounters, store, reset⟩ :=
    request_rosters (s := s) args
  have same : ∀ r : Response, r.state.roster = s.roster → StationsLegal r.state := fun _ e => legal_of_roster e h
  unfold State.execute
  split
  exacts [same _ select, same _ get, legal_reqPut args h, same _ pointGet, same _ pointList, same _ pointPut, pointDrop, hold,
    release, clear, start, suspend, resume, abort, same _ runStatus, setFeed, same _ readLine, same _ readClear, same _ readCounters,
    same _ store, same _ (reset .warm), same _ (reset .cold), h]

theorem legal_finish (r : Response) {b : Bool} {seq code : Byte} (h : StationsLegal r.state) :
    StationsLegal (r.finish b seq code) := by
  have placed := legal_of_roster (placeReply_roster
    { frame := answerFrame seq code r.status r.wrapped (r.detail r.state.fArbiter), isReset := r.isReset }) (legal_fArbiter h)
  exact legal_ite (legal_takeReset (legal_of_roster (testNotice_roster b) placed)) placed

theorem legal_request (b : Bool) (seq : Byte) (payload : List Byte) (h : StationsLegal s) :
    StationsLegal (s.request b seq payload) := by
  have executed : StationsLegal (s.respond payload).state := by
    unfold State.respond
    split
    · exact h
    · split
      · exact h
      · split
        · exact h
        · exact legal_execute _ _ h
  have noticed : StationsLegal ((s.respond payload).afterNotice s b).state := by
    unfold Response.afterNotice
    split
    · exact legal_of_roster (s := (s.respond payload).state) rfl executed
    · exact executed
  have finished := legal_finish (b := b) (seq := seq) (code := payload.headD 0) _ noticed
  exact legal_ite (legal_of_roster (testNotice_roster true) finished) finished

/-! ## Arrivals and the lines -/

theorem legal_arrive (p : Port) (f : Frame) (h : StationsLegal s) : StationsLegal (s.arrive p f) := by
  have ended : StationsLegal (s.endFrame p) := legal_of_roster (setPort_roster ..) h
  cases p with
  | f => exact legal_fArrival f ended
  | s =>
    have heard : StationsLegal ((s.endFrame .s).reloadSilence.endSilence) :=
      legal_endSilence (legal_of_roster (s := s.endFrame .s) rfl ended)
    have passed := legal_of_roster (passDownFrame_roster f) heard
    exact legal_ite (legal_ite (legal_request _ _ _ heard) (legal_of_roster (receiveError_roster ..) heard))
      (legal_ite (legal_alertArrival f heard) (legal_ite passed (legal_ite (legal_holdArrival f heard) passed)))

section
variable (p : Port)

theorem setAssembly_roster (x : Assembly) : (s.setAssembly p x).roster = s.roster := setPort_roster ..

theorem erred_roster (x : Assembly) (e : ReceiveError) : ((s.setAssembly p x).receiveError p e).roster = s.roster :=
  (receiveError_roster ..).trans (setAssembly_roster p x)

theorem legal_takeCharacter (v : Byte) (marker stop : Bool) (h : StationsLegal s) :
    StationsLegal (s.takeCharacter p v marker stop) := by
  have mark : (s.takeMarker p v).roster = s.roster := by
    unfold State.takeMarker
    dsimp only
    repeat' split
    all_goals first | exact setAssembly_roster p _ | exact erred_roster p _ _
  have data : ∀ a d, StationsLegal (s.takeData p a d) := fun a d => by
    unfold State.takeData
    dsimp only
    repeat' split
    exacts [legal_of_roster (erred_roster p _ _) h, legal_arrive p _ h, legal_of_roster (erred_roster p _ _) h,
      legal_of_roster (setAssembly_roster p _) h]
  unfold State.takeCharacter
  repeat' split
  exacts [h, legal_of_roster (erred_roster p _ _) h, legal_of_roster mark h, legal_of_roster (receiveError_roster ..) h, data _ _,
    h]

theorem gapTimeout_roster : (s.gapTimeout p).roster = s.roster := by
  unfold State.gapTimeout
  split
  · exact erred_roster p _ _
  · rfl
  · rfl

theorem takeBreak_roster : (s.takeBreak p).roster = s.roster :=
  roster_ite rfl (roster_ite (setPort_roster ..) (setPort_roster ..))

theorem endBreak_roster : (s.endBreak p).roster = s.roster := roster_ite (setPort_roster ..) rfl

theorem quietExpires_roster : (s.quietExpires p).roster = s.roster :=
  roster_ite (roster_ite (setPort_roster ..) (setPort_roster ..)) rfl
end

/-! ## The transmitters, the timers and the memory -/

theorem fLeaves_roster : s.fLeaves.roster = s.roster := by
  unfold State.fLeaves
  split
  · rfl
  · dsimp only
    split
    · exact injectionLeft_roster _
    · rfl
    all_goals exact roster_ite (snoop_roster _) rfl

theorem legal_sLeaves (h : StationsLegal s) : StationsLegal s.sLeaves := by
  have freed : StationsLegal { s with wireS := none } := legal_of_roster (s := s) rfl h
  unfold State.sLeaves
  split
  · exact h
  · dsimp only
    split
    · exact freed
    · exact legal_ite (legal_takeReset freed) freed
    · exact legal_of_roster (s := s) rfl h

theorem legal_replyExpires (i : Nat) (h : StationsLegal s) : StationsLegal (s.replyExpires i) := by
  unfold State.replyExpires
  split
  · exact legal_ite (legal_settleFrom s (legal_timeOut i _ h)) h
  · exact h

theorem legal_closingExpires (i : Nat) (h : StationsLegal s) : StationsLegal (s.closingExpires i) := by
  unfold State.closingExpires
  split
  · exact legal_ite (legal_settle (legal_of_roster (closeRecord_roster i) h)) h
  · exact h

theorem repollExpires_roster (i : Nat) : (s.repollExpires i).roster = s.roster := by
  unfold State.repollExpires
  split
  · exact roster_ite (makePoll_roster i) rfl
  · rfl

theorem legal_settleExpires (n : Nat) (h : StationsLegal s) : StationsLegal (s.settleExpires n) :=
  legal_ite (legal_settleFrom s (legal_of_roster (setEntry_roster ..) h)) h

theorem legal_sliceExpires (h : StationsLegal s) : StationsLegal s.sliceExpires := by
  refine legal_settle (legal_countWaits (legal_of_roster (s := s) ?_ h))
  exact (testStale_roster _).trans ((testStale_roster _).trans (foldContributions_roster.trans rfl))

theorem silenceExpires_roster : s.silenceExpires.roster = s.roster := by
  unfold State.silenceExpires
  refine roster_ite ?_ rfl
  dsimp only
  split
  · exact addCause_roster _
  · rfl

theorem secondExpires_roster : s.secondExpires.roster = s.roster := roster_ite rfl rfl

theorem spacingExpires_roster : s.spacingExpires.roster = s.roster := roster_ite (roster_ite rfl rfl) rfl

theorem storeEnds_roster (agrees : Bool) : (s.storeEnds agrees).roster = s.roster := by
  unfold State.storeEnds
  split
  · rfl
  · exact roster_ite rfl rfl

/-! ## Every command -/

theorem exec_keeps_stationsLegal (c : Instr) (e : exec c s = .next t) (h : StationsLegal s) : StationsLegal t := by
  have closed : ∀ u, StationsLegal u → s.concluded u = .next t → StationsLegal t := fun u k e => by
    injection e with e
    exact e ▸ legal_close s k
  have same : ∀ u, u.roster = s.roster → s.concluded u = .next t → StationsLegal t := fun u k =>
    closed u (legal_of_roster k h)
  cases c
  case powerOnReset x =>
    injection e with e
    exact e ▸ legal_of_roster (s := State.reset) rfl stationsLegal_reset
  case bridgeTimeIncrement =>
    injection e with e
    exact e ▸ legal_of_roster (s := s) rfl h
  case configurationLoadEnd b => exact closed _ (legal_loadEnd b h) e
  case receiveCharacter p v m stop => exact closed _ (legal_takeCharacter p v m stop h) e
  case gapTimeout p => exact same _ (gapTimeout_roster p) e
  case breakTaken p => exact same _ (takeBreak_roster p) e
  case breakEnd p => exact same _ (endBreak_roster p) e
  case quietTimerExpiry p => exact same _ (quietExpires_roster p) e
  case fFrameArrival f => exact closed _ (legal_arrive .f f h) e
  case fTransmitComplete => exact same _ fLeaves_roster e
  case sTransmitComplete => exact closed _ (legal_sLeaves h) e
  case replyTimeout i => exact closed _ (legal_replyExpires i h) e
  case closingDeadlineExpiry i => exact closed _ (legal_closingExpires i h) e
  case repollWaitExpiry i => exact same _ (repollExpires_roster i) e
  case settleExpiry n => exact closed _ (legal_settleExpires n h) e
  case sliceExpiry => exact closed _ (legal_sliceExpires h) e
  case silenceTimerExpiry => exact same _ silenceExpires_roster e
  case secondTimerExpiry => exact same _ secondExpires_roster e
  case spacingTimerExpiry => exact same _ spacingExpires_roster e
  case storeComplete b => exact same _ (storeEnds_roster b) e
  all_goals exact closed _ (legal_arrive .s _ h) e

/-- Settles O7: the step is a command with the queue's rest, and every command keeps the station records legal. -/
theorem stepKeepsStationsLegal : Obligations.StepKeepsStationsLegal := by
  unfold Obligations.StepKeepsStationsLegal
  intro s t h e
  unfold step at e
  split at e
  · injection e with e
    exact e ▸ h
  · next c rest _ => exact exec_keeps_stationsLegal c e (legal_of_roster (s := s) rfl h)

end Sys2Proof.Machine
end

section
/-! SUPPORT. A HELLO that restarts the steps of its member station (R51, R141). -/

namespace Sys2Proof.Machine

section
variable {b u z : State} {f : Frame} (held : HeldFrom b f u z)
include held

theorem HeldFrom.settleFrom (w : State) : z.settleFrom w = b.settleFrom w := by
  have moment : z.grantMoment w = b.grantMoment w := by
    refine grantMoment_congr ?_ ?_ ?_ ?_ w
    all_goals rw [held.shape]
  unfold State.settleFrom
  rw [moment]

/-- What the restart of the steps of a station HELD by a HELLO leaves. -/
theorem heldFrom_restarts (own : Nat → Bool) (ownsIff : ∀ n, own n = ((b.step n).used && decide ((b.step n).station = f.station))) :
    let w := z.restartSteps f.station .hello
    SameGround u w ∧ w.queues = u.queues
      ∧ (∀ n, w.entry n = if own n = true ∧ (b.entry n).state ≠ .skipped ∧ (b.entry n).state ≠ .pending then
          { b.entry n with state := .pending, cause := .none, nak := 0, settle := none } else b.entry n)
      ∧ (∀ a, w.station a = if a = f.station then { b.station a with state := .held, history := helloHistory b f }
          else b.station a)
      ∧ (∀ i, w.slot i = if b.slotOf f.station = some i then cancelled (b.slot i) else b.slot i)
      ∧ w.contributions = b.contributions.map (fun c =>
          if own c.step = true ∧ (b.entry c.step).state = .issued then { c with running := true } else c)
      ∧ w.run = b.run := by
  intro w
  have entries : ∀ n, z.entry n = b.entry n := entry_congr (by rw [held.shape])
  have steps : ∀ n, z.step n = b.step n := fun n => by simp [State.step, show z.plan = b.plan by rw [held.shape]]
  have slots : z.slots = b.slots := by rw [held.shape]
  have clocks : z.contributions = b.contributions := by rw [held.shape]
  obtain ⟨⟨entry, slot, contributions, run, seq⟩, stations⟩ := restartSteps_restarts (s := z) f.station .hello
  have core : w.core = z.core := restartSteps_core z f.station .hello
  have returns : ∀ x : StepState, Restart.hello.returns x = true ↔ x ≠ .skipped := fun x => by simp [Restart.returns]
  simp only [entries, steps, ← ownsIff, slot_congr slots, slotOf_congr slots, clocks, returns] at entry slot contributions
  refine ⟨held.ground.trans (sameGround_of_core core seq), (congrArg State.queues core :).trans held.ground.queues, entry,
    fun a => (station_congr stations a).trans (held.station a), slot,
    contributions.trans (List.map_congr_left fun c _ => if_congr ?_ rfl rfl), run.trans (by rw [held.shape])⟩
  exact ⟨fun ⟨own, _, issued⟩ => ⟨own, issued⟩, fun ⟨own, issued⟩ => ⟨own, by rw [issued]; decide, issued⟩⟩
end

/-- In a run a HELLO from a HELD or RESTORING member returns the station to HELD and its steps to PENDING (R51). -/
theorem helloEffect_restarts {b h : State} {f : Frame} (valid : validStation f.station = true) (record : Recorded b f h)
    (holding : (b.station f.station).state = .held ∨ (b.station f.station).state = .restoring)
    (member : (b.station f.station).member = true) (runs : b.run.inProgress = true) (kept : Bool) :
    ∃ z, HeldFrom b f b z ∧ h.helloEffect f.station kept = b.settleFrom (z.restartSteps f.station .hello) := by
  have held := heldFrom_update valid record
  obtain ⟨z, hz⟩ : ∃ z, z = h.updateStation f.station (fun r => { r with state := .held }) := ⟨_, rfl⟩
  rw [← hz] at held
  have state : (h.station f.station).state = (b.station f.station).state := by rw [record.station, if_pos rfl]
  have restarts : h.helloEffect f.station kept = h.helloRestart f.station := by
    unfold State.helloEffect
    rw [state]
    rcases holding with now | now
    all_goals rw [now]
  have memberZ : (z.station f.station).member = true := by rw [held.station, if_pos rfl]; exact member
  have runsZ : z.run.inProgress = true := by rw [held.shape]; exact runs
  refine ⟨z, held, ?_⟩
  rw [restarts, ← held.settleFrom]
  unfold State.helloRestart
  rw [← hz]
  dsimp only
  rw [if_pos runsZ, if_pos memberZ]

/-- A record cancelled with an attempt outstanding (R141). -/
theorem cancelled_outstanding {r : InjectionRecord} (isOpen : r.closing = false) (out : r.outstanding.isSome = true) :
    cancelled (some r) = some { r with closing := true, ready := none, further := none } := by
  simp [cancelled, isOpen, out]

/-- Settles O29: the station HELD as it stands, the restart of its steps, and the follow-up. -/
theorem helloRestartsTheSteps : Obligations.HelloRestartsTheSteps := by
  unfold Obligations.HelloRestartsTheSteps
  intro s f busy valid hello listed b holding member runs calm own
  obtain ⟨h, v, record, arrives⟩ := hello_effect busy valid hello listed calm
  have left : Untouched s b := untouched_classifyUp_hello hello _
  have queues : b.queues = s.queues := classifyUp_hello_keeps hello _ State.queues (fun _ _ k => (congrArg State.queues k :))
    (fun t => by rw [count_eq]) (fun t => by rw [passUpFrame_shape])
  have owns : ∀ n, own n = ((b.step n).used && decide ((b.step n).station = f.station)) := fun n => by
    simp only [State.step, left.plan]
    rfl
  obtain ⟨z, held, same⟩ := helloEffect_restarts valid record holding member runs (decide (f.payload.getD 1 0 ≠ 0))
  obtain ⟨ground, wQueues, entry, station, slot, clocks, run⟩ := heldFrom_restarts held own owns
  obtain ⟨w, hw⟩ : ∃ w, w = z.restartSteps f.station .hello := ⟨_, rfl⟩
  obtain ⟨t, ht⟩ : ∃ t, t = b.settleFrom w := ⟨_, rfl⟩
  rw [← hw] at same ground wQueues entry station slot clocks run
  rw [same, ← ht] at arrives
  have turned : EntriesTurn w t := ht ▸ entriesTurn_followUp _ w
  have records : SlotsTurn w t := ht ▸ slotsTurn_followUp _ w
  have tQueues : t.queues = w.queues := ht ▸ settleFrom_queues b w
  refine ⟨w, t.upward v, arrives, tQueues.trans (wQueues.trans queues), ground, entry, station, slot, clocks, run,
    ht ▸ ⟨rfl, rfl, rfl, rfl, rfl, rfl⟩, fun n mine unskipped moved => ?returned, fun n ended spared => ?spared,
    fun i r found here isOpen out => ?record⟩
  case returned =>
    have returned := (entry n).trans (if_pos ⟨mine, unskipped, moved⟩)
    obtain ⟨cause, nak, attempts, -, -⟩ := turned n
    rw [returned] at cause nak attempts
    exact ⟨cause, nak, attempts⟩
  case spared =>
    have stays : w.entry n = b.entry n := (entry n).trans (if_neg fun k => spared.elim (fun other => by simp [other] at k) k.2.1)
    refine Eq.trans ((turned n).rests ?_ ?_ ?_) stays
    all_goals
      rw [stays]
      intro now
      rw [now] at ended
      cases ended
  case record =>
    refine records.kept i _ ((slot i).trans ?_)
    rw [if_pos found, here, cancelled_outstanding isOpen out]

end Sys2Proof.Machine
end

section
/-! SUPPORT. A station that drains on, and the station of a fault request (R44, R46). -/

namespace Sys2Proof.Machine

variable {s : State}

/-! ## Stations that drain on through the follow-up -/

/-- From `s` to `t` a DRAINING station stays so, its pending fault as it is. -/
def DrainsOn (s t : State) : Prop := ∀ a, (s.station a).state = .draining →
  (t.station a).state = .draining ∧ (t.station a).faultPending = (s.station a).faultPending

theorem DrainsOn.trans {t u : State} (h : DrainsOn s t) (k : DrainsOn t u) : DrainsOn s u := fun a drains => by
  obtain ⟨on, pending⟩ := h a drains
  exact ⟨(k a on).1, (k a on).2.trans pending⟩

theorem drainsOn_of_same {t : State} (same : t.stations = s.stations) : DrainsOn s t := fun a drains => by
  rw [station_congr same]
  exact ⟨drains, rfl⟩

theorem drainsOn_update {a : Nat} {g : StationRecord → StationRecord} (off : (s.station a).state ≠ .draining) :
    DrainsOn s (s.updateStation a g) := fun b drains => by
  rw [updateStation_station, if_neg (by rintro ⟨rfl, -⟩; exact off drains)]
  exact ⟨drains, rfl⟩

theorem drainsOn_leaveRun (a : Nat) (d : Bool) : DrainsOn s (s.leaveRun a d) := fun b drains => by
  rw [leaveRun_station]
  split
  · exact ⟨drains, rfl⟩
  · exact ⟨drains, rfl⟩

/-- A drain's end touches its own station alone. -/
theorem checkDrain_station_ne {a b : Nat} (other : a ≠ b) : (s.checkDrain a).station b = s.station b := by
  unfold State.checkDrain
  split
  · rw [drainEnd_eq, leaveRun_station, if_neg other, station_congr (drainOver_keeps a).1, updateStation_station, if_neg fun k => other k.1]
  · rfl

theorem drainsOn_enterDraining (a : Nat) : DrainsOn s (s.enterDraining a) := fun b drains => by
  unfold State.enterDraining
  split
  · next holding =>
    have other : a ≠ b := fun same => by
      subst same
      rw [drains] at holding
      cases holding
    rw [checkDrain_station_ne other, updateStation_station, if_neg fun k => other k.1]
    exact ⟨drains, rfl⟩
  · exact ⟨drains, rfl⟩

theorem clearMembers_station (a : Nat) : s.clearMembers.station a = { s.station a with member := false } := by
  cases a with
  | zero => rfl
  | succ k => exact getAt_mapTable s.stations (fun r : StationRecord => { r with member := false }) k .default

theorem drainsOn_drainMembers : DrainsOn s s.drainMembers := by
  have drained := foldl_kept (DrainsOn s) State.enterDraining (stationNumbers.filter (fun a => (s.station a).member))
    (fun t a _ reached => reached.trans (drainsOn_enterDraining a)) s (drainsOn_of_same rfl)
  refine drained.trans fun a drains => ?_
  unfold State.drainMembers
  rw [clearMembers_station]
  exact ⟨drains, rfl⟩

theorem evaluateAll_stations : s.evaluateAll.stations = s.stations :=
  foldl_keeps State.stations _ (fun _ n => evaluate_stations n) _ s

/-- A DRAINING station drains on through the follow-up. -/
theorem drainsOn_followUp (due : Bool) (s : State) : DrainsOn s (State.followUp due s) := by
  refine followUp_turns ⟨fun t => drainsOn_of_same rfl, fun _ _ _ => DrainsOn.trans,
    fun t n => drainsOn_of_same (evaluate_stations n), fun t n _ => ?_, fun t f => drainsOn_of_same (markWait_keeps f).2.2,
    fun t i n _ _ _ => ?_, fun t o _ => drainsOn_drainMembers⟩ due s
  · have settled : DrainsOn t (t.settleStep n) := drainsOn_of_same (by unfold State.settleStep; split <;> simp)
    unfold State.completeFrameless
    dsimp only
    split
    · exact settled.trans (drainsOn_enterDraining _)
    · exact settled
  · have issued : DrainsOn t (t.issue i n (t.step n)) := drainsOn_of_same (issue_stations ..)
    rw [grant_eq]
    split
    · next held => exact issued.trans (drainsOn_update (by rw [held]; decide))
    · exact issued

/-! ## The station of a fault request -/

/-- A station record after a fault request: `empty` says that its hold queue is. -/
def faultedRecord (cause : FaultCause) (empty : Bool) (r : StationRecord) : StationRecord :=
  match r.state with
  | .online => { r with state := .faulted, faultCause := some cause }
  | .held | .restoring =>
    if empty then { r with state := .faulted, faultCause := some cause, member := false }
    else { r with state := .draining, faultPending := true, faultCause := some cause, member := false }
  | .draining => if r.faultPending then r else { r with faultPending := true, faultCause := some cause, member := false }
  | .unlisted | .faulted | .overridden => r

theorem updateStation_own {a : Nat} (valid : validStation a = true) (g : StationRecord → StationRecord) :
    (s.updateStation a g).station a = g (s.station a) := by
  rw [updateStation_station, if_pos ⟨rfl, valid⟩]

theorem leaveRun_updated {a : Nat} (valid : validStation a = true) (g : StationRecord → StationRecord) (d : Bool) :
    ((s.updateStation a g).leaveRun a d).station a = { g (s.station a) with member := false } := by
  rw [leaveRun_station, if_pos rfl, updateStation_own valid]

theorem faultRequest_own {a : Nat} (valid : validStation a = true) (c : FaultCause) :
    (s.faultRequest a c).station a = faultedRecord c (s.queue a).isEmpty (s.station a) := by
  unfold State.faultRequest faultedRecord
  cases now : (s.station a).state with
  | online =>
    dsimp only
    rw [raise_station, updateStation_own valid]
  | held | restoring =>
    dsimp only
    split
    · rw [raise_station, leaveRun_updated valid]
    · rw [leaveRun_updated valid]
  | draining =>
    dsimp only
    split
    · rfl
    · rw [leaveRun_updated valid, now]
  | unlisted | faulted | overridden => rfl

/-- The three outcomes of a fault request at its station: FAULTED at once, draining to be FAULTED, or left as it drains (R44, R46). -/
theorem faultedRecord_faulted {c : FaultCause} {empty : Bool} {r : StationRecord}
    (h : r.state = .online ∨ ((r.state = .held ∨ r.state = .restoring) ∧ empty = true)) :
    (faultedRecord c empty r).state = .faulted ∧ (faultedRecord c empty r).faultCause = some c := by
  unfold faultedRecord
  rcases h with now | ⟨now | now, rfl⟩
  all_goals
    rw [now]
    exact ⟨rfl, rfl⟩

theorem faultedRecord_drains {c : FaultCause} {empty : Bool} {r : StationRecord}
    (h : ((r.state = .held ∨ r.state = .restoring) ∧ empty = false) ∨ (r.state = .draining ∧ r.faultPending = false)) :
    (faultedRecord c empty r).state = .draining ∧ (faultedRecord c empty r).faultPending = true
      ∧ (faultedRecord c empty r).faultCause = some c := by
  unfold faultedRecord
  rcases h with ⟨now | now, rfl⟩ | ⟨now, clear⟩
  · rw [now]
    exact ⟨rfl, rfl, rfl⟩
  · rw [now]
    exact ⟨rfl, rfl, rfl⟩
  · simp [now, clear]

theorem faultedRecord_leaves {c : FaultCause} {empty : Bool} {r : StationRecord}
    (h : r.state = .held ∨ r.state = .restoring ∨ (r.state = .draining ∧ r.faultPending = false)) :
    (faultedRecord c empty r).member = false := by
  unfold faultedRecord
  rcases h with now | now | ⟨now, clear⟩
  · rw [now]
    cases empty <;> rfl
  · rw [now]
    cases empty <;> rfl
  · simp [now, clear]

/-- What the follow-up leaves of the station of a fault request. -/
theorem faultRequest_settles {a : Nat} (valid : validStation a = true) (c : FaultCause) {t : State}
    (turned : StationsTurn (s.faultRequest a c) t) (drains : DrainsOn (s.faultRequest a c) t) :
    let x := s.station a
    (x.state = .online ∨ ((x.state = .held ∨ x.state = .restoring) ∧ s.queue a = []) →
      (t.station a).state = .faulted ∧ (t.station a).faultCause = some c)
    ∧ (((x.state = .held ∨ x.state = .restoring) ∧ s.queue a ≠ []) ∨ (x.state = .draining ∧ x.faultPending = false) →
      (t.station a).state = .draining ∧ (t.station a).faultPending = true ∧ (t.station a).faultCause = some c)
    ∧ (x.state = .draining → x.faultPending = true →
      (t.station a).state = .draining ∧ (t.station a).faultPending = true ∧ (t.station a).faultCause = x.faultCause)
    ∧ (x.state = .held ∨ x.state = .restoring ∨ (x.state = .draining ∧ x.faultPending = false) →
      (t.station a).member = false) := by
  intro x
  have own := faultRequest_own (s := s) valid c
  have stays := turned a
  have on := drains a
  rw [own] at stays on
  refine ⟨fun h => ?faulted, fun h => ?drains, fun now pending => ?keeps, fun h => ?leaves⟩
  case faulted =>
    obtain ⟨state, cause⟩ := faultedRecord_faulted (c := c) (empty := (s.queue a).isEmpty) (r := x)
      (h.imp_right fun k => ⟨k.1, by rw [k.2]; rfl⟩)
    refine ⟨(stays.rests ?_ ?_ ?_).trans state, stays.cause.trans cause⟩
    all_goals
      rw [state]
      decide
  case drains =>
    obtain ⟨state, pending, cause⟩ := faultedRecord_drains (c := c) (empty := (s.queue a).isEmpty) (r := x)
      (h.imp_left fun k => ⟨k.1, by simpa using k.2⟩)
    exact ⟨(on state).1, (on state).2.trans pending, stays.cause.trans cause⟩
  case keeps =>
    have same : faultedRecord c (s.queue a).isEmpty x = x := by simp [faultedRecord, now, pending]
    rw [same] at stays on
    exact ⟨(on now).1, (on now).2.trans pending, stays.cause⟩
  case leaves =>
    by_contra member
    have was := stays.member (by simpa using member)
    rw [faultedRecord_leaves h] at was
    cases was

/-- A fault request that takes effect at once raises "faulted". -/
theorem faultRequest_raises {a : Nat} {c : FaultCause}
    (h : (s.station a).state = .online ∨ (((s.station a).state = .held ∨ (s.station a).state = .restoring) ∧ s.queue a = [])) :
    (s.faultRequest a c).isPending .faulted = true := by
  unfold State.faultRequest
  rcases h with now | ⟨now | now, empty⟩
  · rw [now]
    exact raise_isPending _ _
  · rw [now, empty]
    exact raise_isPending _ _
  · rw [now, empty]
    exact raise_isPending _ _

/-- The used steps of a member that a fault request takes from the run. -/
theorem faultRequest_entry {a : Nat} {c : FaultCause} (valid : validStation a = true)
    (h : (s.station a).state = .held ∨ (s.station a).state = .restoring
      ∨ ((s.station a).state = .draining ∧ (s.station a).faultPending = false))
    (member : (s.station a).member = true) (runs : s.run.inProgress = true) {n : Nat} (used : (s.step n).used = true)
    (own : (s.step n).station = a) : (s.faultRequest a c).entry n = leftEntry false (s.entry n) := by
  have leaves : ∀ g : StationRecord → StationRecord, (g (s.station a)).member = true →
      ((s.updateStation a g).leaveRun a false).entry n = leftEntry false (s.entry n) := fun g m => by
    have step : (s.updateStation a g).step n = s.step n := by simp [State.step]
    refine (leaveRun_entry false ?_ ?_ ?_ ?_).trans (congrArg _ (entry_congr (updateStation_entries ..) n))
    · rw [updateStation_own valid]
      exact m
    · rw [updateStation_run]
      exact runs
    · rw [step]
      exact used
    · rw [step]
      exact own
  unfold State.faultRequest
  rcases h with now | now | ⟨now, clear⟩
  iterate 2
    · rw [now]
      dsimp only
      split
      · exact leaves _ member
      · exact leaves _ member
  · rw [now]
    dsimp only
    rw [clear]
    exact leaves _ member

end Sys2Proof.Machine
end

section
/-! SUPPORT. The pending flag of "storm": what raises none (R48, R190). -/

namespace Sys2Proof.Machine

variable {s : State}

/-- An event leaves the flags of the others as they are. -/
theorem raise_isPending_of_ne (e d : NoticeEvent) (other : e ≠ d) : (s.raise e).isPending d = s.isPending d := by
  by_cases group : e.group = d.group
  · have unset : e.mask.getLsbD d.bit = false := by
      revert other group
      cases e <;> cases d <;> decide
    simp only [State.isPending, State.pendingGroup, State.raise]
    rw [group, getAt_putAt_self _ _ _ _ (group_lt d), BitVec.getLsbD_or, unset, Bool.or_false]
  · exact raise_isPending_of_group_ne s e d group

/-- From `s` to `t` the pending flag of "storm" is as it was. -/
def Calm (s t : State) : Prop := t.isPending .storm = s.isPending .storm

theorem Calm.rfl' (s : State) : Calm s s := rfl
theorem Calm.trans {t u : State} (h : Calm s t) (k : Calm t u) : Calm s u := Eq.trans k h

theorem calm_of_same {t : State} (same : t.noticePending = s.noticePending) : Calm s t := isPending_congr same _

theorem calm_raise (e : NoticeEvent) (other : e ≠ .storm) : Calm s (s.raise e) := raise_isPending_of_ne e _ other

theorem calm_count (c : Counter) : Calm s (s.count c) := count_isPending_of_ne s c _ (by decide)

theorem calm_foldl {α : Type} (f : State → α → State) (h : ∀ s a, Calm s (f s a)) (l : List α) (s : State) : Calm s (l.foldl f s) :=
  foldl_keeps (fun t : State => t.isPending .storm) f h l s

section
variable (a n i : Nat) (d : Bool)

theorem calm_setEntry (e : StepEntry) : Calm s (s.setEntry n e) := calm_of_same (setEntry_noticePending ..)
theorem calm_updateStation (g : StationRecord → StationRecord) : Calm s (s.updateStation a g) :=
  calm_of_same (updateStation_noticePending ..)

/-! ## The Run Engine's moves -/

theorem calm_evaluate : Calm s (s.evaluate n) := by
  unfold State.evaluate
  split
  · split
    · exact calm_setEntry n _
    · exact .rfl' s
    · split <;> exact calm_setEntry n _
  · exact .rfl' s

theorem calm_cancelRecordOf : Calm s (s.cancelRecordOf a n) := by
  unfold State.cancelRecordOf State.cancelRecord
  repeat' split
  all_goals exact calm_of_same rfl

theorem calm_leaveStep : Calm s (State.leaveStep a d s n) := by
  unfold State.leaveStep
  split
  · exact calm_setEntry n _
  · exact calm_setEntry n _
  · exact (calm_setEntry (s := s) n _).trans (calm_cancelRecordOf a n)
  · split
    · exact .rfl' s
    · exact calm_setEntry n _
  · exact .rfl' s

theorem calm_leaveRun : Calm s (s.leaveRun a d) := by
  unfold State.leaveRun
  dsimp only
  split
  · exact (calm_updateStation a _).trans (calm_foldl _ (fun _ m => calm_leaveStep a m d) _ _)
  · exact calm_updateStation a _

theorem calm_checkDrain : Calm s (s.checkDrain a) := by
  unfold State.checkDrain State.drainEnd
  split
  · refine Calm.trans ?_ (calm_leaveRun a true)
    split
    · exact (calm_updateStation a _).trans (calm_raise .faulted (by decide))
    · exact calm_updateStation a _
  · exact .rfl' s

theorem calm_enterDraining : Calm s (s.enterDraining a) := by
  unfold State.enterDraining
  split
  · exact (calm_updateStation a _).trans (calm_checkDrain a)
  · exact .rfl' s

theorem calm_openRecord (k c : Nat) : Calm s (s.openRecord i n k c) := by
  unfold State.openRecord State.makeAttempt
  split <;> exact calm_of_same rfl

theorem calm_grant : Calm s (s.grant i n) := by
  have issued : Calm s (s.issue i n (s.step n)) := by
    unfold State.issue
    refine Calm.trans ?_ (calm_setEntry n _)
    refine Calm.trans ?_ (calm_openRecord n i _ _)
    split <;> exact calm_of_same rfl
  rw [grant_eq]
  split
  · exact issued.trans (calm_updateStation _ _)
  · exact issued

theorem calm_completeFrameless : Calm s (s.completeFrameless n) := by
  have settled : Calm s (s.settleStep n) := by
    unfold State.settleStep
    split <;> exact calm_setEntry n _
  unfold State.completeFrameless
  dsimp only
  split
  · exact settled.trans (calm_enterDraining _)
  · exact settled

theorem calm_markWait (f : Feed) : Calm s (s.markWait f) := by
  unfold State.markWait
  repeat' split
  all_goals first | exact .rfl' s | (cases f <;> exact calm_of_same rfl)

theorem calm_ended (o : RunOutcome) : Calm s (s.drainMembers.closeRun o) := by
  have drained : Calm s s.drainMembers :=
    (calm_foldl State.enterDraining (fun _ b => calm_enterDraining b) _ s).trans (calm_of_same rfl)
  have idle : Calm s { s.drainMembers with run :=
      { s.drainMembers.run with inProgress := false, halting := none, causes := .empty, lastOutcome := o } } :=
    drained.trans (calm_of_same rfl)
  exact idle.trans (calm_raise .ended (by decide))
end

theorem calm_followUp (due : Bool) (s : State) : Calm s (State.followUp due s) :=
  followUp_turns ⟨Calm.rfl', fun _ _ _ => Calm.trans, fun _ n => calm_evaluate n, fun _ n _ => calm_completeFrameless n,
    fun _ f => calm_markWait f, fun _ i n _ _ _ => calm_grant n i, fun _ o _ => calm_ended o⟩ due s

theorem calm_settleFrom (t : State) : Calm t (s.settleFrom t) := calm_followUp _ t

/-! ## Holds and starts -/

theorem calm_supersede (a : Nat) (f : Frame) : Calm s (s.supersede a f) := supersede_isPending a f _ (by decide)

theorem calm_holdEntry (a : Nat) (f : Frame) : Calm s (State.holdEntry a s f) := by
  have placed : ∀ (t : State) (r : Reply), Calm t (t.placeReply r) := fun t r => placeReply_isPending r _ (by decide)
  have tested : ∀ t : State, Calm t t.testHighWater := fun t => by
    unfold State.testHighWater
    split
    · have spent : Calm t { t with highWaterArmed := false } := calm_of_same rfl
      exact spent.trans (calm_raise .highWater (by decide))
    · exact .rfl' t
  have queued : ∀ (t : State) q, Calm t (t.setQueue a q) := fun t q => setQueue_isPending a q _
  have entered : Calm s (s.entered a f) := by
    refine (calm_supersede a f).trans ?_
    unfold State.entered
    split
    · exact ((queued _ _).trans (tested _)).trans (placed _ _)
    · exact ((placed _ _).trans (calm_count _)).trans (calm_raise .deferral (by decide))
  rw [holdEntry_eq]
  split
  · exact entered
  · exact entered.trans (calm_checkDrain a)

theorem calm_joinRun (a : Nat) (k : Restart) : Calm s (s.joinRun a k) := by
  unfold State.joinRun
  split
  · exact (calm_updateStation a _).trans (calm_of_same (restartSteps_noticePending a k))
  · exact .rfl' s

theorem calm_handOver (a : Nat) : Calm s (s.handOver a) := by
  have fifo : ∀ x, Calm s (s.setPassDown x) := fun x => calm_of_same rfl
  exact (fifo _).trans (calm_foldl (State.holdEntry a) (fun _ f => calm_holdEntry a f) _ _)

theorem calm_enterHeld (a : Nat) (k : Restart) : Calm s (s.enterHeld a k) :=
  ((calm_updateStation a _).trans (calm_handOver a)).trans (calm_joinRun a k)

theorem calm_started : Calm s s.started := by
  unfold State.started
  refine Calm.trans (calm_of_same ?_) (calm_raise .started (by decide))
  simp [State.startEntries, State.takeMembers, State.syncHeads]

theorem calm_autoStart (a : Nat) : Calm s (s.autoStart a) := by
  rw [autoStart_eq]
  split
  · split
    · exact calm_started.trans (calm_followUp true s.started)
    · exact calm_raise .startRefused (by decide)
  · exact .rfl' s

/-- The effect of a HELLO that makes no storm raises none. -/
theorem calm_helloEffect (a : Nat) (kept : Bool) : Calm s (s.helloEffect a kept) := by
  have held : Calm s (s.updateStation a (fun r => { r with state := .held })) := calm_updateStation a _
  have restart : Calm s (s.helloRestart a) := by
    unfold State.helloRestart
    dsimp only
    split
    · split
      · exact (held.trans (calm_of_same (restartSteps_noticePending a .hello))).trans (calm_settleFrom _)
      · exact held
    · exact held.trans (calm_autoStart a)
  unfold State.helloEffect
  split
  · unfold State.helloOnline
    dsimp only
    split
    · split
      · exact (calm_enterHeld a .hello).trans (calm_settleFrom _)
      · exact (calm_enterHeld a .hello).trans (calm_autoStart a)
    · exact .rfl' s
  · exact restart
  · exact restart
  · unfold State.helloDraining
    dsimp only
    split
    · exact .rfl' s
    · split
      · exact (held.trans (calm_joinRun a .drainingHello)).trans (calm_settleFrom _)
      · exact held.trans (calm_autoStart a)
  all_goals exact .rfl' s

/-! ## The absorption, the passage and the record of a HELLO -/

theorem calm_passUpFrame (f : Frame) : Calm s (s.passUpFrame f) := by
  have known : Calm s (s.countUnknown (knownUp f.kind)) := by
    unfold State.countUnknown
    split
    · exact .rfl' s
    · exact calm_count _
  rw [passUpFrame_eq]
  split
  · exact known.trans (calm_of_same rfl)
  · exact known.trans (calm_count _)

theorem calm_closeRecord (i : Nat) : Calm s (s.closeRecord i) := by
  unfold State.closeRecord
  repeat' split
  · exact calm_openRecord _ i _ _
  · exact calm_of_same rfl
  · exact .rfl' s

theorem calm_classifyUp_hello {f : Frame} (hello : f.kind = kindHello) (m : Option Nat) : Calm s (s.classifyUp f m) := by
  cases m with
  | none => exact calm_passUpFrame f
  | some i =>
    refine Calm.trans (t := s.absorb i f) ?_ (calm_settleFrom _)
    rw [absorb_hello hello]
    split
    · exact .rfl' s
    · split
      · exact (calm_count _).trans (calm_closeRecord _)
      · split
        · exact calm_count _
        · exact .rfl' s

theorem calm_recorded (a : Nat) (payload : List Byte) : Calm s (s.recorded a payload) :=
  ((calm_count .hellosSeen).trans (calm_updateStation a _)).trans (calm_raise .hello (by decide))

theorem calm_upward (v : State) : Calm s (s.upward v) := calm_of_same rfl

end Sys2Proof.Machine
end

section
/-! SUPPORT. A HELLO that makes a storm (R48, R53). -/

namespace Sys2Proof.Machine

variable {s : State}

/-- What a HELLO that makes a storm leaves of the state `h` it has been recorded in. -/
def State.stormed (h : State) (a : Nat) : State := h.settleFrom ((h.raise .storm).faultRequest a .storm)

theorem carries_stormed (h : State) (a : Nat) : Carries h (h.stormed a) :=
  ((carries_raise _).trans (carries_faultRequest a .storm)).trans (carries_settleFrom _)

/-- The HELLO of a listed station, while the F-port sends: its storm or its effect, on what it has been recorded in. -/
theorem hello_storms {f : Frame} (busy : s.FBusy) (valid : validStation f.station = true) (hello : f.kind = kindHello)
    (listed : s.seenListed f.station = true) :
    ∃ h v w : State, Recorded (s.classifyUp f (s.matchSlot f)) f h ∧ Calm s h ∧ Carries h w
      ∧ exec (.fFrameArrival f) s = .next (w.upward v)
      ∧ (Storms (s.classifyUp f (s.matchSlot f)) f → w = h.stormed f.station)
      ∧ (¬ Storms (s.classifyUp f (s.matchSlot f)) f → w = h.helloEffect f.station (decide (f.payload.getD 1 0 ≠ 0))) := by
  obtain ⟨b, hb⟩ : ∃ b, b = s.classifyUp f (s.matchSlot f) := ⟨_, rfl⟩
  have left : Untouched s b := hb ▸ untouched_classifyUp_hello hello _
  have calm : Calm s b := hb ▸ calm_classifyUp_hello hello _
  have wire : b.wireF = s.wireF := hb ▸ classifyUp_hello_keeps hello _ State.wireF (fun _ _ h => (congrArg State.wireF h :))
    (fun t => by rw [count_eq]) (fun t => by rw [passUpFrame_shape])
  rw [hello_arrival valid hello, ← hb]
  obtain ⟨h, hh⟩ : ∃ h, h = (b.receiving s.portF.endFrame).recorded f.station f.payload := ⟨_, rfl⟩
  have record : Recorded b f h := hh ▸ recorded_of_receiving valid _
  have received : Calm b (b.receiving s.portF.endFrame) := calm_of_same rfl
  have listed' : (b.receiving s.portF.endFrame).seenListed f.station = true :=
    (seenListed_congr left.loading ((congrArg StationRecord.config (station_receiving ..)).trans (left.configs _))).trans listed
  have tap := helloTap_eq (s := b.receiving s.portF.endFrame) f.station f.payload
  rw [if_pos listed', ← hh] at tap
  obtain ⟨w, hw⟩ : ∃ w, w = (b.receiving s.portF.endFrame).helloTap f.station f.payload := ⟨_, rfl⟩
  rw [← hw] at tap
  have storm : Storms b f → w = h.stormed f.station := fun k => tap.trans (if_pos ((storms_iff record).2 k))
  have effect : ¬ Storms b f → w = h.helloEffect f.station (decide (f.payload.getD 1 0 ≠ 0)) :=
    fun k => tap.trans (if_neg fun storms => k ((storms_iff record).1 storms))
  have carried : Carries h w := by
    by_cases k : Storms b f
    · rw [storm k]
      exact carries_stormed h _
    · rw [effect k]
      exact carries_helloEffect valid _
  have sends : w.FBusy := by
    unfold State.FBusy
    rw [carried.wireF, record.shape]
    show b.wireF.isSome = true
    rw [wire]
    exact busy
  obtain ⟨v, closed, -⟩ := close_upward (s := s) sends
  exact ⟨h, v, w, record, (calm.trans received).trans (hh ▸ calm_recorded _ _), carried, by rw [← hw, closed], storm, effect⟩

/-- Settles O32: the record of the HELLO, then its storm's fault request and the follow-up, or its effect, which raises no storm. -/
theorem stormFaultsItsStation : Obligations.StormFaultsItsStation := by
  unfold Obligations.StormFaultsItsStation
  intro s f busy valid hello listed b x
  obtain ⟨h, v, w, record, calm, carried, arrives, storm, effect⟩ := hello_storms busy valid hello listed
  have here : h.station f.station = { x with history := helloHistory b f } := (record.station _).trans (if_pos rfl)
  have hQueues : h.queues = s.queues := by
    rw [record.shape]
    exact classifyUp_hello_keeps hello _ State.queues (fun _ _ k => (congrArg State.queues k :))
      (fun t => by rw [count_eq]) (fun t => by rw [passUpFrame_shape])
  have stations : ∀ a, (w.upward v).station a = w.station a := station_congr rfl
  refine ⟨w.upward v, arrives, ?history, fun tame => ?calm, fun out => ?out, fun storms => ?storms⟩
  case history =>
    rw [stations, carried.left.histories, here]
  case calm =>
    have raised : Calm h w := effect tame ▸ calm_helloEffect _ _
    exact (calm.trans raised).trans (calm_upward v)
  case out =>
    have tame : ¬ Storms b f := fun k => by
      rcases out with now | now <;> rcases k.1 with other | other | other | other <;> cases now.symm.trans other
    have still : w = h := by
      rw [effect tame]
      unfold State.helloEffect
      rw [here]
      rcases out with now | now
      all_goals rw [now]
    refine ⟨by rw [stations, still, here], ?_, ?_, ?_⟩
    all_goals rw [still]
    · rw [record.shape]
      rfl
    · rw [record.shape]
      rfl
    · exact hQueues
  case storms =>
    obtain ⟨g, hg⟩ : ∃ g, g = h.raise .storm := ⟨_, rfl⟩
    have same : w = h.settleFrom (g.faultRequest f.station .storm) := hg ▸ storm storms
    have own : g.station f.station = { x with history := helloHistory b f } := by rw [hg, raise_station, here]
    have queue : g.queue f.station = s.queue f.station := queue_congr (by rw [hg]; exact hQueues) _
    have entries : ∀ n, g.entry n = b.entry n := entry_congr (by rw [hg, record.shape]; rfl)
    have run : g.run = b.run := by
      rw [hg, record.shape]
      rfl
    have step : ∀ n, g.step n = s.step n := fun n => by
      have plan : g.plan = s.plan := by
        rw [hg, record.shape]
        exact (untouched_classifyUp_hello hello _).plan
      simp [State.step, plan]
    have faults : Follows g w := same ▸ (follows_faultRequest g _ _).trans (follows_settleFrom h _)
    have settles : Follows (g.faultRequest f.station .storm) w := same ▸ follows_settleFrom h _
    obtain ⟨faulted, drains, keeps, leaves⟩ := faultRequest_settles (s := g) valid .storm (t := w)
      (same ▸ stationsTurn_followUp _ _) (same ▸ drainsOn_followUp _ _)
    have raised := faultRequest_raises (s := g) (a := f.station) (c := .storm)
    rw [own, queue] at faulted drains raised
    rw [own] at keeps leaves
    have queues : w.queues = s.queues := by
      rw [same]
      refine (settleFrom_queues h _).trans ((congrArg State.queues (faultRequest_core g _ _) :).trans ?_)
      rw [hg]
      exact hQueues
    refine ⟨faults.pending .storm (hg ▸ raise_isPending _ _), queues, fun now => ?_, fun now => ?_, fun now pending => ?_,
      fun now => ⟨?_, fun member runs n used owned moved unfinished => ?_⟩⟩
    · have now' : x.state = .online ∨ ((x.state = .held ∨ x.state = .restoring) ∧ s.queue f.station = []) := by
        rcases storms.1 with on | on | on | on
        · exact .inl on
        · exact now.imp_right fun k => ⟨.inl on, k.2⟩
        · exact now.imp_right fun k => ⟨.inr on, k.2⟩
        · exact now.imp_right fun k => absurd on k.1
      rw [stations]
      exact ⟨(faulted now').1, (faulted now').2, settles.pending .faulted (raised now')⟩
    · rw [stations]
      exact drains now
    · rw [stations]
      exact keeps now pending
    · rw [stations]
      exact leaves now
    · have left := faultRequest_entry (s := g) (c := .storm) valid (by rw [own]; exact now) (by rw [own]; exact member)
        (by rw [run]; exact runs) (n := n) (by rw [step]; exact used) (by rw [step]; exact owned)
      rw [entries] at left
      have skipped := leftEntry_skipped moved unfinished
      show (w.entry n).state = .skipped
      rw [settles.terminal n (by rw [left, skipped]; rfl), left, skipped]

end Sys2Proof.Machine
end

section
/-! SUPPORT. RELEASE-STATION and CLEAR-STATION (R54 to R56). -/

namespace Sys2Proof.Machine

variable {s : State}

section
variable {a : Byte}

theorem reqRelease_invalid (h : validStation a.toNat = false) : s.reqRelease [a] = s.answer .badIndex := by
  simp [State.reqRelease, h]

theorem reqRelease_busy (valid : validStation a.toNat = true) (held : (s.station a.toNat).state ≠ .held)
    (restoring : (s.station a.toNat).state ≠ .restoring) : s.reqRelease [a] = s.refuseFor .stationBusy := by
  simp [State.reqRelease, valid, held, restoring]

theorem reqRelease_releases (valid : validStation a.toNat = true)
    (holding : (s.station a.toNat).state = .held ∨ (s.station a.toNat).state = .restoring) :
    s.reqRelease [a] = (s.settleFrom ((s.leaveRun a.toNat false).enterDraining a.toNat)).answerDone (stationData a.toNat) := by
  simp [State.reqRelease, valid, holding]

theorem reqClear_invalid (h : validStation a.toNat = false) : s.reqClear [a] = s.answer .badIndex := by
  simp [State.reqClear, h]

theorem reqClear_busy (valid : validStation a.toNat = true) (faulted : (s.station a.toNat).state ≠ .faulted)
    (overridden : (s.station a.toNat).state ≠ .overridden) : s.reqClear [a] = s.refuseFor .stationBusy := by
  simp [State.reqClear, valid, faulted, overridden]

theorem reqClear_clears (valid : validStation a.toNat = true)
    (out : (s.station a.toNat).state = .faulted ∨ (s.station a.toNat).state = .overridden) :
    s.reqClear [a] = (s.updateStation a.toNat StationRecord.clear).answerDone (stationData a.toNat) := by
  simp [State.reqClear, valid, out]
end

/-! ## Entering DRAINING (R42, R43) -/

/-- A HELD or RESTORING station with no fault pending drains, or is ONLINE at once with nothing held. -/
theorem enterDraining_own {a : Nat} (valid : validStation a = true)
    (holding : (s.station a).state = .held ∨ (s.station a).state = .restoring) (clear : (s.station a).faultPending = false)
    (unlinked : (s.station a).member = false) :
    (s.enterDraining a).station a = { s.station a with state := if s.queue a = [] then .online else .draining } := by
  obtain ⟨u, hu⟩ : ∃ u, u = s.updateStation a (fun r => { r with state := .draining }) := ⟨_, rfl⟩
  have own : u.station a = { s.station a with state := .draining } := hu ▸ updateStation_own valid _
  have queue : u.queue a = s.queue a := queue_congr (by rw [hu, updateStation_stations]) _
  unfold State.enterDraining State.checkDrain
  rw [if_pos (by simpa using holding), ← hu, own, queue]
  by_cases empty : s.queue a = []
  · rw [if_pos (by simp [empty]), if_pos empty, drainEnd_eq, leaveRun_station, if_pos rfl, station_congr (drainOver_keeps a).1,
      updateStation_own valid, own]
    simp [drainEndRecord, clear, unlinked]
  · rw [if_neg (by simp [empty]), if_neg empty, own]

theorem drainOver_slots (a : Nat) : (s.drainOver a).slots = s.slots := by
  unfold State.drainOver
  split <;> exact updateStation_slots ..

theorem enterDraining_kept {i : Nat} (kept : cancelled (s.slot i) = s.slot i) (a : Nat) :
    (s.enterDraining a).slot i = s.slot i := by
  obtain ⟨u, hu⟩ : ∃ u, u = s.updateStation a (fun r => { r with state := .draining }) := ⟨_, rfl⟩
  have before : u.slot i = s.slot i := slot_congr (by rw [hu]; exact updateStation_slots ..) i
  have ended : (u.drainOver a).slot i = s.slot i := (slot_congr (drainOver_slots a) i).trans before
  unfold State.enterDraining State.checkDrain
  rw [← hu]
  split
  · split
    · rw [drainEnd_eq, leaveRun_kept (by rw [ended]; exact kept), ended]
    · exact before
  · rfl

/-! ## The release -/

/-- What a release leaves before the Run Engine goes on. -/
def State.released (s : State) (a : Nat) : State := (s.leaveRun a false).enterDraining a

theorem released_core (a : Nat) : (s.released a).core = s.core := (enterDraining_core _ a).trans (leaveRun_core s a false)

theorem follows_released (a : Nat) : Follows (s.leaveRun a false) (s.released a) := follows_enterDraining _ a

theorem released_own {a : Nat} (valid : validStation a = true)
    (holding : (s.station a).state = .held ∨ (s.station a).state = .restoring) (clear : (s.station a).faultPending = false) :
    (s.released a).station a =
      { s.station a with member := false, state := if s.queue a = [] then .online else .draining } := by
  have left : (s.leaveRun a false).station a = { s.station a with member := false } := by rw [leaveRun_station, if_pos rfl]
  have queue : (s.leaveRun a false).queue a = s.queue a :=
    queue_congr (congrArg State.queues (leaveRun_core s a false) :) a
  have entered := enterDraining_own (s := s.leaveRun a false) valid (by rw [left]; exact holding) (by rw [left]; exact clear)
    (by rw [left])
  rw [left, queue] at entered
  exact entered

/-- The station of a release after the follow-up. -/
theorem released_settles {a : Nat} (valid : validStation a = true)
    (holding : (s.station a).state = .held ∨ (s.station a).state = .restoring) (clear : (s.station a).faultPending = false)
    (u : State) :
    let t := u.settleFrom (s.released a)
    (t.station a).member = false ∧ (t.station a).state = (if s.queue a = [] then .online else .draining)
      ∧ (t.station a).faultCause = (s.station a).faultCause := by
  intro t
  have own := released_own valid holding clear
  have stays : StationTurn ((s.released a).station a) (t.station a) := stationsTurn_followUp _ _ a
  have drains := drainsOn_followUp (u.grantMoment (s.released a)) (s.released a) a
  rw [own] at stays drains
  refine ⟨?_, ?_, stays.cause⟩
  · by_contra member
    exact absurd (stays.member (by simpa using member)) Bool.false_ne_true
  · by_cases empty : s.queue a = []
    · simp only [if_pos empty] at stays ⊢
      exact stays.rests (by simp) (by simp) (by simp)
    · simp only [if_neg empty] at drains ⊢
      exact (drains trivial).1

/-- The steps of a member that is released, and the record of an ISSUED one. -/
theorem released_steps {a : Nat} (member : (s.station a).member = true) (runs : s.run.inProgress = true) (u : State) {n : Nat}
    (used : (s.step n).used = true) (own : (s.step n).station = a) :
    ((s.entry n).state ≠ .idle → (s.entry n).state.terminal = false →
      ((u.settleFrom (s.released a)).entry n).state = .skipped)
    ∧ ∀ i r, s.slotOf a = some i → s.slot i = some r → r.step = n → (s.entry n).state = .issued → r.closing = false →
      r.outstanding.isSome = true →
      (u.settleFrom (s.released a)).slot i = some { r with closing := true, ready := none, further := none } := by
  refine ⟨fun moved unfinished => ?_, fun i r found slot stepped issued isOpen out => ?_⟩
  · have left := leaveRun_entry false member runs used own
    have skipped := leftEntry_skipped moved unfinished
    have follows : Follows (s.leaveRun a false) (u.settleFrom (s.released a)) :=
      (follows_released a).trans (follows_settleFrom _ _)
    rw [follows.terminal n (by rw [left, skipped]; rfl), left, skipped]
  · subst stepped
    have closes := leaveRun_closes false member runs used own found slot issued isOpen out
    have records : SlotsTurn (s.released a) (u.settleFrom (s.released a)) := slotsTurn_followUp _ _
    refine records.kept i _ ((enterDraining_kept ?_ a).trans closes)
    rw [closes]
    rfl

/-- Settles O56: the tests in their order, then the leaving and the drain with the follow-up, or the record cleared. -/
theorem releaseAndClearStation : Obligations.ReleaseAndClearStation := by
  unfold Obligations.ReleaseAndClearStation
  intro s seq a h busy
  have heard : s.heard.station a.toNat = s.station a.toNat := station_congr rfl _
  refine ⟨fun out => ?badIndex, fun valid => ⟨fun held restoring => ?notHeld, fun faulted overridden => ?notOut,
    fun holding clear => ?releases, fun out => ?clears⟩⟩
  case badIndex =>
    have invalid : validStation a.toNat = false := by
      rw [Bool.eq_false_iff, ne_eq, validStation_iff]
      omega
    exact ⟨concluded_status h (.inl busy) seq 17 [a] .badIndex (reqRelease_invalid (s := s.heard) invalid),
      concluded_status h (.inl busy) seq 18 [a] .badIndex (reqClear_invalid (s := s.heard) invalid)⟩
  case notHeld =>
    exact concluded_refused h (.inl busy) seq 17 [a] .stationBusy
      (reqRelease_busy (s := s.heard) valid (by rw [heard]; exact held) (by rw [heard]; exact restoring))
  case notOut =>
    exact concluded_refused h (.inl busy) seq 18 [a] .stationBusy
      (reqClear_busy (s := s.heard) valid (by rw [heard]; exact faulted) (by rw [heard]; exact overridden))
  case releases =>
    obtain ⟨x, hx⟩ : ∃ x, x = s.heard.settleFrom (s.heard.released a.toNat) := ⟨_, rfl⟩
    have response : s.heard.execute 17 [a] = x.answerDone (stationData a.toNat) :=
      hx ▸ reqRelease_releases (s := s.heard) valid (by rw [heard]; exact holding)
    have core : x.core = s.heard.core := hx ▸ (settleFrom_core _ _).trans (released_core _)
    have field {α : Type} (g : State → α) (same : ∀ y : State, g y.core = g y) : g x = g s.heard := by
      rw [← same x, core, same]
    obtain ⟨member, state, cause⟩ :=
      hx ▸ released_settles (s := s.heard) valid (by rw [heard]; exact holding) (by rw [heard]; exact clear) s.heard
    rw [heard] at cause
    obtain ⟨v, done, answer⟩ := concluded_upward h seq 17 [a] _ response
      (.inl (by show x.wireF.isSome = true; rw [field State.wireF core_wireF]; exact busy)) rfl (field State.replies core_replies)
    have stations : (x.upward v).station a.toNat = x.station a.toNat := station_congr rfl _
    refine ⟨_, done, (untouched_of_core core).trans (untouched_upward x v), field State.counters core_counters,
      field State.queues core_queues, field State.passDown core_passDown, ?_, ?_, ?_, fun sends => ?_,
      fun linked runs n used own => ?_⟩
    · exact (congrArg StationRecord.member stations).trans member
    · exact (congrArg StationRecord.state stations).trans state
    · exact (congrArg StationRecord.faultCause stations).trans cause
    · have data : stationData a.toNat x = [if s.queue a.toNat = [] then 1 else 4] := by
        have queue : s.heard.queue a.toNat = s.queue a.toNat := queue_congr rfl _
        unfold stationData
        rw [state, queue]
        split <;> rfl
      rw [← data]
      exact answer (by show x.wireS.isSome = true; rw [field State.wireS core_wireS]; exact sends)
    · exact hx ▸ released_steps (s := s.heard) (by rw [heard]; exact linked) runs s.heard used own
  case clears =>
    obtain ⟨x, hx⟩ : ∃ x, x = s.heard.updateStation a.toNat StationRecord.clear := ⟨_, rfl⟩
    have response : s.heard.execute 18 [a] = x.answerDone (stationData a.toNat) :=
      hx ▸ reqClear_clears (s := s.heard) valid (by rw [heard]; exact out)
    have shape : x = { s.heard with stations := x.stations } := hx ▸ updateStation_stations _ _
    have station : ∀ b, x.station b = if b = a.toNat then (s.station b).clear else s.station b := fun b => by
      rw [hx, updateStation_station, show s.heard.station b = s.station b from station_congr rfl b]
      by_cases same : a.toNat = b
      · subst same
        rw [if_pos ⟨rfl, valid⟩, if_pos rfl]
      · rw [if_neg fun k => same k.1, if_neg (Ne.symm same)]
    have data : stationData a.toNat x = [1] := by
      unfold stationData
      rw [station, if_pos rfl]
      rfl
    have done := concluded_ready h seq 18 [a] _ response (.inl (by rw [shape]; exact busy)) rfl (by rw [shape]; rfl)
      (by rw [shape]; rfl) (by rw [shape]; rfl)
    have answered := congrArg (fun y : State => ({ y with
      replies := s.replies ++ [{ frame := answerFrame seq 18 .done false [1], isReset := false }] } : State)) shape
    refine ⟨State.answered { s with stations := x.stations } seq 18 .done false [1], ?_, rfl, ?_, fun b other => ?_⟩
    · refine done.trans (congrArg (fun y : State => Host.Outcome.next y.sArbiter) (Eq.trans ?_ answered))
      exact congrArg (fun l : List Byte => ({ x with
        replies := s.replies ++ [{ frame := answerFrame seq 18 .done false l, isReset := false }] } : State)) data
    · exact (station _).trans (if_pos rfl)
    · exact (station b).trans (if_neg other)

end Sys2Proof.Machine
end

section
/-! SUPPORT. The end of a load and the tests of an image (R197, R198). -/

namespace Sys2Proof.Machine

variable {s : State}

/-! ## The end of a load -/

/-- `s` with the tables of `m` and the load over. -/
def State.loaded (s : State) (m : LoadedImage) (status : ImageStatus) : State :=
  { s.takeImage m with loading := false, imageStatus := status }

theorem loadEnd_fails {answers : Bool} (loads : s.loading = true) (fails : answers = false ∨ readImage s.configMemory = none) :
    s.loadEnd answers = s.loaded .default .fault := by
  have none : (if answers then readImage s.configMemory else none) = none := by
    rcases fails with silent | bad
    · simp [silent]
    · simp [bad]
  unfold State.loadEnd
  rw [if_pos loads, none]
  rfl

theorem loadEnd_takes {m : LoadedImage} (loads : s.loading = true) (read : readImage s.configMemory = some m) :
    s.loadEnd true = s.loaded m .loaded := by
  unfold State.loadEnd
  rw [if_pos loads, if_pos rfl, read]
  rfl

theorem loadEnd_idle (answers : Bool) (idle : s.loading = false) : s.loadEnd answers = s := by
  unfold State.loadEnd
  rw [if_neg (by simp [idle])]

/-- What the closing leaves of the feeds' settings. -/
theorem close_feed (t : State) (f : Feed) :
    ((s.close t).feed f).budget = (t.feed f).budget ∧ ((s.close t).feed f).standing = (t.feed f).standing := by
  have same := close_base s t
  cases f with
  | a =>
    have feed : (s.close t).feedA.fixed = t.feedA.fixed := congrArg State.feedA same
    exact ⟨(congrArg FeedRecord.budget feed :), (congrArg FeedRecord.standing feed :)⟩
  | b =>
    have feed : (s.close t).feedB.fixed = t.feedB.fixed := congrArg State.feedB same
    exact ⟨(congrArg FeedRecord.budget feed :), (congrArg FeedRecord.standing feed :)⟩

/-- While the F-port sends the closing leaves the station records. -/
theorem close_station_busy {t : State} (busy : t.FBusy) (a : Nat) : (s.close t).station a = t.station a := by
  obtain ⟨v, closed, -⟩ := close_upward (s := s) busy
  rw [closed]
  exact station_congr rfl a

theorem loaded_station (m : LoadedImage) (status : ImageStatus) {a : Nat} (valid : validStation a = true) :
    (s.loaded m status).station a = (m.stations.map loadStation).getD (a - 1) .default := by
  obtain ⟨low, high⟩ := (validStation_iff _).1 valid
  obtain ⟨k, rfl⟩ : ∃ k, a = k + 1 := ⟨a - 1, by omega⟩
  exact getAt_tableOf 126 _ k StationRecord.default (by omega)

theorem loaded_default_station (status : ImageStatus) (a : Nat) : (s.loaded .default status).station a = .default := by
  cases valid : validStation a with
  | true => rw [loaded_station _ _ valid]; rfl
  | false => exact station_invalid valid

theorem tableOf_nil {α : Type} (n : Nat) (d : α) : tableOf n [] d = Vector.replicate n d := by
  apply Vector.ext
  intro i h
  simp [tableOf]

/-! ## The sections of an image -/

section
variable {α : Type} (size : Nat) (read : List Byte → Option α)

/-- A section of records fails exactly when a record of it fails. -/
theorem readRecords_eq_none_iff (n : Nat) (bs : List Byte) :
    readRecords size read n bs = none ↔ ∃ k, k < n ∧ read ((bs.drop (size * k)).take size) = none := by
  induction n generalizing bs with
  | zero => simp [readRecords]
  | succ n ih =>
    have next : ∀ k, bs.drop (size * (k + 1)) = (bs.drop size).drop (size * k) := fun k => by
      rw [List.drop_drop, Nat.mul_succ, Nat.add_comm]
    have split : (∃ k, k < n + 1 ∧ read ((bs.drop (size * k)).take size) = none) ↔
        read (bs.take size) = none ∨ ∃ k, k < n ∧ read (((bs.drop size).drop (size * k)).take size) = none := by
      constructor
      · rintro ⟨k, lt, fails⟩
        cases k with
        | zero => exact .inl fails
        | succ k => exact .inr ⟨k, by omega, by rw [← next]; exact fails⟩
      · rintro (fails | ⟨k, lt, fails⟩)
        · exact ⟨0, by omega, fails⟩
        · exact ⟨k + 1, by omega, by rw [next]; exact fails⟩
    rw [split, ← ih, readRecords]
    cases read (bs.take size) <;> cases readRecords size read n (bs.drop size) <;> simp

/-- Each record of a section is what stands at its place. -/
theorem readRecords_getD {n : Nat} {bs : List Byte} {rs : List α} (h : readRecords size read n bs = some rs) {k : Nat}
    (lt : k < n) (d : α) : read ((bs.drop (size * k)).take size) = some (rs.getD k d) := by
  induction n generalizing bs rs k with
  | zero => exact absurd lt (Nat.not_lt_zero k)
  | succ n ih =>
    rw [readRecords] at h
    cases first : read (bs.take size) with
    | none => simp [first] at h
    | some r =>
      cases rest : readRecords size read n (bs.drop size) with
      | none => simp [first, rest] at h
      | some l =>
        simp only [first, rest, Option.some.injEq] at h
        subst h
        cases k with
        | zero => exact first
        | succ k =>
          have later := ih rest (k := k) (by omega)
          rw [List.drop_drop] at later
          rw [Nat.mul_succ, Nat.add_comm]
          exact later
end

/-- Four bytes taken where there are so many. -/
theorem take_four {l : List Byte} (long : 4 ≤ l.length) : ∃ a b c d, l.take 4 = [a, b, c, d] := by
  match l, long with
  | a :: b :: c :: d :: _, _ => exact ⟨a, b, c, d, rfl⟩

theorem readFeedImage_some {l : List Byte} (long : 4 ≤ l.length) : ∃ x, readFeedImage (l.take 4) = some x := by
  obtain ⟨a, b, c, d, four⟩ := take_four long
  exact ⟨_, by rw [four]; rfl⟩

theorem readPointEntry_some {l : List Byte} (long : 4 ≤ l.length) : ∃ x, readPointEntry (l.take 4) = some x := by
  obtain ⟨a, b, c, d, four⟩ := take_four long
  exact ⟨_, by rw [four]; rfl⟩

/-- An image of full length is read unless one of its records fails. -/
theorem readImageRecords_eq_none_iff {m : List Byte} (long : 6671 + 4 * imagePoints m ≤ m.length) :
    readImageRecords m = none ↔ readSettings ((m.drop 2).take 15) = none
      ∨ (∃ k, k < 126 ∧ readStationConfig ((m.drop (25 + 7 * k)).take 7) = none)
      ∨ (∃ k, k < 96 ∧ ∀ r, readStep ((m.drop (907 + 26 * k)).take 26) = some r → r.badRecord k = true)
      ∨ ∃ k, k < 64 ∧ readPayloadImage ((m.drop (3403 + 51 * k)).take 51) = none := by
  obtain ⟨a, feedA⟩ := readFeedImage_some (l := m.drop 17) (by rw [List.length_drop]; omega)
  obtain ⟨b, feedB⟩ := readFeedImage_some (l := m.drop 21) (by rw [List.length_drop]; omega)
  have stations := readRecords_eq_none_iff 7 readStationConfig 126 (m.drop 25)
  have plan := readRecords_eq_none_iff 26 readStep 96 (m.drop 907)
  have payloads := readRecords_eq_none_iff 51 readPayloadImage 64 (m.drop 3403)
  simp only [List.drop_drop] at stations plan payloads
  obtain ⟨qs, points⟩ : ∃ qs, readRecords 4 readPointEntry (imagePoints m) (m.drop 6669) = some qs := by
    rw [← Option.ne_none_iff_exists', ne_eq, readRecords_eq_none_iff]
    rintro ⟨k, lt, fails⟩
    obtain ⟨x, some'⟩ := readPointEntry_some (l := (m.drop 6669).drop (4 * k)) (by
      rw [List.length_drop, List.length_drop]
      omega)
    rw [fails] at some'
    cases some'
  rw [← stations, ← payloads]
  unfold readImageRecords
  simp only [feedA, feedB, points, Option.bind_eq_bind, Option.bind_some]
  cases settings : readSettings ((m.drop 2).take 15) with
  | none => simp
  | some t =>
    cases configs : readRecords 7 readStationConfig 126 (m.drop 25) with
    | none => simp
    | some cs =>
      cases steps : readRecords 26 readStep 96 (m.drop 907) with
      | none =>
        obtain ⟨k, lt, fails⟩ := plan.1 steps
        have bad : ∃ k, k < 96 ∧ ∀ r, readStep ((m.drop (907 + 26 * k)).take 26) = some r → r.badRecord k = true :=
          ⟨k, lt, fun r read => by rw [fails] at read; cases read⟩
        simp [bad]
      | some rs =>
        have step : ∀ k, k < 96 → readStep ((m.drop (907 + 26 * k)).take 26) = some (rs.getD k .default) := fun k lt => by
          have here := readRecords_getD 26 readStep steps lt .default
          rw [List.drop_drop] at here
          exact here
        have bad : (∃ k, k < 96 ∧ ∀ r, readStep ((m.drop (907 + 26 * k)).take 26) = some r → r.badRecord k = true) ↔
            stepNumbers.any (fun n => (rs.getD n .default).badRecord n) = true := by
          rw [List.any_eq_true]
          constructor
          · rintro ⟨k, lt, fails⟩
            exact ⟨k, by simpa [stepNumbers] using lt, fails _ (step k lt)⟩
          · rintro ⟨k, mem, fails⟩
            have lt : k < 96 := by simpa [stepNumbers] using mem
            refine ⟨k, lt, fun r read => ?_⟩
            rw [step k lt, Option.some.injEq] at read
            exact read ▸ fails
        rw [bad]
        cases readRecords 51 readPayloadImage 64 (m.drop 3403) with
        | none => simp
        | some ps =>
          simp only [Option.bind_some, reduceCtorEq, false_or, or_false]
          split
          · next fault => exact iff_of_true rfl fault
          · next sound => exact iff_of_false (by simp) sound

/-- The tests of an image in their order (R198). -/
theorem readImage_eq_none_iff (m : List Byte) : readImage m = none ↔
    m.take 2 ≠ imageMarker ∨ 256 < imagePoints m ∨ imageChecks m = false ∨ readImageRecords m = none := by
  unfold readImage
  by_cases marker : m.take 2 = imageMarker
  · by_cases few : Config.pinnedRecords < imagePoints m
    · simp [marker, few, show 256 < imagePoints m from few]
    · cases imageChecks m <;> simp [marker, few, show ¬ 256 < imagePoints m from few]
  · simp [marker]

theorem imageChecks_eq_false_iff (m : List Byte) : imageChecks m = false ↔ m.length < 6671 + 4 * imagePoints m
    ∨ (m.drop (6669 + 4 * imagePoints m)).take 2 ≠ checkBytes (m.take (6669 + 4 * imagePoints m)) := by
  unfold imageChecks
  simp only [Bool.and_eq_false_iff, decide_eq_false_iff_not, not_le]
  refine or_congr ?_ Iff.rfl
  omega

/-- Settles O10: the branches of the load's end, and the tests of the image taken one after the other. -/
theorem loadEndTakesImageOrDefaults : Obligations.LoadEndTakesImageOrDefaults := by
  unfold Obligations.LoadEndTakesImageOrDefaults
  refine ⟨⟨⟨fun answers s loads fails => ?fails, fun answers s idle => ?idle⟩, fun s m loads read => ?takes⟩, fun m => ?tests⟩
  case fails =>
    have ends : exec (.configurationLoadEnd answers) s = .next (s.close (s.loaded .default .fault)) :=
      congrArg (fun t => Host.Outcome.next (s.close t)) (loadEnd_fails loads fails)
    refine ⟨_, ends, close_loading _ _, close_imageStatus _ _, close_settings _ _, ?_, ?_, close_points _ _, fun a => ?_, fun f => ?_,
      fun busy a => ?_, close_configMemory _ _, close_counters _ _, close_cursor _ _⟩
    · exact (close_plan _ _).trans (tableOf_nil 96 StepRecord.default)
    · exact (close_payloads _ _).trans (tableOf_nil 64 PayloadRecord.default)
    · rw [close_config, loaded_default_station]
      rfl
    · obtain ⟨budget, standing⟩ := close_feed (s := s) (s.loaded .default .fault) f
      rw [budget, standing]
      cases f <;> exact ⟨rfl, rfl⟩
    · exact (close_station_busy (t := s.loaded .default .fault) busy a).trans (loaded_default_station _ a)
  case idle =>
    have ends : exec (.configurationLoadEnd answers) s = .next (s.close s) :=
      congrArg (fun t => Host.Outcome.next (s.close t)) (loadEnd_idle answers idle)
    exact ⟨_, ends, untouched_close s s, close_counters s s⟩
  case takes =>
    have ends : exec (.configurationLoadEnd true) s = .next (s.close (s.loaded m .loaded)) :=
      congrArg (fun t => Host.Outcome.next (s.close t)) (loadEnd_takes loads read)
    have feed := close_feed (s := s) (s.loaded m .loaded)
    exact ⟨_, ends, close_loading _ _, close_imageStatus _ _, close_settings _ _, close_plan _ _, close_payloads _ _,
      close_points _ _, (feed .a).1, (feed .a).2, (feed .b).1, (feed .b).2,
      fun busy a valid => (close_station_busy (t := s.loaded m .loaded) busy a).trans (loaded_station m _ valid),
      close_configMemory _ _, close_counters _ _, close_cursor _ _⟩
  case tests =>
    show readImage m = none ↔ m.take 2 ≠ imageMarker ∨ 256 < imagePoints m ∨ m.length < 6671 + 4 * imagePoints m
      ∨ (m.drop (6669 + 4 * imagePoints m)).take 2 ≠ checkBytes (m.take (6669 + 4 * imagePoints m)) ∨ _
    rw [readImage_eq_none_iff, imageChecks_eq_false_iff, or_assoc]
    by_cases short : m.length < 6671 + 4 * imagePoints m
    · simp [short]
    · rw [readImageRecords_eq_none_iff (Nat.not_lt.1 short)]

end Sys2Proof.Machine
end

section
/-! SUPPORT. The Run Engine's follow-up neither reads nor writes the counters, and of the pending flags it only adds: it commutes with
`State.flagging`. -/

namespace Sys2Proof.Machine

variable {s : State}

/-! ## The counters set and flags added, all else kept -/

/-- A state with the counters as given and the pending flags of `y` added. -/
def State.flagging (s : State) (x : Vector Nat 16) (y : Vector Byte 8) : State :=
  { s with counters := x, noticePending := Vector.zipWith (· ||| ·) s.noticePending y }

section
variable (x : Vector Nat 16) (y : Vector Byte 8) (n a i : Nat) (f : Feed)

@[simp] theorem station_flagging : (s.flagging x y).station a = s.station a := by cases a <;> rfl
@[simp] theorem queue_flagging : (s.flagging x y).queue a = s.queue a := by cases a <;> rfl
@[simp] theorem step_flagging : (s.flagging x y).step n = s.step n := rfl
@[simp] theorem entry_flagging : (s.flagging x y).entry n = s.entry n := rfl
@[simp] theorem stepState_flagging : (s.flagging x y).stepState n = s.stepState n := rfl
@[simp] theorem stepsOf_flagging : (s.flagging x y).stepsOf a = s.stepsOf a := rfl
@[simp] theorem slot_flagging : (s.flagging x y).slot i = s.slot i := rfl
@[simp] theorem slotOf_flagging : (s.flagging x y).slotOf a = s.slotOf a := rfl
@[simp] theorem run_flagging : (s.flagging x y).run = s.run := rfl
@[simp] theorem bridgeTime_flagging : (s.flagging x y).bridgeTime = s.bridgeTime := rfl
@[simp] theorem feed_flagging : (s.flagging x y).feed f = s.feed f := by cases f <;> rfl
@[simp] theorem headOf_flagging : (s.flagging x y).headOf f = s.headOf f := rfl
@[simp] theorem mayAct_flagging : (s.flagging x y).mayAct n = s.mayAct n := rfl
@[simp] theorem restartCause_flagging : (s.flagging x y).restartCause a = s.restartCause a := by simp [State.restartCause]
@[simp] theorem verdict_flagging : (s.flagging x y).verdict n = s.verdict n := rfl
@[simp] theorem nextFrameless_flagging : (s.flagging x y).nextFrameless = s.nextFrameless := rfl
@[simp] theorem headTested_flagging : (s.flagging x y).headTested n = s.headTested n := rfl
@[simp] theorem estimate_flagging : (s.flagging x y).estimate f = s.estimate f := by
  simp [State.estimate, State.feedBase]; rfl
@[simp] theorem admits_flagging : (s.flagging x y).admits f n = s.admits f n := by simp [State.admits]; rfl
@[simp] theorem eligible_flagging : (s.flagging x y).eligible = s.eligible := by
  funext n
  simp only [State.eligible, mayAct_flagging, step_flagging, headOf_flagging, admits_flagging]
  rfl
@[simp] theorem nextGrant_flagging : (s.flagging x y).nextGrant = s.nextGrant := by
  simp only [State.nextGrant, eligible_flagging]
  rfl
@[simp] theorem inFlight_flagging : (s.flagging x y).inFlight = s.inFlight := rfl
@[simp] theorem membersFinished_flagging : (s.flagging x y).membersFinished = s.membersFinished := by
  simp [State.membersFinished]
@[simp] theorem grantMoment_flagging (t : State) : (s.flagging x y).grantMoment (t.flagging x y) = s.grantMoment t := rfl

/-! ## The operations of the follow-up, in the order of their definitions -/

@[simp] theorem flagging_raise (e : NoticeEvent) : (s.flagging x y).raise e = (s.raise e).flagging x y := by
  have flags : (putAt (Vector.zipWith (· ||| ·) s.noticePending y) e.group
        (getAt (Vector.zipWith (· ||| ·) s.noticePending y) e.group 0 ||| e.mask))
      = Vector.zipWith (· ||| ·) (putAt s.noticePending e.group (getAt s.noticePending e.group 0 ||| e.mask)) y := by
    apply Vector.ext
    intro k lt
    have inside := group_lt e
    by_cases same : e.group = k
    · subst same
      simp only [putAt, getAt, inside, Vector.getElem_zipWith, Vector.getElem_setIfInBounds_self, dite_true]
      ac_rfl
    · simp [putAt, same]
  exact congrArg (fun z : Vector Byte 8 => ({ s with counters := x, noticePending := z } : State)) flags
@[simp] theorem flagging_setStation (r : StationRecord) : (s.flagging x y).setStation a r = (s.setStation a r).flagging x y := by
  cases a <;> rfl
@[simp] theorem flagging_updateStation (g : StationRecord → StationRecord) :
    (s.flagging x y).updateStation a g = (s.updateStation a g).flagging x y := by simp [State.updateStation]
@[simp] theorem flagging_clearMembers : (s.flagging x y).clearMembers = s.clearMembers.flagging x y := rfl
@[simp] theorem flagging_setFeedRecord (r : FeedRecord) :
    (s.flagging x y).setFeedRecord f r = (s.setFeedRecord f r).flagging x y := by cases f <;> rfl
@[simp] theorem flagging_syncHead : (s.flagging x y).syncHead f = (s.syncHead f).flagging x y := by
  simp only [State.syncHead, feed_flagging, headOf_flagging, flagging_setFeedRecord]
  split <;> rfl
@[simp] theorem flagging_setEntry (e : StepEntry) : (s.flagging x y).setEntry n e = (s.setEntry n e).flagging x y := by
  have written : ∀ t : State, (t.flagging x y).syncHeads = t.syncHeads.flagging x y := fun t => by simp [State.syncHeads]
  exact written { s with entries := putAt s.entries n e }
@[simp] theorem flagging_setStepState (k : StepState) :
    (s.flagging x y).setStepState n k = (s.setStepState n k).flagging x y := by simp [State.setStepState]
@[simp] theorem flagging_setSlot (r : Option InjectionRecord) : (s.flagging x y).setSlot i r = (s.setSlot i r).flagging x y := rfl
@[simp] theorem flagging_createContribution :
    (s.flagging x y).createContribution f n = (s.createContribution f n).flagging x y := rfl
@[simp] theorem flagging_startClock : (s.flagging x y).startClock n = (s.startClock n).flagging x y := rfl

@[simp] theorem flagging_evaluate : (s.flagging x y).evaluate n = (s.evaluate n).flagging x y := by
  simp only [State.evaluate, stepState_flagging, verdict_flagging, step_flagging, restartCause_flagging, flagging_setStepState]
  split
  · split
    · rfl
    · rfl
    · split <;> rfl
  · rfl

/-- What commutes step by step commutes along a list. -/
theorem foldl_flagging {β : Type} (g : State → β → State) (each : ∀ t b, g (t.flagging x y) b = (g t b).flagging x y) (l : List β) :
    l.foldl g (s.flagging x y) = (l.foldl g s).flagging x y := by
  induction l generalizing s with
  | nil => rfl
  | cons b l ih => rw [List.foldl_cons, List.foldl_cons, each, ih]

@[simp] theorem flagging_evaluateAll : (s.flagging x y).evaluateAll = s.evaluateAll.flagging x y :=
  foldl_flagging x y _ (fun _ _ => flagging_evaluate x y _) _
@[simp] theorem flagging_makeAttempt : (s.flagging x y).makeAttempt i = (s.makeAttempt i).flagging x y := by
  simp only [State.makeAttempt, slot_flagging]
  split <;> rfl
@[simp] theorem flagging_openRecord (k c : Nat) : (s.flagging x y).openRecord i n k c = (s.openRecord i n k c).flagging x y := by
  simp [State.openRecord]
@[simp] theorem flagging_cancelRecord : (s.flagging x y).cancelRecord i = (s.cancelRecord i).flagging x y := by
  simp only [State.cancelRecord, slot_flagging, flagging_setSlot]
  split
  · split
    · rfl
    · split <;> rfl
  · rfl
@[simp] theorem flagging_cancelRecordOf : (s.flagging x y).cancelRecordOf a n = (s.cancelRecordOf a n).flagging x y := by
  simp only [State.cancelRecordOf, slotOf_flagging, slot_flagging, flagging_cancelRecord]
  split
  · split
    · split <;> rfl
    · rfl
  · rfl
@[simp] theorem flagging_leaveStep (d : Bool) : State.leaveStep a d (s.flagging x y) n = (State.leaveStep a d s n).flagging x y := by
  simp only [State.leaveStep, entry_flagging, flagging_setStepState, flagging_cancelRecordOf, flagging_startClock, flagging_setEntry]
  split
  case h_4 => split <;> rfl
  all_goals rfl
@[simp] theorem flagging_leaveSteps (d : Bool) : (s.flagging x y).leaveSteps a d = (s.leaveSteps a d).flagging x y :=
  foldl_flagging x y _ (fun _ _ => flagging_leaveStep x y _ _ _) _
@[simp] theorem flagging_settleStep : (s.flagging x y).settleStep n = (s.settleStep n).flagging x y := by
  simp only [State.settleStep, step_flagging, entry_flagging, flagging_setEntry]
  split <;> rfl
@[simp] theorem flagging_leaveRun (d : Bool) : (s.flagging x y).leaveRun a d = (s.leaveRun a d).flagging x y := by
  simp only [State.leaveRun, station_flagging, flagging_updateStation, run_flagging, flagging_leaveSteps]
  split <;> rfl
@[simp] theorem flagging_drainEnd : (s.flagging x y).drainEnd a = (s.drainEnd a).flagging x y := by
  simp only [State.drainEnd, station_flagging, flagging_updateStation, flagging_raise]
  split <;> simp
@[simp] theorem flagging_checkDrain : (s.flagging x y).checkDrain a = (s.checkDrain a).flagging x y := by
  simp only [State.checkDrain, station_flagging, queue_flagging, flagging_drainEnd]
  split <;> rfl
@[simp] theorem flagging_enterDraining : (s.flagging x y).enterDraining a = (s.enterDraining a).flagging x y := by
  simp only [State.enterDraining, station_flagging, flagging_updateStation, flagging_checkDrain]
  split <;> rfl
@[simp] theorem flagging_completeFrameless : (s.flagging x y).completeFrameless n = (s.completeFrameless n).flagging x y := by
  simp only [State.completeFrameless, step_flagging, flagging_settleStep, flagging_enterDraining]
  split <;> rfl
@[simp] theorem flagging_markWait : (s.flagging x y).markWait f = (s.markWait f).flagging x y := by
  simp only [State.markWait, headOf_flagging, headTested_flagging, admits_flagging, feed_flagging, bridgeTime_flagging,
    flagging_setFeedRecord]
  split
  · split <;> rfl
  · rfl

theorem flagging_issue (r : StepRecord) : (s.flagging x y).issue i n r = (s.issue i n r).flagging x y := by
  unfold State.issue
  split
  · rw [flagging_createContribution, flagging_openRecord, flagging_setStepState]
  · rw [flagging_openRecord, flagging_setStepState]

@[simp] theorem flagging_grant : (s.flagging x y).grant i n = (s.grant i n).flagging x y := by
  rw [grant_eq, grant_eq, step_flagging, flagging_issue, station_flagging, flagging_updateStation]
  split <;> rfl

theorem flagging_settleLoop (fuel : Nat) (due : Bool) :
    State.settleLoop fuel due (s.flagging x y) = (State.settleLoop fuel due s).flagging x y := by
  induction fuel generalizing due s with
  | zero => rfl
  | succ k ih =>
    simp only [State.settleLoop, flagging_evaluateAll, grantMoment_flagging, nextFrameless_flagging, flagging_completeFrameless,
      flagging_markWait, nextGrant_flagging, flagging_grant]
    split
    · exact ih _
    · split
      · split
        · exact ih _
        · rfl
      · rfl

@[simp] theorem flagging_drainMembers : (s.flagging x y).drainMembers = s.drainMembers.flagging x y := by
  simp only [State.drainMembers, station_flagging]
  rw [foldl_flagging x y _ fun _ _ => flagging_enterDraining x y _, flagging_clearMembers]
@[simp] theorem flagging_closeRun (o : RunOutcome) : (s.flagging x y).closeRun o = (s.closeRun o).flagging x y :=
  flagging_raise (s := { s with run :=
    { s.run with inProgress := false, halting := none, causes := .empty, lastOutcome := o } }) x y .ended
@[simp] theorem flagging_testRunEnd : (s.flagging x y).testRunEnd = s.testRunEnd.flagging x y := by
  simp only [State.testRunEnd, State.endRun, run_flagging, inFlight_flagging, membersFinished_flagging, stepState_flagging,
    flagging_drainMembers, flagging_closeRun]
  split <;> rfl

/-- The Run Engine's follow-up neither reads the counters and the pending flags nor clears one of these. -/
theorem flagging_followUp (due : Bool) : State.followUp due (s.flagging x y) = (State.followUp due s).flagging x y := by
  simp only [State.followUp, run_flagging, flagging_settleLoop, flagging_testRunEnd]
  split <;> rfl
end


end Sys2Proof.Machine
end

section
/-! SUPPORT. The next attempt of a record after a reply timeout (R129, R130). -/

namespace Sys2Proof.Machine

variable {s : State}

/-! ## Flags of an event and of a count -/

theorem raise_flagging (e : NoticeEvent) : ∃ y, s.raise e = s.flagging s.counters y := by
  refine ⟨putAt (Vector.replicate 8 0) e.group e.mask, ?_⟩
  have flags : putAt s.noticePending e.group (getAt s.noticePending e.group 0 ||| e.mask)
      = Vector.zipWith (· ||| ·) s.noticePending (putAt (Vector.replicate 8 0) e.group e.mask) := by
    apply Vector.ext
    intro k lt
    have inside := group_lt e
    by_cases same : e.group = k
    · subst same
      simp [putAt, getAt, inside]
    · simp [putAt, same]
  exact congrArg (fun z : Vector Byte 8 => ({ s with noticePending := z } : State)) flags

/-- A count sets the counters and adds flags. -/
theorem count_flagging (c : Counter) : ∃ y, s.count c = s.flagging (s.count c).counters y := by
  have none : Vector.zipWith (· ||| ·) s.noticePending (Vector.replicate 8 0) = s.noticePending := by
    apply Vector.ext
    intro k lt
    simp
  have plain : ∀ x, { s with counters := x } = s.flagging x (Vector.replicate 8 0) := fun x => by
    unfold State.flagging
    rw [none]
  rcases count_cases s c with ⟨-, same⟩ | ⟨-, marked⟩ | ⟨-, raised⟩
  · exact ⟨Vector.replicate 8 0, by rw [same, ← plain]⟩
  · obtain ⟨y, flagged⟩ := raise_flagging (s := { s with counters := (s.count c).counters }) .counter128
    exact ⟨y, marked.trans flagged⟩
  · exact ⟨Vector.replicate 8 0, raised.trans (plain _)⟩

/-! ## The seqs of the band -/

theorem nextInBand_toNat {b : Byte} (band : inBand b) : (nextInBand b).toNat = 224 + (b.toNat - 224 + 1) % 32 := by
  have low : 224 ≤ b.toNat := band
  have high := b.isLt
  unfold nextInBand
  by_cases last : b = 255
  · subst last
    decide
  · have other : b.toNat ≠ 255 := fun k => last (BitVec.eq_of_toNat_eq k)
    rw [if_neg last, BitVec.toNat_add]
    show (b.toNat + 1) % 2 ^ 8 = _
    omega

/-- The seq that stands `j` places on in the band. -/
theorem nextInBand_iterate {b : Byte} (band : inBand b) (j : Nat) :
    (nextInBand^[j] b).toNat = 224 + (b.toNat - 224 + j) % 32 := by
  have low : 224 ≤ b.toNat := band
  have high := b.isLt
  induction j with
  | zero =>
    show b.toNat = _
    omega
  | succ j ih =>
    have here : inBand (nextInBand^[j] b) := by
      unfold inBand
      omega
    rw [Function.iterate_succ_apply', nextInBand_toNat here, ih]
    omega

theorem pickSeq_inBand (used : List Byte) (k : Nat) {b : Byte} (band : inBand b) : inBand (pickSeq used k b) := by
  induction k generalizing b with
  | zero => exact band
  | succ k ih =>
    unfold pickSeq
    split
    · refine ih ?_
      unfold inBand
      rw [nextInBand_toNat band]
      omega
    · exact band

/-- A pick that ends at a used seq has found all those before it used. -/
theorem pickSeq_used {used : List Byte} {k : Nat} {b : Byte} (taken : pickSeq used k b ∈ used) (j : Nat) (lt : j < k) :
    nextInBand^[j] b ∈ used := by
  induction k generalizing b j with
  | zero => exact absurd lt (Nat.not_lt_zero j)
  | succ k ih =>
    unfold pickSeq at taken
    split at taken
    · next here =>
      cases j with
      | zero => simpa using here
      | succ j => exact ih taken j (by omega)
    · next free => exact absurd taken (by simpa using free)

/-- A record that holds fewer seqs than the band has finds a new one (R129). -/
theorem pickSeq_fresh {used : List Byte} {b : Byte} (band : inBand b) (few : used.length < 32) : pickSeq used 32 b ∉ used := by
  intro taken
  have distinct : ((List.range 32).map (fun j => nextInBand^[j] b)).Nodup := by
    refine List.Nodup.map_on (fun j hj k hk same => ?_) List.nodup_range
    have places := congrArg BitVec.toNat same
    rw [nextInBand_iterate band, nextInBand_iterate band] at places
    have hj := List.mem_range.1 hj
    have hk := List.mem_range.1 hk
    omega
  have held : (List.range 32).map (fun j => nextInBand^[j] b) ⊆ used := fun q mem => by
    obtain ⟨j, hj, rfl⟩ := List.mem_map.1 mem
    exact pickSeq_used taken j (List.mem_range.1 hj)
  have length := (List.subperm_of_subset distinct held).length_le
  simp only [List.length_map, List.length_range] at length
  omega

/-! ## A retry (R130) -/

/-- A record whose attempt has run out, with the seq of its next one. -/
def InjectionRecord.retried (r : InjectionRecord) (q : Byte) : InjectionRecord :=
  { r with outstanding := none, deadline := none, attempts := r.attempts ++ [q], ready := some q }

/-- `s` with the record of a slot retried by `q`. -/
def State.retried (s : State) (i : Nat) (r : InjectionRecord) (q : Byte) : State :=
  { s.setSlot i (some (r.retried q)) with injectionSeq := nextInBand q }

theorem setSlot_setSlot (i : Nat) (x y : Option InjectionRecord) : (s.setSlot i x).setSlot i y = s.setSlot i y := by
  have twice : putAt (putAt s.slots i x) i y = putAt s.slots i y := by
    apply Vector.ext
    intro k lt
    by_cases same : i = k
    · simp [putAt, same]
    · simp [putAt, same]
  exact congrArg (fun l : Vector (Option InjectionRecord) 8 => ({ s with slots := l } : State)) twice

section
variable {i : Nat} {r : InjectionRecord} (slot : s.slot i = some r)
include slot

theorem timeOut_retries (left : r.attempts.length < 1 + (s.step r.step).retries) :
    s.timeOut i r = (s.retried i r (pickSeq r.attempts 32 s.injectionSeq)).count .stepRetries := by
  unfold State.timeOut State.makeAttempt
  dsimp only
  rw [if_pos left, setSlot_here (slot_lt slot)]
  dsimp only
  rw [setSlot_setSlot]
  rfl

theorem retried_slot (q : Byte) : (s.retried i r q).slot i = some (r.retried q) := setSlot_here (slot_lt slot) _

/-- A retry is no moment of a grant test (R126). -/
theorem grantMoment_retried (q : Byte) : s.grantMoment (s.retried i r q) = false := by
  have closed : s.recordClosed (s.retried i r q) = s.recordClosed s := by
    funext j
    unfold State.recordClosed
    by_cases same : i = j
    · subst same
      rw [slot, retried_slot slot]
      simp [InjectionRecord.retried]
    · have other : (s.retried i r q).slot j = s.slot j := (setSlot_slot s i _ j).trans (if_neg fun k => same k.1)
      rw [other]
  rw [← grantMoment_self (s := s)]
  unfold State.grantMoment
  rw [closed]
  rfl

theorem replyExpires_out (isOpen : r.closing = false) (unwaited : r.repollWait = false) (out : r.outstanding.isSome = true)
    (timed : r.deadline.isSome = true) : s.replyExpires i = s.settleFrom (s.timeOut i r) := by
  unfold State.replyExpires
  rw [slot]
  exact if_pos (by simp [isOpen, unwaited, out, timed])
end

theorem untouched_retried (i : Nat) (r : InjectionRecord) (q : Byte) : Untouched s (s.retried i r q) := untouched_of_core rfl

end Sys2Proof.Machine
end

section
/-! SUPPORT. A step that fails: its dependents, its halt and the fault of its station (R105, R139, R140). -/

namespace Sys2Proof.Machine

variable {s : State}

/-! ## Evaluation (R104, R105) -/

theorem evaluate_entry_ne {n m : Nat} (other : n ≠ m) : (s.evaluate n).entry m = s.entry m := by
  have set : ∀ x, (s.setStepState n x).entry m = s.entry m := fun x => by
    rw [setStepState_entry, if_neg fun k => other k.1]
  unfold State.evaluate
  split
  · split
    · exact set _
    · rfl
    · split <;> exact set _
  · rfl

/-- An evaluation leaves a step that is not PENDING. -/
theorem evaluate_keeps {m : Nat} (n : Nat) (settled : (s.entry m).state ≠ .pending) : (s.evaluate n).entry m = s.entry m := by
  by_cases same : n = m
  · subst same
    unfold State.evaluate
    rw [if_neg fun k => settled (stepState_entry k (by decide))]
  · exact evaluate_entry_ne same

theorem evaluateAll_keeps {m : Nat} (settled : (s.entry m).state ≠ .pending) : s.evaluateAll.entry m = s.entry m :=
  foldl_kept (fun t : State => t.entry m = s.entry m) _ _
    (fun t n _ same => (evaluate_keeps n (by rw [same]; exact settled)).trans same) s rfl

/-- An evaluation takes no step to IDLE. -/
theorem evaluateAll_busy {m : Nat} (busy : (s.entry m).state ≠ .idle) : (s.evaluateAll.entry m).state ≠ .idle := by
  have set : ∀ (t : State) n x, x ≠ .idle → (t.entry m).state ≠ .idle → ((t.setStepState n x).entry m).state ≠ .idle :=
    fun t n x other kept => by
      rw [setStepState_entry]
      split
      · exact other
      · exact kept
  refine foldl_kept (fun t : State => (t.entry m).state ≠ .idle) _ _ (fun t n _ kept => ?_) s busy
  unfold State.evaluate
  split
  · split
    · exact set t n _ (by decide) kept
    · exact kept
    · split <;> exact set t n _ (by decide) kept
  · exact kept

theorem evaluateAll_slots : s.evaluateAll.slots = s.slots := foldl_keeps State.slots _ (fun s n => evaluate_slots (s := s) n) _ s

theorem evaluate_plan (n : Nat) : (s.evaluate n).plan = s.plan := (congrArg State.plan (evaluate_core s n) :)

section
variable {n m : Nat} (used : (s.step n).used = true) (usedM : (s.step m).used = true) (pred : n ∈ (s.step m).preds)
include used usedM pred

/-- A PENDING step with a failed predecessor is skipped when it is evaluated. -/
theorem evaluate_skips (failed : (s.entry n).state = .failed) (pending : (s.entry m).state = .pending) :
    ((s.evaluate m).entry m).state = .skipped := by
  have waits : s.stepState m = .pending := by rw [State.stepState, if_pos usedM, pending]
  have fails : s.stepState n = .failed := by rw [State.stepState, if_pos used, failed]
  have skip : s.verdict m = .skip := by
    unfold State.verdict
    refine if_pos (List.any_eq_true.2 ⟨.failed, ?_, by decide⟩)
    rw [← fails]
    exact List.mem_map_of_mem pred
  unfold State.evaluate
  rw [if_pos waits, skip]
  dsimp only
  rw [setStepState_entry, if_pos ⟨rfl, step_used_lt usedM⟩]

/-- The PENDING dependents of a failed step are skipped (R105). -/
theorem evaluateAll_skips (other : m ≠ n) (failed : (s.entry n).state = .failed)
    (pending : (s.entry m).state = .pending) : (s.evaluateAll.entry m).state = .skipped := by
  have reaches : ∀ (l : List Nat) (t : State), t.plan = s.plan → (t.entry n).state = .failed →
      ((t.entry m).state = .pending ∧ m ∈ l ∨ (t.entry m).state = .skipped) →
      ((l.foldl State.evaluate t).entry m).state = .skipped := fun l => by
    induction l with
    | nil => exact fun t _ _ h => h.resolve_left fun k => absurd k.2 (List.not_mem_nil)
    | cons k l ih =>
      intro t plan failedT h
      have step : ∀ j, t.step j = s.step j := fun j => by simp [State.step, plan]
      refine ih (t.evaluate k) ((evaluate_plan k).trans plan) ?_ ?_
      · rw [evaluate_keeps k (by rw [failedT]; decide)]
        exact failedT
      · rcases h with ⟨waits, mem⟩ | done
        · by_cases here : k = m
          · subst here
            exact .inr (evaluate_skips (s := t) (by rw [step]; exact used) (by rw [step]; exact usedM) (by rw [step]; exact pred)
              failedT waits)
          · rw [evaluate_entry_ne here]
            exact .inl ⟨waits, (List.mem_cons.1 mem).resolve_left (Ne.symm here)⟩
        · rw [evaluate_keeps k (by rw [done]; decide)]
          exact .inr done
  refine reaches stepNumbers s rfl failed (.inl ⟨pending, ?_⟩)
  simpa [stepNumbers] using step_used_lt usedM
end

/-! ## The record of a finished step -/

section
variable {i : Nat} {r : InjectionRecord} (slot : s.slot i = some r) (finished : (s.entry r.step).state.terminal = true)
include slot finished

theorem leaveStep_keepsFinished (a : Nat) (d : Bool) (n : Nat) : (State.leaveStep a d s n).slot i = some r := by
  have set : ∀ e, (s.setEntry n e).slot i = some r := fun e => (slot_congr (setEntry_slots ..) i).trans slot
  unfold State.leaveStep
  split
  · exact set _
  · exact set _
  · next issued =>
    have other : r.step ≠ n := fun same => by
      rw [same, issued] at finished
      cases finished
    obtain ⟨t, ht⟩ : ∃ t, t = s.setStepState n .skipped := ⟨_, rfl⟩
    have here : t.slot i = some r := ht ▸ set _
    show ((s.setStepState n .skipped).cancelRecordOf a n).slot i = some r
    rw [← ht]
    unfold State.cancelRecordOf
    split
    · next j _ =>
      split
      · next x found =>
        split
        · next stepped =>
          have away : j ≠ i := fun same => by
            rw [same, here] at found
            cases found
            exact other stepped
          rw [cancelRecord_slot, if_neg away]
          exact here
        · exact here
      · exact here
    · exact here
  · split
    · exact slot
    · exact set _
  · exact slot

theorem leaveRun_keepsFinished (a : Nat) (d : Bool) : (s.leaveRun a d).slot i = some r := by
  obtain ⟨u, hu⟩ : ∃ u, u = s.updateStation a (fun x => { x with member := false }) := ⟨_, rfl⟩
  have here : u.slot i = some r := (slot_congr (by rw [hu]; exact updateStation_slots ..) i).trans slot
  have ends : u.entry r.step = s.entry r.step := entry_congr (by rw [hu]; exact updateStation_entries ..) _
  unfold State.leaveRun State.leaveSteps
  dsimp only
  rw [← hu]
  split
  · exact (foldl_kept (fun t : State => t.slot i = some r ∧ Follows u t) _ _ (fun t n _ ⟨kept, follows⟩ =>
      ⟨leaveStep_keepsFinished kept (by rw [follows.terminal _ (by rw [ends]; exact finished), ends]; exact finished) a d n,
        follows.trans (follows_leaveStep a d t n)⟩) u ⟨here, .rfl' u⟩).1
  · exact here

theorem faultRequest_keepsFinished (a : Nat) (c : FaultCause) : (s.faultRequest a c).slot i = some r := by
  have update : ∀ g : StationRecord → StationRecord, (s.updateStation a g).slot i = some r := fun g =>
    (slot_congr (updateStation_slots ..) i).trans slot
  have leaves : ∀ g : StationRecord → StationRecord, ((s.updateStation a g).leaveRun a false).slot i = some r := fun g =>
    leaveRun_keepsFinished (update g) (by rw [entry_congr (updateStation_entries ..)]; exact finished) a false
  unfold State.faultRequest
  split
  · exact update _
  iterate 2
    · split
      · exact leaves _
      · exact leaves _
  · split
    · exact slot
    · exact leaves _
  all_goals exact slot
end

/-! ## The halt (R140) -/

theorem haltRun_run (n : Nat) : (s.haltRun n).run = { s.run with halting := some (s.run.halting.getD n) } := by
  unfold State.haltRun
  cases halted : s.run.halting with
  | none => rfl
  | some k =>
    rw [if_pos (show (some k).isSome = true from rfl)]
    show s.run = { s.run with halting := some k }
    rw [← halted]

theorem haltRun_keeps (n : Nat) : (s.haltRun n).entries = s.entries ∧ (s.haltRun n).slots = s.slots
    ∧ (s.haltRun n).stations = s.stations := by
  unfold State.haltRun
  split <;> exact ⟨rfl, rfl, rfl⟩

theorem haltRun_raises {n : Nat} (running : s.run.halting = none) : (s.haltRun n).isPending .halted = true := by
  unfold State.haltRun
  rw [running]
  exact raise_isPending _ _

theorem faultRequest_run (a : Nat) (c : FaultCause) : (s.faultRequest a c).run = s.run := by
  have leaves : ∀ g : StationRecord → StationRecord, ((s.updateStation a g).leaveRun a false).run = s.run := fun g =>
    (leaveRun_run (s := s.updateStation a g) a false).trans (updateStation_run s a g)
  unfold State.faultRequest
  split
  · exact updateStation_run ..
  iterate 2
    · split
      · exact leaves _
      · exact leaves _
  · split
    · rfl
    · exact leaves _
  all_goals rfl

/-- A run that the follow-up leaves in progress keeps its record. -/
theorem followUp_runs (due : Bool) (runs : (State.followUp due s).run.inProgress = true) : (State.followUp due s).run = s.run := by
  unfold State.followUp State.testRunEnd at runs ⊢
  split
  · next going =>
    rw [if_pos going] at runs
    split
    · next done =>
      rw [if_pos done] at runs
      cases runs
    · exact settleLoop_run _ _
  · rfl

/-! ## The failure of a step -/

/-- `s` with a step FAILED, its clock started and its event raised, before what follows from it. -/
def State.failing (s : State) (n : Nat) (cause : FailureCause) (nak : Byte) : State :=
  ((s.setEntry n { s.entry n with state := .failed, cause := cause, nak := nak }).startClock n).raise .stepFailed

/-- What a failed ESSENTIAL step leaves before the fault of its station is requested. -/
def State.halting (s : State) (n : Nat) : State := s.evaluateAll.haltRun n

section
variable (n : Nat) (cause : FailureCause) (nak : Byte)

theorem failing_entry (m : Nat) : (s.failing n cause nak).entry m =
    if n = m ∧ m < 96 then { s.entry n with state := .failed, cause := cause, nak := nak } else s.entry m :=
  setEntry_entry s n m _

theorem failing_keeps : (s.failing n cause nak).slots = s.slots ∧ (s.failing n cause nak).stations = s.stations
    ∧ (s.failing n cause nak).run = s.run ∧ (s.failing n cause nak).plan = s.plan ∧ (s.failing n cause nak).queues = s.queues :=
  ⟨setEntry_slots .., setEntry_stations .., setEntry_run .., setEntry_plan .., by
    exact (congrArg State.queues (setEntry_core s n _) :)⟩

theorem failStep_ordinary (counted : cause ≠ .overBudget) (ordinary : (s.step n).criticality = .ordinary) :
    s.failStep n cause nak = (s.failing n cause nak).evaluateAll := by
  have plan : (s.failing n cause nak).evaluateAll.plan = s.plan :=
    (congrArg State.plan (evaluateAll_core _) :).trans (failing_keeps n cause nak).2.2.2.1
  have step : (s.failing n cause nak).evaluateAll.step n = s.step n := by simp [State.step, plan]
  unfold State.failStep
  dsimp only
  rw [if_neg counted]
  show (s.failing n cause nak).propagate n = _
  unfold State.propagate
  dsimp only
  rw [step, ordinary]

theorem failStep_essential (counted : cause ≠ .overBudget) (essential : (s.step n).criticality = .essential) :
    s.failStep n cause nak =
      (((s.failing n cause nak).halting n).faultRequest (s.step n).station .essentialStep).evaluateAll := by
  have plan : (s.failing n cause nak).evaluateAll.plan = s.plan :=
    (congrArg State.plan (evaluateAll_core _) :).trans (failing_keeps n cause nak).2.2.2.1
  have step : (s.failing n cause nak).evaluateAll.step n = s.step n := by simp [State.step, plan]
  unfold State.failStep
  dsimp only
  rw [if_neg counted]
  show (s.failing n cause nak).propagate n = _
  unfold State.propagate
  dsimp only
  rw [step, essential]
  rfl
end

end Sys2Proof.Machine
end

section
/-! SUPPORT. The expiry of a reply timeout (R130, R139, R140). -/

namespace Sys2Proof.Machine

variable {s : State}

/-! ## What a failed step leaves -/

section
variable {n : Nat} (lt : n < 96) (cause : FailureCause) (counted : cause ≠ .overBudget) (nak : Byte)

theorem follows_failed : Follows (s.failing n cause nak).evaluateAll ((s.failing n cause nak).propagate n) := by
  unfold State.propagate
  dsimp only
  split
  · exact .rfl' _
  · exact ((follows_haltRun n).trans (follows_faultRequest _ _ _)).trans (follows_evaluateAll _)

include counted in
theorem failStep_propagates : s.failStep n cause nak = (s.failing n cause nak).propagate n := by
  unfold State.failStep
  dsimp only
  rw [if_neg counted]
  rfl

include lt counted

theorem failStep_skips {m : Nat} (used : (s.step n).used = true) (usedM : (s.step m).used = true) (pred : n ∈ (s.step m).preds)
    (other : m ≠ n) (pending : (s.entry m).state = .pending) : ((s.failStep n cause nak).entry m).state = .skipped := by
  obtain ⟨u, hu⟩ : ∃ u, u = s.failing n cause nak := ⟨_, rfl⟩
  obtain ⟨slots, stations, run, plan, queues⟩ := hu ▸ failing_keeps (s := s) n cause nak
  have step : ∀ k, u.step k = s.step k := fun k => by simp [State.step, plan]
  have failed : (u.entry n).state = .failed := by rw [hu, failing_entry, if_pos ⟨rfl, lt⟩]
  have still : (u.entry m).state = .pending := by rw [hu, failing_entry, if_neg fun k => other k.1.symm]; exact pending
  have skipped := evaluateAll_skips (s := u) (by rw [step]; exact used) (by rw [step]; exact usedM) (by rw [step]; exact pred)
    other failed still
  have follows : Follows u.evaluateAll (u.propagate n) := hu ▸ follows_failed cause nak
  rw [failStep_propagates cause counted nak, ← hu, follows.terminal m (by rw [skipped]; rfl)]
  exact skipped

/-- The record of the step that fails stays as it stands. -/
theorem failStep_keepsRecord {i : Nat} {c : InjectionRecord} (slot : s.slot i = some c) (own : c.step = n) :
    (s.failStep n cause nak).slot i = some c := by
  obtain ⟨u, hu⟩ : ∃ u, u = s.failing n cause nak := ⟨_, rfl⟩
  obtain ⟨slots, stations, run, plan, queues⟩ := hu ▸ failing_keeps (s := s) n cause nak
  have failed : (u.entry n).state = .failed := by rw [hu, failing_entry, if_pos ⟨rfl, lt⟩]
  have ends : u.evaluateAll.entry n = u.entry n := evaluateAll_keeps (by rw [failed]; decide)
  have here : u.evaluateAll.slot i = some c := (slot_congr (evaluateAll_slots.trans slots) i).trans slot
  rw [failStep_propagates cause counted nak, ← hu]
  unfold State.propagate
  dsimp only
  split
  · exact here
  · obtain ⟨entries, haltSlots, -⟩ := haltRun_keeps (s := u.evaluateAll) n
    rw [slot_congr evaluateAll_slots]
    refine faultRequest_keepsFinished ((slot_congr haltSlots i).trans here) ?_ _ _
    rw [entry_congr entries, own, ends, failed]
    rfl
end

/-! ## The fault of an ESSENTIAL step's station -/

section
variable (n : Nat) (cause : FailureCause) (nak : Byte)

/-- What stands when the fault of an ESSENTIAL step's station is requested. -/
theorem halting_keeps : ((s.failing n cause nak).halting n).stations = s.stations
    ∧ ((s.failing n cause nak).halting n).queues = s.queues ∧ ((s.failing n cause nak).halting n).plan = s.plan
    ∧ ((s.failing n cause nak).halting n).run = { s.run with halting := some (s.run.halting.getD n) } := by
  obtain ⟨slots, stations, run, plan, queues⟩ := failing_keeps (s := s) n cause nak
  obtain ⟨u, hu⟩ : ∃ u, u = s.failing n cause nak := ⟨_, rfl⟩
  rw [← hu] at stations run plan queues ⊢
  have core : (u.halting n).core = u.core := (haltRun_core _ n).trans (evaluateAll_core u)
  refine ⟨((haltRun_keeps n).2.2.trans evaluateAll_stations).trans stations, (congrArg State.queues core :).trans queues,
    (congrArg State.plan core :).trans plan, ?_⟩
  unfold State.halting
  rw [haltRun_run, evaluateAll_run, run]

/-- The entries of the other steps when the fault is requested: a PENDING step has been evaluated. -/
theorem halting_entry {m : Nat} (other : m ≠ n) :
    ((s.entry m).state ≠ .pending → ((s.failing n cause nak).halting n).entry m = s.entry m)
      ∧ ((s.entry m).state = .pending → (((s.failing n cause nak).halting n).entry m).state ≠ .idle) := by
  have entry : (s.failing n cause nak).entry m = s.entry m := by rw [failing_entry, if_neg fun k => other k.1.symm]
  have halted : ((s.failing n cause nak).halting n).entry m = (s.failing n cause nak).evaluateAll.entry m :=
    entry_congr (haltRun_keeps n).1 m
  rw [halted]
  refine ⟨fun settled => ?_, fun pending => ?_⟩
  · rw [evaluateAll_keeps (by rw [entry]; exact settled), entry]
  · exact evaluateAll_busy (by rw [entry, pending]; decide)
end

theorem listed_valid {a : Nat} (seen : (s.station a).state ≠ .unlisted) : validStation a = true := by
  by_contra out
  rw [station_invalid (by simpa using out)] at seen
  exact seen rfl

/-- What a failed ESSENTIAL step leaves of its station and of that station's steps, after the follow-up `t` (R44, R46, R140). -/
theorem essential_faults {n : Nat} (cause : FailureCause) (nak : Byte) {t : State} {w : State} {b : Nat}
    (hw : w = ((s.failing n cause nak).halting n).faultRequest b .essentialStep)
    (turned : StationsTurn w t) (drains : DrainsOn w t) (follows : Follows w t) :
    let x := s.station b
    ((x.state = .held ∨ x.state = .restoring) → s.queue b = [] →
      (t.station b).state = .faulted ∧ (t.station b).faultCause = some .essentialStep ∧ t.isPending .faulted = true)
    ∧ (((x.state = .held ∨ x.state = .restoring) ∧ s.queue b ≠ []) ∨ (x.state = .draining ∧ x.faultPending = false) →
      (t.station b).state = .draining ∧ (t.station b).faultPending = true ∧ (t.station b).faultCause = some .essentialStep)
    ∧ (x.state = .held ∨ x.state = .restoring ∨ (x.state = .draining ∧ x.faultPending = false) →
      (t.station b).member = false
      ∧ (x.member = true → s.run.inProgress = true → ∀ m, m ≠ n → (s.step m).used = true → (s.step m).station = b →
        ((s.entry m).state = .awaiting ∨ (s.entry m).state = .issued ∨ (s.entry m).state = .settling →
          (t.entry m).state = .skipped)
        ∧ ((s.entry m).state = .pending → (t.entry m).state.terminal = true))) := by
  intro x
  obtain ⟨stations, queues, plan, run⟩ := halting_keeps (s := s) n cause nak
  have entry := fun m => halting_entry (s := s) n cause nak (m := m)
  obtain ⟨y, hy⟩ : ∃ y, y = (s.failing n cause nak).halting n := ⟨_, rfl⟩
  rw [← hy] at stations queues plan run hw
  simp only [← hy] at entry
  have own : y.station b = x := station_congr stations b
  have queue : y.queue b = s.queue b := queue_congr queues b
  have step : ∀ m, y.step m = s.step m := fun m => by simp [State.step, plan]
  subst hw
  by_cases seen : x.state = .unlisted
  · refine ⟨fun h => ?_, fun h => ?_, fun h => ?_⟩
    all_goals simp [seen] at h
  have valid : validStation b = true := listed_valid seen
  obtain ⟨faulted, draining, -, leaves⟩ := faultRequest_settles (s := y) valid .essentialStep turned drains
  have raised := faultRequest_raises (s := y) (a := b) (c := .essentialStep)
  rw [own, queue] at faulted draining raised
  rw [own] at leaves
  refine ⟨fun holding empty => ?_, draining, fun leaving => ⟨leaves leaving, fun member runs m other used owned => ?_⟩⟩
  · have at_once : x.state = .online ∨ ((x.state = .held ∨ x.state = .restoring) ∧ s.queue b = []) := .inr ⟨holding, empty⟩
    exact ⟨(faulted at_once).1, (faulted at_once).2, follows.pending .faulted (raised at_once)⟩
  · have left : (y.faultRequest b .essentialStep).entry m = leftEntry false (y.entry m) :=
      faultRequest_entry valid (by rw [own]; exact leaving) (by rw [own]; exact member) (by rw [run]; exact runs)
        (by rw [step]; exact used) (by rw [step]; exact owned)
    have skips : (y.entry m).state ≠ .idle → (y.entry m).state.terminal = false → (t.entry m).state = .skipped :=
      fun busy unfinished => by
        have skipped := leftEntry_skipped busy unfinished
        rw [follows.terminal m (by rw [left, skipped]; rfl), left, skipped]
    refine ⟨fun moving => ?_, fun pending => ?_⟩
    · have same : y.entry m = s.entry m := (entry m other).1 (by rcases moving with k | k | k <;> rw [k] <;> decide)
      refine skips ?_ ?_
      · rw [same]
        rcases moving with k | k | k <;> rw [k] <;> decide
      · rw [same]
        rcases moving with k | k | k <;> rw [k] <;> rfl
    · have busy := (entry m other).2 pending
      cases ended : (y.entry m).state.terminal with
      | false => rw [skips busy ended]; rfl
      | true =>
        have stays : leftEntry false (y.entry m) = y.entry m := by
          unfold leftEntry
          cases state : (y.entry m).state <;> simp_all [StepState.terminal]
        rw [follows.terminal m (by rw [left, stays]; exact ended), left, stays]
        exact ended

/-! ## The expiry -/

section
variable {i : Nat} {r : InjectionRecord}

/-- The record of a slot that has no retries left. -/
def InjectionRecord.expired (r : InjectionRecord) (later : BridgeTime) : InjectionRecord :=
  { r with closing := true, outstanding := none, ready := none, deadline := some later }

/-- `s` with the record of a slot CLOSING for one more reply timeout. -/
def State.expired (s : State) (i : Nat) (r : InjectionRecord) : State :=
  s.setSlot i (some (r.expired (s.later (s.step r.step).replyTimeout)))

theorem timeOut_fails (none : 1 + (s.step r.step).retries ≤ r.attempts.length) :
    s.timeOut i r = (s.expired i r).failStep r.step .noReply 0 := by
  unfold State.timeOut
  dsimp only
  rw [if_neg (Nat.not_lt.2 none)]
  rfl

variable (slot : s.slot i = some r) (isOpen : r.closing = false) (unwaited : r.repollWait = false)
  (out : r.outstanding.isSome = true) (timed : r.deadline.isSome = true)
include slot isOpen unwaited out timed

theorem replyTimeout_out : exec (.replyTimeout i) s = .next (s.close (s.settleFrom (s.timeOut i r))) :=
  congrArg (fun t => Host.Outcome.next (s.close t)) (replyExpires_out slot isOpen unwaited out timed)

/-- A reply timeout with retries left (R130). -/
theorem replyTimeout_retries (band : BandKept s) (left : r.attempts.length < 1 + (s.step r.step).retries) :
    (∃ q, inBand q ∧ q ∉ r.attempts ∧ (s.timeOut i r).slot i = some (r.retried q)
      ∧ (s.FBusy → ∃ t, exec (.replyTimeout i) s = .next t ∧ t.slot i = some (r.retried q)
        ∧ (let u := State.followUp false (s.retried i r q)
          SameRun t u ∧ t.feedA = u.feedA ∧ t.feedB = u.feedB)))
    ∧ ∃ t, exec (.replyTimeout i) s = .next t ∧ Untouched s t
      ∧ ∀ c, t.counter c = if c = .stepRetries then counted (s.counter c) else s.counter c := by
  have exits := replyTimeout_out slot isOpen unwaited out timed
  have timesOut := timeOut_retries slot left
  obtain ⟨q, hq⟩ : ∃ q, q = pickSeq r.attempts 32 s.injectionSeq := ⟨_, rfl⟩
  have fresh : q ∉ r.attempts := hq ▸ pickSeq_fresh band.counter (by have := (band.records i r slot).2.2.2; omega)
  rw [← hq] at timesOut
  obtain ⟨w, hw⟩ : ∃ w, w = s.retried i r q := ⟨_, rfl⟩
  have slotW : w.slot i = some (r.retried q) := hw ▸ retried_slot slot q
  rw [← hw] at timesOut
  obtain ⟨y, flagged⟩ := count_flagging (s := w) .stepRetries
  obtain ⟨x, hx⟩ : ∃ x, x = (w.count .stepRetries).counters := ⟨_, rfl⟩
  rw [← hx] at flagged
  have goes : s.settleFrom (s.timeOut i r) = (State.followUp false w).flagging x y := by
    have moment : s.grantMoment (w.flagging x y) = s.grantMoment w := rfl
    unfold State.settleFrom
    rw [timesOut, flagged, flagging_followUp, moment, hw, grantMoment_retried slot]
  rw [goes] at exits
  refine ⟨⟨q, hq ▸ pickSeq_inBand _ _ band.counter, fresh, ?_, fun busy => ?_⟩, _, exits, ?_, fun c => ?_⟩
  · rw [timesOut, flagged]
    exact slotW
  · have sends : State.FBusy ((State.followUp false w).flagging x y) := by
      show (State.followUp false w).wireF.isSome = true
      rw [followUp_wireF, hw]
      exact busy
    obtain ⟨v, closed, -⟩ := close_upward (s := s) sends
    rw [closed] at exits
    refine ⟨_, exits, (slotsTurn_followUp false w).kept i _ slotW, ?_⟩
    rw [← hw]
    exact ⟨⟨rfl, rfl, rfl, rfl, rfl, rfl⟩, rfl, rfl⟩
  · rw [← goes, timesOut]
    exact (((hw ▸ untouched_retried i r q : Untouched s w).trans (untouched_count _)).trans
      (untouched_of_core (settleFrom_core s _))).trans (untouched_close s _)
  · rw [close_counter]
    have counters : ((State.followUp false w).flagging x y).counter c = (w.count .stepRetries).counter c := by
      show getAt x c.index 0 = getAt (w.count .stepRetries).counters c.index 0
      rw [hx]
    rw [counters, count_counted, hw]
    rfl
end

/-- Settles O41: the next attempt and the follow-up with its count set aside; the failure of the step with its dependents, its halt
and its station's fault; and the slot with nothing to expire. -/
theorem replyTimeoutRetriesOrFails : Obligations.ReplyTimeoutRetriesOrFails := by
  unfold Obligations.ReplyTimeoutRetriesOrFails
  refine ⟨fun s i r band slot isOpen unwaited out timed left => replyTimeout_retries slot isOpen unwaited out timed band left,
    fun s i r busy slot lt isOpen unwaited out timed none => ?fails, fun s i quiet still => ?idle⟩
  case fails =>
    have exits := replyTimeout_out slot isOpen unwaited out timed
    obtain ⟨x, hx⟩ : ∃ x, x = s.expired i r := ⟨_, rfl⟩
    obtain ⟨u, hu⟩ : ∃ u, u = x.failStep r.step .noReply 0 := ⟨_, rfl⟩
    obtain ⟨t, ht⟩ : ∃ t, t = s.settleFrom u := ⟨_, rfl⟩
    rw [timeOut_fails none, ← hx, ← hu, ← ht] at exits
    have xSlot : x.slot i = some (r.expired (s.later (s.step r.step).replyTimeout)) := hx ▸ setSlot_here (slot_lt slot) _
    have xStep : ∀ m, x.step m = s.step m := fun m => hx ▸ rfl
    have xEntry : ∀ m, x.entry m = s.entry m := fun m => hx ▸ rfl
    have xRun : x.run = s.run := hx ▸ rfl
    have xStation : ∀ a, x.station a = s.station a := station_congr (by rw [hx]; rfl)
    have xQueue : ∀ a, x.queue a = s.queue a := queue_congr (by rw [hx]; rfl)
    have core : t.core = s.core := ht ▸ (settleFrom_core s u).trans (hu ▸ (failStep_core _ _ _ _).trans (hx ▸ rfl))
    have follows : Follows u t := ht ▸ follows_settleFrom s u
    have runs : t.run.inProgress = true → t.run = u.run := ht ▸ followUp_runs _
    obtain ⟨v, closed, -⟩ := close_upward (s := s) (t := t) (by
      show t.wireF.isSome = true
      rw [show t.wireF = s.wireF from (congrArg State.wireF core :)]
      exact busy)
    rw [closed] at exits
    obtain ⟨entry, pending⟩ := hu ▸ failStep_failed (s := x) lt .noReply (by decide) 0
    have failed : t.entry r.step = { s.entry r.step with state := .failed, cause := .noReply, nak := 0 } := by
      rw [follows.terminal _ (by rw [entry]; rfl), entry, xEntry]
    have stations : ∀ a, (t.upward v).station a = t.station a := station_congr rfl
    refine ⟨t.upward v, exits, (untouched_of_core core).trans (untouched_upward t v), (congrArg State.counters core :),
      congrArg StepEntry.state failed, congrArg StepEntry.cause failed, (congrArg StepEntry.attempts failed :),
      follows.pending _ pending, ?record, fun used m other usedM waits pred => ?dependent, fun ordinary going => ?ordinary,
      fun essential => ?essential⟩
    case record =>
      have kept : u.slot i = some (r.expired (s.later (s.step r.step).replyTimeout)) :=
        hu ▸ failStep_keepsRecord lt .noReply (by decide) 0 xSlot rfl
      exact ht ▸ (slotsTurn_followUp _ u).kept i _ kept
    case dependent =>
      have skipped := hu ▸ failStep_skips (s := x) lt .noReply (by decide) 0 (m := m) (by rw [xStep]; exact used)
        (by rw [xStep]; exact usedM) (by rw [xStep]; exact pred) other (by rw [xEntry]; exact waits)
      exact (congrArg StepEntry.state (follows.terminal m (by rw [skipped]; rfl))).trans skipped
    case ordinary =>
      have same : u.run = s.run := by
        rw [hu, failStep_ordinary _ _ _ (by decide) (by rw [xStep]; exact ordinary), evaluateAll_run,
          (failing_keeps (s := x) r.step .noReply 0).2.2.1, xRun]
      exact congrArg RunRecord.halting ((runs going).trans same)
    case essential =>
      intro b y
      obtain ⟨w, hw⟩ : ∃ w, w = ((x.failing r.step .noReply 0).halting r.step).faultRequest b .essentialStep := ⟨_, rfl⟩
      have evaluated : u = w.evaluateAll := by
        rw [hu, failStep_essential _ _ _ (by decide) (by rw [xStep]; exact essential), xStep, hw]
      have same : u.run = { s.run with halting := some (s.run.halting.getD r.step) } := by
        rw [evaluated, evaluateAll_run, hw, faultRequest_run, (halting_keeps (s := x) r.step .noReply 0).2.2.2, xRun]
      have fromW : Follows w t := (evaluated ▸ follows_evaluateAll w : Follows w u).trans follows
      have turned : StationsTurn w t :=
        (evaluated ▸ stationsTurn_of_same evaluateAll_stations : StationsTurn w u).trans (ht ▸ stationsTurn_followUp _ u)
      have drains : DrainsOn w t :=
        (evaluated ▸ drainsOn_of_same evaluateAll_stations : DrainsOn w u).trans (ht ▸ drainsOn_followUp _ u)
      obtain ⟨faulted, draining, leaves⟩ := essential_faults (s := x) .noReply 0 hw turned drains fromW
      simp only [xStation, xQueue] at faulted draining leaves
      simp only [xRun, xStep, xEntry] at leaves
      refine ⟨fun running => ?_, fun going => congrArg RunRecord.halting ((runs going).trans same), fun holding empty => ?_,
        fun h => ?_, fun h => ?_⟩
      · have halted : ((x.failing r.step .noReply 0).halting r.step).isPending .halted = true :=
          haltRun_raises (by rw [evaluateAll_run, (failing_keeps (s := x) r.step .noReply 0).2.2.1, xRun]; exact running)
        exact fromW.pending .halted (hw ▸ (follows_faultRequest _ _ _).pending .halted halted)
      · rw [stations]
        exact faulted holding empty
      · rw [stations]
        exact draining h
      · rw [stations]
        exact leaves h
  case idle =>
    have unchanged : s.replyExpires i = s := by
      unfold State.replyExpires
      cases slot : s.slot i with
      | none => rfl
      | some r =>
        refine if_neg fun expires => ?_
        simp only [Bool.and_eq_true, Bool.not_eq_true'] at expires
        obtain ⟨⟨⟨isOpen, unwaited⟩, out⟩, timed⟩ := expires
        rcases still r slot with k | k | k | k
        · rw [isOpen] at k; cases k
        · rw [unwaited] at k; cases k
        · rw [k] at out; cases out
        · rw [k] at timed; cases timed
    show s.concluded (s.replyExpires i) = _
    rw [unchanged]
    exact concluded_quiet s quiet rfl rfl rfl rfl rfl rfl rfl rfl rfl rfl

end Sys2Proof.Machine
end

section
/-! SUPPORT. The pool of retained points (R60, R61): a record put into its place, records rewritten in place, and what of the pool
`PoolKept` reads. -/

namespace Sys2Proof.Machine

variable {s t : State}

/-! ## The order of the pool (R60) -/

theorem before_iff (p q : PointRecord) :
    p.before q = true ↔ p.station < q.station ∨ p.station = q.station ∧ p.channel < q.channel := by
  simp [PointRecord.before]

theorem names_iff (p : PointRecord) (a c : Nat) : p.names a c = true ↔ p.station = a ∧ p.channel = c := by
  simp [PointRecord.names]

theorem before_trans {p q r : PointRecord} (h : p.before q = true) (k : q.before r = true) : p.before r = true := by
  rw [before_iff] at *
  omega

/-- Of two records in order neither names the other's station and channel. -/
theorem before_not_names {p q : PointRecord} (h : p.before q = true) : q.names p.station p.channel = false := by
  rw [before_iff] at h
  rw [Bool.eq_false_iff, ne_eq, names_iff]
  omega

/-- A record that stands neither after another nor at its place stands before it. -/
theorem before_of_not {p r : PointRecord} (after : ¬ r.before p = true) (other : ¬ p.names r.station r.channel = true) :
    p.before r = true := by
  rw [before_iff] at *
  rw [names_iff] at other
  omega

/-- The pool's order: strictly ascending station and channel. -/
def Ordered (l : List PointRecord) : Prop := l.Pairwise (fun p q => p.before q = true)

/-- In order, a record put into the pool takes the place of every record of its station and channel. -/
theorem putPoint_perm (r : PointRecord) {l : List PointRecord} (h : Ordered l) :
    (putPoint r l).Perm (r :: l.filter (fun p => !p.names r.station r.channel)) := by
  induction l with
  | nil => exact .refl _
  | cons p ps ih =>
    obtain ⟨low, rest⟩ := List.pairwise_cons.1 h
    unfold putPoint
    split
    case isTrue first =>
      have all : (p :: ps).filter (fun q => !q.names r.station r.channel) = p :: ps := by
        refine List.filter_eq_self.2 fun q mem => ?_
        have after : r.before q = true := by
          rcases List.mem_cons.1 mem with rfl | mem
          · exact first
          · exact before_trans first (low q mem)
        simp [before_not_names after]
      rw [all]
    case isFalse later =>
      split
      case isTrue here =>
        obtain ⟨station, channel⟩ := (names_iff ..).1 here
        have others : ps.filter (fun q => !q.names r.station r.channel) = ps := by
          refine List.filter_eq_self.2 fun q mem => ?_
          rw [← station, ← channel]
          simp [before_not_names (low q mem)]
        rw [List.filter_cons_of_neg (by simp [here]), others]
      case isFalse other =>
        rw [List.filter_cons_of_pos (by simp [other])]
        exact ((ih rest).cons p).trans (.swap r p _)

theorem mem_putPoint {r q : PointRecord} {l : List PointRecord} (h : Ordered l) (mem : q ∈ putPoint r l) : q = r ∨ q ∈ l :=
  (List.mem_cons.1 ((putPoint_perm r h).mem_iff.1 mem)).imp_right List.mem_of_mem_filter

theorem putPoint_ordered (r : PointRecord) {l : List PointRecord} (h : Ordered l) : Ordered (putPoint r l) := by
  induction l with
  | nil => exact List.pairwise_singleton _ r
  | cons p ps ih =>
    obtain ⟨low, rest⟩ := List.pairwise_cons.1 h
    unfold putPoint
    split
    case isTrue first =>
      refine List.pairwise_cons.2 ⟨fun q mem => ?_, h⟩
      rcases List.mem_cons.1 mem with rfl | mem
      · exact first
      · exact before_trans first (low q mem)
    case isFalse later =>
      split
      case isTrue here =>
        obtain ⟨station, channel⟩ := (names_iff ..).1 here
        refine List.pairwise_cons.2 ⟨fun q mem => ?_, rest⟩
        have after := low q mem
        rw [before_iff] at after ⊢
        rwa [← station, ← channel]
      case isFalse other =>
        refine List.pairwise_cons.2 ⟨fun q mem => ?_, ih rest⟩
        rcases mem_putPoint rest mem with rfl | mem
        · exact before_of_not later other
        · exact low q mem

/-- A record put into the pool adds at most one to those that a test counts. -/
theorem putPoint_countP (r : PointRecord) {l : List PointRecord} (h : Ordered l) (test : PointRecord → Bool) :
    (putPoint r l).countP test ≤ l.countP test + if test r then 1 else 0 := by
  rw [(putPoint_perm r h).countP_eq, List.countP_cons]
  exact Nat.add_le_add_right (List.filter_sublist.countP_le) _

/-- In the place of a record that the test counts, it adds none. -/
theorem putPoint_countP_replaced {r old : PointRecord} {l : List PointRecord} (h : Ordered l) (test : PointRecord → Bool)
    (mem : old ∈ l) (names : old.names r.station r.channel = true) (counted : test old = true) :
    (putPoint r l).countP test ≤ l.countP test := by
  have fewer : (l.filter (fun p => !p.names r.station r.channel)).countP test < l.countP test := by
    rw [List.countP_eq_length_filter, List.countP_eq_length_filter, List.filter_comm]
    exact List.length_filter_lt_length_iff_exists.2 ⟨old, List.mem_filter.2 ⟨mem, counted⟩, by simp [names]⟩
  rw [(putPoint_perm r h).countP_eq, List.countP_cons]
  split <;> omega

/-! ## A record of the pool, and what `PoolKept` reads (R60, R61) -/

/-- A record that the pool may hold. -/
structure RecordKept (p : PointRecord) : Prop where
  ranges : validStation p.station = true ∧ p.channel ≤ 255
  values : p.confirmed.getD 0 ≤ 65535 ∧ ∀ x, p.pending = some x → x.value ≤ 65535
  holds  : p.holds = true
  fixed  : p.pinned = true → p.confirmed.isSome = true ∧ p.pending = none

theorem pinnedCount_eq : s.pinnedCount = s.points.countP PointRecord.pinned := (List.countP_eq_length_filter ..).symm

theorem poolKept_iff : PoolKept s ↔ Ordered s.points ∧ s.points.length ≤ 1024 ∧ s.points.countP PointRecord.pinned ≤ 256
    ∧ ∀ p ∈ s.points, RecordKept p := by
  have counted := pinnedCount_eq (s := s)
  constructor
  · rintro ⟨order, size, pinned, ranges, values, holds, fixed⟩
    exact ⟨order, size, counted ▸ pinned, fun p mem => ⟨ranges p mem, values p mem, holds p mem, fixed p mem⟩⟩
  · rintro ⟨order, size, pinned, records⟩
    exact ⟨order, size, counted ▸ pinned, fun p mem => (records p mem).ranges, fun p mem => (records p mem).values,
      fun p mem => (records p mem).holds, fun p mem => (records p mem).fixed⟩

theorem kept_of_points (same : t.points = s.points) (h : PoolKept s) : PoolKept t := by
  rw [poolKept_iff] at h ⊢
  rwa [same]

theorem kept_ite {c : Prop} [Decidable c] (h : PoolKept s) (k : PoolKept t) : PoolKept (if c then s else t) := by
  split
  · exact h
  · exact k

/-! ## One record written (R62, R74) -/

/-- A record written: with room for a new one (R62), and with a pin for one more that is pinned (R74). -/
theorem kept_writePoint {r : PointRecord} (record : RecordKept r)
    (room : s.findPoint r.station r.channel = none → s.points.length < 1024)
    (pin : r.pinned = true → (∀ p, s.findPoint r.station r.channel = some p → p.pinned = false) → s.pinnedCount < 256)
    (h : PoolKept s) : PoolKept (s.writePoint r) := by
  obtain ⟨order, size, pinned, records⟩ := poolKept_iff.1 h
  have old : ∀ {p}, s.findPoint r.station r.channel = some p → p ∈ s.points ∧ p.names r.station r.channel = true := fun found =>
    ⟨List.mem_of_find?_eq_some found, findPoint_names found⟩
  refine poolKept_iff.2 ⟨putPoint_ordered r order, ?length, ?pins, fun q mem => ?record⟩
  case length =>
    show (putPoint r s.points).length ≤ 1024
    cases found : s.findPoint r.station r.channel with
    | none =>
      have grown := putPoint_countP r order (fun _ => true)
      have := room found
      simp only [List.countP_true, if_pos] at grown
      omega
    | some p =>
      have replaced := putPoint_countP_replaced order (fun _ => true) (old found).1 (old found).2 rfl
      rw [List.countP_true] at replaced
      exact replaced.trans size
  case pins =>
    show (putPoint r s.points).countP PointRecord.pinned ≤ 256
    have grown := putPoint_countP r order PointRecord.pinned
    by_cases replaces : ∃ p, s.findPoint r.station r.channel = some p ∧ p.pinned = true
    · obtain ⟨p, found, counted⟩ := replaces
      exact (putPoint_countP_replaced order _ (old found).1 (old found).2 counted).trans pinned
    · cases fixed : r.pinned with
      | false =>
        rw [fixed] at grown
        exact grown.trans pinned
      | true =>
        have := pin fixed fun p found => Bool.eq_false_iff.2 fun k => replaces ⟨p, found, k⟩
        rw [pinnedCount_eq] at this
        rw [if_pos fixed] at grown
        omega
  case record =>
    rcases mem_putPoint order mem with rfl | mem
    · exact record
    · exact records q mem

/-! ## Records rewritten or removed in place (R66, R67, R75, R76) -/

/-- Records that are removed or keep their place and gain no pin. -/
theorem kept_filterMap (g : PointRecord → Option PointRecord) (points : t.points = s.points.filterMap g)
    (rewritten : ∀ p ∈ s.points, RecordKept p → ∀ q, g p = some q →
      q.station = p.station ∧ q.channel = p.channel ∧ q.pinned = p.pinned ∧ RecordKept q)
    (h : PoolKept s) : PoolKept t := by
  obtain ⟨order, size, pinned, records⟩ := poolKept_iff.1 h
  have place : ∀ p ∈ s.points, ∀ q, g p = some q →
      q.station = p.station ∧ q.channel = p.channel ∧ q.pinned = p.pinned ∧ RecordKept q :=
    fun p mem => rewritten p mem (records p mem)
  rw [poolKept_iff, points]
  refine ⟨?order, (List.length_filterMap_le ..).trans size, ?pins, fun q mem => ?record⟩
  case order =>
    refine List.pairwise_filterMap.2 (order.imp_of_mem fun {p q} memP memQ before p' hp q' hq => ?_)
    obtain ⟨stationP, channelP, -⟩ := place p memP p' hp
    obtain ⟨stationQ, channelQ, -⟩ := place q memQ q' hq
    rwa [before_iff, stationP, channelP, stationQ, channelQ, ← before_iff]
  case pins =>
    rw [List.countP_filterMap]
    refine le_trans (List.countP_mono_left fun p mem counted => ?_) pinned
    cases rewrites : g p with
    | none => simp [rewrites] at counted
    | some q =>
      have fixed : q.pinned = true := by simpa [rewrites] using counted
      exact (place p mem q rewrites).2.2.1 ▸ fixed
  case record =>
    obtain ⟨p, memP, rewrites⟩ := List.mem_filterMap.1 mem
    exact (place p memP q rewrites).2.2.2

end Sys2Proof.Machine
end

section
/-! SUPPORT. What the operations of the Retained Point Store do to the pool (R64 to R67, R74 to R76): each keeps it. -/

namespace Sys2Proof.Machine

variable {s t : State}

/-! ## Confirmation, removal and the warm reset (R61, R66, R67, R76) -/

theorem confirmPoints_points (a : Nat) (seq : Byte) :
    (s.confirmPoints a seq).points = s.points.filterMap (fun p => some (p.confirm a seq)) := by
  rw [List.filterMap_eq_map']
  rfl

theorem refusePoints_points (a : Nat) (seq : Byte) : (s.refusePoints a seq).points =
    s.points.filterMap (fun p => if p.emptied a seq then none else some (p.refuse a seq)) := by
  show (s.points.filter _).map _ = _
  rw [← List.filterMap_eq_map', List.filterMap_filter]
  refine List.filterMap_congr fun p _ => ?_
  cases p.emptied a seq <;> rfl

theorem clearPendingParts_points : s.clearPendingParts.points =
    s.points.filterMap (fun p => if p.confirmed.isSome then some { p with pending := none } else none) := by
  show (s.points.map _).filter _ = _
  rw [List.filter_map, ← List.filterMap_eq_map', List.filterMap_filter]
  refine List.filterMap_congr fun p _ => ?_
  simp [PointRecord.holds]

/-- Without its pending part a record that holds a confirmed value stays one that the pool may hold. -/
theorem RecordKept.cleared {p : PointRecord} (h : RecordKept p) (confirmed : p.confirmed.isSome = true) :
    RecordKept { p with pending := none } :=
  ⟨h.ranges, ⟨h.values.1, fun _ k => nomatch k⟩, by simp [PointRecord.holds, confirmed], fun _ => ⟨confirmed, rfl⟩⟩

theorem carries_iff (p : PointRecord) (seq : Byte) : p.carries seq = true ↔ p.pending.map PendingPart.seq = some seq := by
  unfold PointRecord.carries
  cases p.pending <;> simp

theorem RecordKept.confirm {p : PointRecord} (h : RecordKept p) (a : Nat) (seq : Byte) : RecordKept (p.confirm a seq) := by
  unfold PointRecord.confirm
  split
  · next taken =>
    obtain ⟨x, pending, -⟩ := Option.map_eq_some_iff.1 ((carries_iff p seq).1 (Bool.and_eq_true_iff.1 taken).2)
    have value : x.value ≤ 65535 := h.values.2 x pending
    have unpinned : ¬ p.pinned = true := fun k => by
      have := (h.fixed k).2
      rw [pending] at this
      cases this
    rw [pending]
    exact ⟨h.ranges, ⟨value, fun _ k => nomatch k⟩, rfl, fun k => absurd k unpinned⟩
  · exact h

theorem RecordKept.refuse {p : PointRecord} (h : RecordKept p) {a : Nat} {seq : Byte} (left : p.emptied a seq = false) :
    RecordKept (p.refuse a seq) := by
  unfold PointRecord.refuse
  split
  · next taken =>
    refine h.cleared ?_
    rw [PointRecord.emptied, taken, Bool.true_and] at left
    cases confirmed : p.confirmed with
    | none => simp [confirmed] at left
    | some v => rfl
  · exact h

theorem kept_confirmPoints (a : Nat) (seq : Byte) (h : PoolKept s) : PoolKept (s.confirmPoints a seq) := by
  refine kept_filterMap _ (confirmPoints_points a seq) (fun p _ kept q rewrites => ?_) h
  obtain rfl := Option.some.inj rewrites
  refine ⟨?_, ?_, ?_, kept.confirm a seq⟩
  all_goals
    unfold PointRecord.confirm
    split <;> rfl

theorem kept_refusePoints (a : Nat) (seq : Byte) (h : PoolKept s) : PoolKept (s.refusePoints a seq) := by
  refine kept_filterMap _ (refusePoints_points a seq) (fun p _ kept q rewrites => ?_) h
  cases left : p.emptied a seq with
  | true => simp [left] at rewrites
  | false =>
    rw [left] at rewrites
    obtain rfl := Option.some.inj rewrites
    refine ⟨?_, ?_, ?_, kept.refuse left⟩
    all_goals
      unfold PointRecord.refuse
      split <;> rfl

theorem kept_clearPendingParts (h : PoolKept s) : PoolKept s.clearPendingParts := by
  refine kept_filterMap _ clearPendingParts_points (fun p _ kept q rewrites => ?_) h
  cases confirmed : p.confirmed.isSome with
  | false => simp [confirmed] at rewrites
  | true =>
    rw [confirmed] at rewrites
    obtain rfl := Option.some.inj rewrites
    exact ⟨rfl, rfl, rfl, kept.cleared confirmed⟩

theorem kept_dropPoint (a c : Nat) (h : PoolKept s) : PoolKept (s.dropPoint a c) := by
  have points : (s.dropPoint a c).points = s.points.filterMap (Option.guard (fun p => !p.names a c)) :=
    (List.filterMap_eq_filter ..).symm ▸ rfl
  refine kept_filterMap _ points (fun p _ kept q rewrites => ?_) h
  obtain ⟨rfl, -⟩ := Option.guard_eq_some_iff.1 rewrites
  exact ⟨rfl, rfl, rfl, kept⟩

/-- An empty pool, as the power-on and the cold reset leave it. -/
theorem kept_empty (none : s.points = []) : PoolKept s :=
  poolKept_iff.2 (by simp [none, Ordered])

theorem kept_warmReset (h : PoolKept s) : PoolKept s.warmReset :=
  kept_of_points (s := s.clearPendingParts) rfl (kept_clearPendingParts h)

theorem kept_takeReset (h : PoolKept s) : PoolKept s.takeReset := by
  unfold State.takeReset
  split
  · exact kept_warmReset h
  · exact kept_empty rfl
  · exact h

/-! ## Snooping (R63 to R65) -/

theorem word_le (hi lo : Byte) : word hi lo ≤ 65535 := by
  have := hi.isLt
  have := lo.isLt
  unfold word
  omega

theorem rawPoints_bounds {payload : List Byte} {ps : List (Nat × Nat)} (h : rawPoints payload = some ps) :
    ∀ p ∈ ps, p.1 ≤ 255 ∧ p.2 ≤ 65535 := by
  fun_induction rawPoints payload generalizing ps with
  | case1 => simp_all
  | case2 c hi lo rest ih =>
    obtain ⟨qs, read, rfl⟩ := Option.map_eq_some_iff.1 h
    intro p mem
    rcases List.mem_cons.1 mem with rfl | mem
    · have := c.isLt
      exact ⟨by dsimp only; omega, word_le hi lo⟩
    · exact ih read p mem
  | case3 => cases h

/-- The points that a reader takes have a channel of one byte and a value of two (R9). -/
theorem readPoints_bounds (payload : List Byte) : ∀ p ∈ readPoints payload, p.1 ≤ 255 ∧ p.2 ≤ 65535 := by
  unfold readPoints
  split
  · next ps read =>
    refine foldl_kept (fun l : List (Nat × Nat) => ∀ p ∈ l, p.1 ≤ 255 ∧ p.2 ≤ 65535) _ ps (fun l q here bounds p mem => ?_) [] ?_
    · rcases mem_insertPoint mem with rfl | mem
      · exact rawPoints_bounds read p here
      · exact bounds p mem
    · simp
  · simp

/-- A pending part given to a record that is not pinned (R64). -/
theorem RecordKept.take {r : PointRecord} (h : RecordKept r) (unpinned : r.pinned = false) {v : Nat} (value : v ≤ 65535) (seq : Byte) :
    RecordKept (r.take v seq) :=
  ⟨h.ranges, ⟨h.values.1, fun x k => by cases k; exact value⟩, by simp [PointRecord.holds, PointRecord.take],
    fun k => absurd (unpinned.symm.trans k) Bool.false_ne_true⟩

theorem recordKept_learning {a c v : Nat} (valid : validStation a = true) (channel : c ≤ 255) (value : v ≤ 65535) (seq : Byte) :
    RecordKept (learningRecord a c v seq) :=
  ⟨⟨valid, channel⟩, ⟨Nat.zero_le _, fun x k => by cases k; exact value⟩, rfl, fun k => nomatch k⟩

theorem kept_snoopPoint {a c v : Nat} (valid : validStation a = true) (channel : c ≤ 255) (value : v ≤ 65535) (seq : Byte)
    (h : PoolKept s) : PoolKept (s.snoopPoint a seq (c, v)) := by
  obtain ⟨-, -, -, records⟩ := poolKept_iff.1 h
  cases found : s.findPoint a c with
  | none =>
    cases room : s.pointRoom a with
    | true =>
      rw [snoopPoint_learns a c v seq found room]
      exact kept_writePoint (recordKept_learning valid channel value seq) (fun _ => ((pointRoom_iff a).1 room).2)
        (fun k => nomatch k) h
    | false =>
      rw [snoopPoint_misses a c v seq found room, count_eq]
      exact kept_of_points (s := s) rfl h
  | some r =>
    cases pinned : r.pinned with
    | true => rwa [snoopPoint_pinned a c v seq found pinned]
    | false =>
      rw [snoopPoint_unpinned a c v seq found pinned]
      obtain ⟨rfl, rfl⟩ := (names_iff ..).1 (findPoint_names found)
      refine kept_writePoint ((records r (List.mem_of_find?_eq_some found)).take pinned value seq) (fun absent => ?_)
        (fun k => absurd (pinned.symm.trans k) Bool.false_ne_true) h
      cases found.symm.trans absent

theorem kept_snoop {f : Frame} (valid : validStation f.station = true) (h : PoolKept s) : PoolKept (s.snoop f) :=
  kept_ite (foldl_kept PoolKept _ _ (fun _ p mem k =>
    kept_snoopPoint valid (readPoints_bounds _ p mem).1 (readPoints_bounds _ p mem).2 f.seq k) s h) h

/-! ## POINT-PUT (R74) -/

theorem kept_reqPointPut (args : List Byte) (h : PoolKept s) : PoolKept (s.reqPointPut args).state := by
  match args with
  | [a, c, hi, lo, pin] =>
    cases read : readFlag pin with
    | none => rwa [reqPointPut_unread ((readFlag_none pin).1 read)]
    | some pinned =>
      cases valid : validStation a.toNat with
      | false => rwa [reqPointPut_invalid read valid]
      | true =>
        cases storing : s.storing with
        | some image => rwa [reqPointPut_storing read valid (by rw [storing]; rfl)]
        | none =>
          by_cases full : s.pointFull a.toNat c.toNat pinned
          · rwa [reqPointPut_full read valid storing full]
          · rw [reqPointPut_writes read valid storing full]
            have channel := c.isLt
            refine kept_writePoint (s := s) ⟨⟨valid, by dsimp only; omega⟩, ⟨word_le hi lo, fun _ k => nomatch k⟩, rfl,
              fun _ => ⟨rfl, rfl⟩⟩ (fun absent => ?_) (fun fixed others => ?_) h
            · by_contra many
              exact full (.inl ⟨absent, fun k => many k.2⟩)
            · by_contra many
              exact full (.inr ⟨fixed, others, Nat.not_lt.1 many⟩)
  | [] | [_] | [_, _] | [_, _, _] | [_, _, _, _] | _ :: _ :: _ :: _ :: _ :: _ :: _ => exact h

/-! ## The end of a load (R76, R198) -/

section
variable {α : Type} {size n : Nat} {read : List Byte → Option α} {bs : List Byte} {rs : List α}

/-- A section of records holds as many as are read, each of them read from its bytes. -/
theorem readRecords_some (h : readRecords size read n bs = some rs) : rs.length = n ∧ ∀ r ∈ rs, ∃ l, read l = some r := by
  induction n generalizing bs rs with
  | zero =>
    obtain rfl := Option.some.inj h
    simp
  | succ n ih =>
    rw [readRecords] at h
    split at h
    · next r rs' first rest =>
      obtain rfl := Option.some.inj h
      obtain ⟨length, each⟩ := ih rest
      refine ⟨by rw [List.length_cons, length], fun q mem => ?_⟩
      rcases List.mem_cons.1 mem with rfl | mem
      · exact ⟨_, first⟩
      · exact each q mem
    · cases h
end

theorem readPointEntry_bounds {l : List Byte} {q : Nat × Nat × Nat} (h : readPointEntry l = some q) :
    q.2.1 ≤ 255 ∧ q.2.2 ≤ 65535 := by
  unfold readPointEntry at h
  split at h
  · next a c hi lo =>
    obtain rfl := Option.some.inj h
    have := c.isLt
    exact ⟨by dsimp only; omega, word_le hi lo⟩
  · cases h

theorem readImageRecords_points {m : List Byte} {x : LoadedImage} (h : readImageRecords m = some x) :
    readRecords 4 readPointEntry (imagePoints m) (m.drop 6669) = some x.points := by
  unfold readImageRecords at h
  simp only [Option.bind_eq_bind, Option.bind_eq_some_iff] at h
  obtain ⟨_, -, _, -, _, -, _, -, _, -, _, -, points, read, h⟩ := h
  split at h
  · cases h
  · obtain rfl := Option.some.inj h
    exact read

/-- The points of an image that loads: at most 256, each with a channel of one byte and a value of two (R198). -/
theorem readImage_points {m : List Byte} {x : LoadedImage} (h : readImage m = some x) :
    x.points.length ≤ 256 ∧ ∀ q ∈ x.points, q.2.1 ≤ 255 ∧ q.2.2 ≤ 65535 := by
  unfold readImage at h
  split at h
  · cases h
  · split at h
    · cases h
    · next few =>
      split at h
      · cases h
      · obtain ⟨length, each⟩ := readRecords_some (readImageRecords_points h)
        refine ⟨length ▸ Nat.not_lt.1 few, fun q mem => ?_⟩
        obtain ⟨l, entry⟩ := each q mem
        exact readPointEntry_bounds entry

/-- The record of a pinned point of an image (R76). -/
def imagePoint (q : Nat × Nat × Nat) : PointRecord :=
  { station := q.1, channel := q.2.1, confirmed := some q.2.2, pending := none, pinned := true }

/-- Points of an image put into a pool one after another (R76). -/
def putPoints (l : List (Nat × Nat × Nat)) (pool : List PointRecord) : List PointRecord :=
  l.foldl (fun pool q => putPoint (imagePoint q) pool) pool

theorem loadPoints_eq (l : List (Nat × Nat × Nat)) : loadPoints l = putPoints (l.filter (fun q => validStation q.1)) [] := rfl

theorem recordKept_imagePoint {q : Nat × Nat × Nat} (valid : validStation q.1 = true) (bounds : q.2.1 ≤ 255 ∧ q.2.2 ≤ 65535) :
    RecordKept (imagePoint q) :=
  ⟨⟨valid, bounds.1⟩, ⟨bounds.2, fun _ k => nomatch k⟩, rfl, fun _ => ⟨rfl, rfl⟩⟩

/-- Records put into a pool one after another keep its order and add one at most each. -/
theorem putPoints_kept (l : List (Nat × Nat × Nat)) (each : ∀ q ∈ l, RecordKept (imagePoint q)) {pool : List PointRecord}
    (order : Ordered pool) (records : ∀ p ∈ pool, RecordKept p) :
    Ordered (putPoints l pool) ∧ (∀ p ∈ putPoints l pool, RecordKept p) ∧ (putPoints l pool).length ≤ pool.length + l.length := by
  induction l generalizing pool with
  | nil => exact ⟨order, records, le_refl _⟩
  | cons q l ih =>
    obtain ⟨ordered, kept, length⟩ := ih (fun r mem => each r (List.mem_cons_of_mem _ mem)) (putPoint_ordered (imagePoint q) order)
      fun p mem => (mem_putPoint order mem).elim (fun k => k ▸ each q (List.mem_cons_self ..)) (records p)
    have grown := putPoint_countP (imagePoint q) order (fun _ => true)
    simp only [List.countP_true, if_pos] at grown
    refine ⟨ordered, kept, length.trans ?_⟩
    rw [List.length_cons]
    omega

/-- A pool of an image's points, every one of them pinned (R76). -/
theorem kept_loadPoints {l : List (Nat × Nat × Nat)} (points : s.points = loadPoints l) (few : l.length ≤ 256)
    (bounds : ∀ q ∈ l, q.2.1 ≤ 255 ∧ q.2.2 ≤ 65535) : PoolKept s := by
  have each : ∀ q ∈ l.filter (fun q => validStation q.1), RecordKept (imagePoint q) := fun q mem => by
    obtain ⟨mem, valid⟩ := List.mem_filter.1 mem
    exact recordKept_imagePoint valid (bounds q mem)
  obtain ⟨order, records, length⟩ := putPoints_kept _ each List.Pairwise.nil (by simp)
  have taken := List.length_filter_le (fun q : Nat × Nat × Nat => validStation q.1) l
  rw [List.length_nil, Nat.zero_add] at length
  rw [poolKept_iff, points, loadPoints_eq]
  exact ⟨order, by omega, List.countP_le_length.trans (by omega), records⟩

theorem kept_loadEnd (answers : Bool) (h : PoolKept s) : PoolKept (s.loadEnd answers) := by
  cases loads : s.loading with
  | false => rwa [loadEnd_idle answers loads]
  | true =>
    by_cases fails : answers = false ∨ readImage s.configMemory = none
    · rw [loadEnd_fails loads fails]
      exact kept_empty rfl
    · obtain ⟨answered, read⟩ := not_or.1 fails
      obtain ⟨m, read⟩ := Option.ne_none_iff_exists'.1 read
      obtain rfl := (Bool.not_eq_false _).mp answered
      rw [loadEnd_takes loads read]
      exact kept_loadPoints rfl (readImage_points read).1 (readImage_points read).2

end Sys2Proof.Machine
end

section
/-! SUPPORT. The operations that leave the pool of retained points as it stands: all but those of the Retained Point Store, the resets
and the load. -/

namespace Sys2Proof.Machine

variable {s t : State}

theorem points_of_core (h : t.core = s.core) : t.points = s.points := (congrArg State.points h :)

theorem points_ite {c : Prop} [Decidable c] {l : List PointRecord} (h : s.points = l) (k : t.points = l) :
    (if c then s else t).points = l := by
  split
  · exact h
  · exact k

/-! ## Counters, replies and the FIFOs -/

section
variable (a n i : Nat) (f : Frame)

@[simp] theorem count_points (c : Counter) : (s.count c).points = s.points := by rw [count_eq]
@[simp] theorem placeReply_points (r : Reply) : (s.placeReply r).points = s.points := by rw [placeReply_holds]; rfl
@[simp] theorem receiveError_points (p : Port) (e : ReceiveError) : (s.receiveError p e).points = s.points := by
  rw [receiveError_eq]
@[simp] theorem setAssembly_points (p : Port) (x : Assembly) : (s.setAssembly p x).points = s.points := setPort_points ..
@[simp] theorem passUpFrame_points : (s.passUpFrame f).points = s.points := by rw [passUpFrame_shape]
@[simp] theorem passDownFrame_points : (s.passDownFrame f).points = s.points := by rw [(passDownFrame_holds f).1]; rfl
@[simp] theorem addCause_points (g : Causes → Causes) : (s.addCause g).points = s.points := points_ite (points_ite rfl rfl) rfl
@[simp] theorem setFeedRecord_points (x : Feed) (r : FeedRecord) : (s.setFeedRecord x r).points = s.points := by cases x <;> rfl
@[simp] theorem fArbiter_points : s.fArbiter.points = s.points := (congrArg State.points (fArbiter_downBase s) :)
@[simp] theorem testNotice_points (b : Bool) : (s.testNotice b).points = s.points := (congrArg State.points (testNotice_base s b) :)

/-! ## The stations, the hold queues and the start of a run -/

@[simp] theorem updateStation_points (g : StationRecord → StationRecord) : (s.updateStation a g).points = s.points := by
  cases a <;> rfl
@[simp] theorem holdEntry_points : (State.holdEntry a s f).points = s.points := by
  rw [points_of_core (holdEntry_core a f), entered_holds]; rfl
@[simp] theorem handOver_points : (s.handOver a).points = s.points :=
  foldl_keeps State.points _ (fun _ f => holdEntry_points a f) _ _
@[simp] theorem enterHeld_points (k : Restart) : (s.enterHeld a k).points = s.points := by
  rw [State.enterHeld, points_of_core (joinRun_core a k), handOver_points, updateStation_points]
@[simp] theorem started_points : s.started.points = s.points := untouched_started.points

/-! ## Absorbed frames and the deadlines of records (R130 to R136) -/

@[simp] theorem absorb_points : (s.absorb i f).points = s.points := by
  cases slot : s.slot i with
  | none =>
    unfold State.absorb
    rw [slot]
  | some r =>
    by_cases waits : r.closing = true ∨ r.repollWait = true
    · rw [absorb_waits slot waits]
      split
      · rw [points_of_core (closeRecord_core ..), count_points]
      · exact count_points _
    · obtain ⟨k, core⟩ := absorb_core (f := f) slot waits
      exact (congrArg State.points core :)

@[simp] theorem timeOut_points (r : InjectionRecord) : (s.timeOut i r).points = s.points := by
  refine points_ite ?_ ((points_of_core (failStep_core ..)).trans rfl)
  rw [count_points, points_of_core (makeAttempt_core ..), setSlot_points]

@[simp] theorem injectionLeft_points : (s.injectionLeft f).points = s.points := by
  unfold State.injectionLeft
  repeat' split
  all_goals rfl

/-- The absorption or the passage of a station frame leaves the pool. -/
@[simp] theorem classifyUp_points (m : Option Nat) : (s.classifyUp f m).points = s.points := by
  cases m with
  | none => exact passUpFrame_points f
  | some i => exact (settleFrom_points ..).trans (absorb_points i f)

theorem helloTap_points (valid : validStation a = true) (payload : List Byte) : (s.helloTap a payload).points = s.points :=
  helloTap_keeps valid payload State.points (fun _ _ carries => carries.left.points) fun _ _ _ _ => rfl

/-! ## Arrivals at the S-port but the REQUEST's -/

@[simp] theorem alertArrival_points : (s.alertArrival f).points = s.points := by
  have overridden : ∀ l : List Nat,
      (l.foldl (fun s a => s.settleFrom (s.overrideStation a)) (s.placeAlert f)).points = s.points := fun l =>
    (foldl_keeps State.points _ (fun s a => (overrides_alertTurn (s := s) a).left.points) l _).trans
      (untouched_placeAlert f).points
  exact points_ite (overridden _) ((addCause_points _).trans (overridden _))

@[simp] theorem holdArrival_points : (s.holdArrival f).points = s.points :=
  points_ite (holdEntry_points ..) ((settleFrom_points ..).trans (holdEntry_points ..))

/-! ## The feeds and the slices (R151 to R160) -/

@[simp] theorem takeReading_points (x : Feed) (v : Nat) : (s.takeReading x v).points = s.points :=
  points_ite (setFeedRecord_points ..) (setFeedRecord_points ..)

theorem foldContributions_points : s.foldContributions.points = s.points := by
  have folded : ∀ (t : State) c, (t.fold c).points = t.points := fun t c =>
    points_ite (setFeedRecord_points ..) (setFeedRecord_points ..)
  exact foldl_keeps State.points _ folded _ _

theorem testStale_points (x : Feed) : (s.testStale x).points = s.points := points_ite (setFeedRecord_points ..) rfl

theorem countWait_points (x : Feed) : (s.countWait x n).points = s.points := by
  have counted : ∀ r, ((s.markWait x).setFeedRecord x r).points = s.points := fun r =>
    (setFeedRecord_points ..).trans (points_of_core (markWait_core s x))
  refine points_ite (points_ite ?_ (counted _)) rfl
  rw [settle_points, points_of_core (failStep_core ..), counted]

theorem countWaits_points : s.countWaits.points = s.points := by
  unfold State.countWaits
  split
  · exact points_ite ((countWait_points ..).trans (countWait_points ..)) ((countWait_points ..).trans (countWait_points ..))
  · exact countWait_points ..
  · exact countWait_points ..
  · rfl

/-! ## The lines -/

theorem takeMarker_points (p : Port) (v : Byte) : (s.takeMarker p v).points = s.points := by
  unfold State.takeMarker
  dsimp only
  repeat' split
  all_goals simp

theorem gapTimeout_points (p : Port) : (s.gapTimeout p).points = s.points := by
  unfold State.gapTimeout
  split <;> simp

theorem takeBreak_points (p : Port) : (s.takeBreak p).points = s.points :=
  points_ite rfl (points_ite (setPort_points ..) (setPort_points ..))

theorem endBreak_points (p : Port) : (s.endBreak p).points = s.points := points_ite (setPort_points ..) rfl

theorem quietExpires_points (p : Port) : (s.quietExpires p).points = s.points :=
  points_ite (points_ite (setPort_points ..) (setPort_points ..)) rfl

/-! ## The timers and the memory -/

theorem replyExpires_points : (s.replyExpires i).points = s.points := by
  unfold State.replyExpires
  split
  · exact points_ite ((settleFrom_points ..).trans (timeOut_points ..)) rfl
  · rfl

theorem closingExpires_points : (s.closingExpires i).points = s.points := by
  unfold State.closingExpires
  split
  · exact points_ite ((settle_points _).trans (points_of_core (closeRecord_core ..))) rfl
  · rfl

theorem repollExpires_points : (s.repollExpires i).points = s.points := by
  have polled : ∀ t : State, (t.makePoll i).points = t.points := fun t => by
    unfold State.makePoll
    split <;> rfl
  unfold State.repollExpires
  split
  · exact points_ite (polled _) rfl
  · rfl

theorem settleExpires_points : (s.settleExpires n).points = s.points :=
  points_ite ((settleFrom_points ..).trans (points_of_core (setEntry_core ..))) rfl

theorem sliceExpires_points : s.sliceExpires.points = s.points :=
  (settle_points _).trans (countWaits_points.trans
    ((testStale_points _).trans ((testStale_points _).trans (foldContributions_points.trans rfl))))

theorem silenceExpires_points : s.silenceExpires.points = s.points := by
  refine points_ite ?_ rfl
  dsimp only
  split
  · exact addCause_points _
  · rfl

theorem secondExpires_points : s.secondExpires.points = s.points := points_ite rfl rfl

theorem spacingExpires_points : s.spacingExpires.points = s.points := points_ite (points_ite rfl rfl) rfl

theorem storeEnds_points (agrees : Bool) : (s.storeEnds agrees).points = s.points := by
  unfold State.storeEnds
  split
  · rfl
  · exact points_ite rfl rfl
end

/-! ## The requests but POINT-PUT and POINT-DROP -/

section
variable (args : List Byte)

theorem reqPut_points : (s.reqPut args).state.points = s.points := by
  have stations : (s.putStations args).state.points = s.points := by
    have written : ∀ g, (s.updateStation s.cursor.index g).points = s.points := updateStation_points _
    unfold State.putStations
    split
    · rfl
    · dsimp only
      repeat' split
      exacts [rfl, rfl, written fun r => _]
  have plan : (s.putPlan args).state.points = s.points := by
    have written : ∀ (t : State) e, (t.setEntry s.cursor.index e).points = t.points := fun t e =>
      points_of_core (setEntry_core ..)
    unfold State.putPlan
    split
    · rfl
    · dsimp only
      repeat' split
      exacts [rfl, rfl, rfl, written _ _]
  have payload : (s.putPayload args).state.points = s.points := by
    unfold State.putPayload
    repeat' split
    all_goals rfl
  have settings : (s.putSettings args).state.points = s.points := by
    unfold State.putSettings
    repeat' split
    all_goals rfl
  unfold State.reqPut
  split
  exacts [stations, plan, payload, settings, rfl, rfl, rfl]

/-- The requests of the stations. -/
theorem reqStation_points : (s.reqHold args).state.points = s.points ∧ (s.reqRelease args).state.points = s.points
    ∧ (s.reqClear args).state.points = s.points := by
  have released : ∀ a, ((s.leaveRun a false).enterDraining a).points = s.points := fun a => points_of_core (released_core a)
  unfold State.reqHold State.reqRelease State.reqClear
  refine ⟨?_, ?_, ?_⟩ <;> repeat' split
  all_goals simp [State.answer, State.refuseFor, State.answerDone, released]

/-- The requests of the run. -/
theorem reqRun_points : (s.reqStart args).state.points = s.points ∧ (s.reqSuspend args).state.points = s.points
    ∧ (s.reqResume args).state.points = s.points ∧ (s.reqAbort args).state.points = s.points := by
  have held : ∀ l, (s.holdList l).points = s.points := fun l =>
    foldl_keeps State.points _ (fun _ _ => points_ite (enterHeld_points ..) rfl) l s
  refine ⟨?start, ?suspend, ?resume, ?abort⟩
  case start =>
    unfold State.reqStart
    repeat' split
    all_goals first
      | rfl
      | exact (settle_points _).trans (started_points.trans (held _))
  case suspend =>
    unfold State.reqSuspend
    split
    · exact addCause_points _
    · rfl
  case resume =>
    unfold State.reqResume
    repeat' split
    all_goals first
      | rfl
      | exact settle_points _
  case abort =>
    unfold State.reqAbort
    split
    · exact points_ite (points_of_core (abortRun_core s)) rfl
    · rfl

/-- The requests that neither write the pool nor are followed by the Run Engine, and SET-FEED. -/
theorem reqOther_points : (s.reqSelect args).state.points = s.points ∧ (s.reqGet args).state.points = s.points
    ∧ (s.reqPointGet args).state.points = s.points ∧ (s.reqPointList args).state.points = s.points
    ∧ (s.reqRunStatus args).state.points = s.points ∧ (s.reqSetFeed args).state.points = s.points
    ∧ (s.reqReadLine args).state.points = s.points ∧ (s.reqReadClear args).state.points = s.points
    ∧ (s.reqReadCounters args).state.points = s.points ∧ (s.reqStore args).state.points = s.points
    ∧ ∀ k, (s.reqReset k args).state.points = s.points := by
  unfold State.reqSelect State.reqGet State.reqPointGet State.reqPointList State.reqRunStatus State.reqSetFeed State.reqReadLine
    State.reqReadClear State.reqReadCounters State.reqStore State.reqReset
  refine ⟨?_, ?_, ?_, ?_, ?_, ?_, ?_, ?_, ?_, ?_, fun k => ?_⟩ <;> repeat' split
  all_goals first
    | rfl
    | exact (settle_points _).trans (setFeedRecord_points ..)
end

end Sys2Proof.Machine
end

section
/-! SUPPORT. The pool of retained points under every command: what keeps it, and the statements about an ACK, a NAK and every step. -/

namespace Sys2Proof.Machine

variable {s t : State}

/-! ## ACK and NAK (R66, R67) -/

theorem upTaps_ack {f : Frame} (ack : f.kind = kindAck) : (s.upTaps f).points = (s.confirmPoints f.station f.seq).points := by
  unfold State.upTaps
  rw [if_pos ack]

theorem upTaps_nak {f : Frame} (nak : f.kind = kindNak) : (s.upTaps f).points = (s.refusePoints f.station f.seq).points := by
  unfold State.upTaps
  rw [if_neg (by rw [nak]; decide), if_pos nak]

/-- The pool after the arrival of a station frame other than a HELLO: as its tap leaves it, whatever absorbs, passes or drops it. -/
theorem fArrival_points {f : Frame} (valid : validStation f.station = true) (other : f.kind ≠ kindHello) :
    (s.fArrival f).points = (s.upTaps f).points := by
  unfold State.fArrival
  rw [if_neg (by simp [valid]), if_neg other]
  exact classifyUp_points ..

/-- The pool after the command of such a frame. -/
theorem fFrameArrival_points {f : Frame} (valid : validStation f.station = true) (other : f.kind ≠ kindHello) :
    (s.close (s.arrive .f f)).points = ((s.endFrame .f).upTaps f).points :=
  (close_points ..).trans (fArrival_points valid other)

theorem confirm_eq (p : PointRecord) (a : Nat) (seq : Byte) : p.confirm a seq =
    if p.station = a ∧ p.pending.map PendingPart.seq = some seq then
      { p with confirmed := p.pending.map PendingPart.value, pending := none } else p := by
  unfold PointRecord.confirm
  exact if_congr (by simp [carries_iff]) rfl rfl

theorem emptied_or_refuse (p : PointRecord) (a : Nat) (seq : Byte) :
    (if p.emptied a seq then none else some (p.refuse a seq)) =
      if p.station = a ∧ p.pending.map PendingPart.seq = some seq then
        if p.confirmed.isSome then some { p with pending := none } else none
      else some p := by
  have taken : (p.station = a && p.carries seq) = true ↔ p.station = a ∧ p.pending.map PendingPart.seq = some seq := by
    simp [carries_iff]
  unfold PointRecord.emptied PointRecord.refuse
  by_cases here : p.station = a ∧ p.pending.map PendingPart.seq = some seq
  · rw [if_pos (taken.2 here), if_pos here, taken.2 here]
    cases p.confirmed <;> rfl
  · rw [if_neg (mt taken.1 here), if_neg here, Bool.eq_false_iff.2 (mt taken.1 here)]
    rfl

/-- Settles O26: the tap acts on every record of the pool; the absorption, the passage and the closing leave it. -/
theorem ackConfirmsNakRemoves : Obligations.AckConfirmsNakRemoves := by
  unfold Obligations.AckConfirmsNakRemoves
  refine fun s f valid => ⟨fun ack => ⟨_, rfl, ?ack⟩, fun nak => ⟨_, rfl, ?nak⟩⟩
  case ack =>
    rw [fFrameArrival_points valid (by rw [ack]; decide), upTaps_ack ack]
    exact List.map_congr_left fun p _ => confirm_eq p f.station f.seq
  case nak =>
    rw [fFrameArrival_points valid (by rw [nak]; decide), upTaps_nak nak, refusePoints_points]
    exact List.filterMap_congr fun p _ => emptied_or_refuse p f.station f.seq

/-! ## Station frames -/

theorem kept_upTaps (f : Frame) (h : PoolKept s) : PoolKept (s.upTaps f) := by
  refine kept_ite (kept_confirmPoints _ _ h) (kept_ite (kept_refusePoints _ _ h) ?_)
  split
  · exact kept_of_points ((settle_points _).trans (takeReading_points ..)) h
  · exact h

theorem kept_fArrival (f : Frame) (h : PoolKept s) : PoolKept (s.fArrival f) := by
  cases valid : validStation f.station with
  | false =>
    unfold State.fArrival
    rw [if_pos (by simp [valid])]
    exact kept_of_points (receiveError_points ..) h
  | true =>
    by_cases hello : f.kind = kindHello
    · unfold State.fArrival
      rw [if_neg (by simp [valid]), if_pos hello]
      exact kept_of_points ((helloTap_points _ valid _).trans (classifyUp_points ..)) h
    · exact kept_of_points (fArrival_points valid hello) (kept_upTaps f h)

/-! ## Requests (R74, R75, R186) -/

theorem kept_reqPointDrop (args : List Byte) (h : PoolKept s) : PoolKept (s.reqPointDrop args).state := by
  unfold State.reqPointDrop
  repeat' split
  exacts [h, h, kept_of_points (settleFrom_points ..) (kept_dropPoint _ _ h), h, h]

theorem kept_execute (code : Byte) (args : List Byte) (h : PoolKept s) : PoolKept (s.execute code args).state := by
  obtain ⟨hold, release, clear⟩ := reqStation_points (s := s) args
  obtain ⟨start, suspend, resume, abort⟩ := reqRun_points (s := s) args
  obtain ⟨select, get, pointGet, pointList, runStatus, setFeed, readLine, readClear, readCounters, store, reset⟩ :=
    reqOther_points (s := s) args
  have same : ∀ r : Response, r.state.points = s.points → PoolKept r.state := fun _ e => kept_of_points e h
  unfold State.execute
  split
  exacts [same _ select, same _ get, same _ (reqPut_points args), same _ pointGet, same _ pointList, kept_reqPointPut args h,
    kept_reqPointDrop args h, same _ hold, same _ release, same _ clear, same _ start, same _ suspend, same _ resume, same _ abort,
    same _ runStatus, same _ setFeed, same _ readLine, same _ readClear, same _ readCounters, same _ store, same _ (reset .warm),
    same _ (reset .cold), h]

theorem kept_respond (payload : List Byte) (h : PoolKept s) : PoolKept (s.respond payload).state := by
  unfold State.respond
  split
  · exact h
  · split
    · exact h
    · split
      · exact h
      · exact kept_execute _ _ h

theorem kept_finish (r : Response) (b : Bool) (seq code : Byte) (h : PoolKept r.state) : PoolKept (r.finish b seq code) := by
  have placed := kept_of_points ((placeReply_points
    { frame := answerFrame seq code r.status r.wrapped (r.detail r.state.fArbiter), isReset := r.isReset }).trans fArbiter_points) h
  exact kept_ite (kept_takeReset (kept_of_points (testNotice_points b) placed)) placed

theorem kept_request (b : Bool) (seq : Byte) (payload : List Byte) (h : PoolKept s) : PoolKept (s.request b seq payload) := by
  have noticed : PoolKept ((s.respond payload).afterNotice s b).state := by
    unfold Response.afterNotice
    split
    · exact kept_of_points (s := (s.respond payload).state) rfl (kept_respond payload h)
    · exact kept_respond payload h
  have finished := kept_finish _ b seq (payload.headD 0) noticed
  exact kept_ite (kept_of_points (testNotice_points true) finished) finished

/-! ## Arrivals and the transmitters -/

theorem kept_arrive (p : Port) (f : Frame) (h : PoolKept s) : PoolKept (s.arrive p f) := by
  cases p with
  | f => exact kept_fArrival f (kept_of_points (setPort_points ..) h)
  | s =>
    have heard : PoolKept ((s.endFrame .s).reloadSilence.endSilence) :=
      kept_of_points (endSilence_points _) (kept_of_points (s := s) rfl h)
    have passed := kept_of_points (passDownFrame_points f) heard
    exact kept_ite (kept_ite (kept_request _ _ _ heard) (kept_of_points (receiveError_points ..) heard))
      (kept_ite (kept_of_points (alertArrival_points f) heard)
        (kept_ite passed (kept_ite (kept_of_points (holdArrival_points f) heard) passed)))

theorem kept_takeCharacter (p : Port) (v : Byte) (marker stop : Bool) (h : PoolKept s) :
    PoolKept (s.takeCharacter p v marker stop) := by
  have erred : ∀ x e, PoolKept ((s.setAssembly p x).receiveError p e) := fun x e =>
    kept_of_points ((receiveError_points ..).trans (setAssembly_points p x)) h
  have data : ∀ a d, PoolKept (s.takeData p a d) := fun a d => by
    unfold State.takeData
    dsimp only
    repeat' split
    exacts [erred _ _, kept_arrive p _ h, erred _ _, kept_of_points (setAssembly_points p _) h]
  unfold State.takeCharacter
  repeat' split
  exacts [h, erred _ _, kept_of_points (takeMarker_points p v) h, kept_of_points (receiveError_points ..) h, data _ _, h]

theorem kept_fLeaves (h : PoolKept s) : PoolKept s.fLeaves := by
  have freed : PoolKept s.freeF := kept_of_points (s := s) rfl h
  unfold State.fLeaves
  split
  · exact h
  · next w _ =>
    have snooped : PoolKept (if validStation w.frame.station then s.freeF.snoop w.frame else s.freeF) := by
      split
      · next valid => exact kept_snoop valid freed
      · exact freed
    dsimp only
    split
    · exact kept_of_points (injectionLeft_points _) freed
    · exact freed
    · exact snooped
    · exact snooped

theorem kept_sLeaves (h : PoolKept s) : PoolKept s.sLeaves := by
  have freed : PoolKept { s with wireS := none } := kept_of_points (s := s) rfl h
  unfold State.sLeaves
  split
  · exact h
  · dsimp only
    split
    · exact freed
    · exact kept_ite (kept_takeReset freed) freed
    · exact kept_of_points (s := s) rfl h

/-! ## Every command -/

theorem exec_keeps_pool (c : Instr) (e : exec c s = .next t) (h : PoolKept s) : PoolKept t := by
  have closed : ∀ u, PoolKept u → s.concluded u = .next t → PoolKept t := fun u k e => by
    injection e with e
    exact e ▸ kept_of_points (close_points s u) k
  have same : ∀ u, u.points = s.points → s.concluded u = .next t → PoolKept t := fun u k => closed u (kept_of_points k h)
  cases c
  case powerOnReset x =>
    injection e with e
    exact e ▸ kept_empty rfl
  case bridgeTimeIncrement =>
    injection e with e
    exact e ▸ kept_of_points (s := s) rfl h
  case configurationLoadEnd b => exact closed _ (kept_loadEnd b h) e
  case receiveCharacter p v m stop => exact closed _ (kept_takeCharacter p v m stop h) e
  case gapTimeout p => exact same _ (gapTimeout_points p) e
  case breakTaken p => exact same _ (takeBreak_points p) e
  case breakEnd p => exact same _ (endBreak_points p) e
  case quietTimerExpiry p => exact same _ (quietExpires_points p) e
  case fFrameArrival f => exact closed _ (kept_arrive .f f h) e
  case fTransmitComplete => exact closed _ (kept_fLeaves h) e
  case sTransmitComplete => exact closed _ (kept_sLeaves h) e
  case replyTimeout i => exact same _ (replyExpires_points i) e
  case closingDeadlineExpiry i => exact same _ (closingExpires_points i) e
  case repollWaitExpiry i => exact same _ (repollExpires_points i) e
  case settleExpiry n => exact same _ (settleExpires_points n) e
  case sliceExpiry => exact same _ sliceExpires_points e
  case silenceTimerExpiry => exact same _ silenceExpires_points e
  case secondTimerExpiry => exact same _ secondExpires_points e
  case spacingTimerExpiry => exact same _ spacingExpires_points e
  case storeComplete b => exact same _ (storeEnds_points b) e
  all_goals exact closed _ (kept_arrive .s _ h) e

/-- Settles O5: the step is a command with the queue's rest, and every command keeps the pool. -/
theorem stepKeepsPointPool : Obligations.StepKeepsPointPool := by
  unfold Obligations.StepKeepsPointPool
  intro s t h e
  unfold step at e
  split at e
  · injection e with e
    exact e ▸ h
  · next c rest _ => exact exec_keeps_pool c e (kept_of_points (s := s) rfl h)

end Sys2Proof.Machine
end

section
/-! SUPPORT. The injection seqs stay in their band (R97, R128, R129) under the operations of the Run Engine, the station state machine
and the hold queues. -/

namespace Sys2Proof.Machine

variable {s t : State}

/-! ## A record in the band, and what the invariant reads -/

/-- The seqs of a record lie in the band, and it holds at most 4 attempt seqs (R128, R129). -/
structure InjectionRecord.InBand (r : InjectionRecord) : Prop where
  attempts    : ∀ b ∈ r.attempts, inBand b
  ready       : ∀ b, r.ready = some b → inBand b
  outstanding : ∀ b, r.outstanding = some b → inBand b
  few         : r.attempts.length ≤ 4

/-- All that the invariant reads: the counter, the plan and the slots. -/
def State.band (s : State) : Byte × Vector StepRecord 96 × Vector (Option InjectionRecord) 8 := (s.injectionSeq, s.plan, s.slots)

theorem BandKept.record (h : BandKept s) {i : Nat} {r : InjectionRecord} (here : s.slot i = some r) : r.InBand := by
  obtain ⟨attempts, ready, outstanding, few⟩ := h.records i r here
  exact ⟨attempts, ready, outstanding, few⟩

theorem bandKept_of_parts (counter : inBand s.injectionSeq) (retries : ∀ n, (s.step n).retries ≤ 3)
    (records : ∀ i r, s.slot i = some r → r.InBand) : BandKept s :=
  ⟨counter, retries, fun i r here => ⟨(records i r here).attempts, (records i r here).ready, (records i r here).outstanding,
    (records i r here).few⟩⟩

theorem band_eq (seq : t.injectionSeq = s.injectionSeq) (plan : t.plan = s.plan) (slots : t.slots = s.slots) : t.band = s.band := by
  simp [State.band, seq, plan, slots]

theorem plan_of_core (h : t.core = s.core) : t.plan = s.plan := (congrArg State.plan h :)

theorem band_of_core (core : t.core = s.core) (seq : t.injectionSeq = s.injectionSeq) (slots : t.slots = s.slots) : t.band = s.band :=
  band_eq seq (plan_of_core core) slots

theorem step_of_plan (h : t.plan = s.plan) (n : Nat) : t.step n = s.step n := by
  unfold State.step
  rw [h]

theorem bandKept_of_band (same : t.band = s.band) (h : BandKept s) : BandKept t := by
  simp only [State.band, Prod.mk.injEq] at same
  obtain ⟨seq, plan, slots⟩ := same
  refine bandKept_of_parts (seq ▸ h.counter) (fun n => ?_) fun i r here => h.record ((slot_congr slots i).symm.trans here)
  rw [step_of_plan plan]
  exact h.retries n

theorem band_ite {c : Prop} [Decidable c] {u : State} (h : t.band = s.band) (k : u.band = s.band) :
    (if c then t else u).band = s.band := by
  split
  · exact h
  · exact k

theorem bandKept_ite {c : Prop} [Decidable c] (h : BandKept s) (k : BandKept t) : BandKept (if c then s else t) := by
  split
  · exact h
  · exact k

/-- One slot is written, with a record in the band or with none. -/
theorem bandKept_setSlot (i : Nat) {x : Option InjectionRecord} (own : ∀ r, x = some r → r.InBand) (h : BandKept s) :
    BandKept (s.setSlot i x) := by
  refine bandKept_of_parts h.counter h.retries fun j r here => ?_
  rw [setSlot_slot] at here
  split at here
  · exact own r here
  · exact h.record here

theorem bandKept_free (i : Nat) (h : BandKept s) : BandKept (s.setSlot i none) := bandKept_setSlot i (fun _ k => nomatch k) h

theorem bandKept_write (i : Nat) {r : InjectionRecord} (own : r.InBand) (h : BandKept s) : BandKept (s.setSlot i (some r)) :=
  bandKept_setSlot i (fun _ same => Option.some.inj same ▸ own) h

/-! ## Records (R128 to R137) -/

theorem nextInBand_inBand {b : Byte} (band : inBand b) : inBand (nextInBand b) := by
  unfold inBand
  rw [nextInBand_toNat band]
  omega

/-- A record that takes one more seq of the band. -/
theorem InjectionRecord.InBand.attempted {r : InjectionRecord} {q : Byte} {used : List Byte} (h : r.InBand) (seq : inBand q)
    (old : ∀ b ∈ used, inBand b) (few : used.length ≤ 3) : { r with attempts := used ++ [q], ready := some q }.InBand where
  attempts b mem := by
    rcases List.mem_append.1 mem with mem | mem
    · exact old b mem
    · exact List.mem_singleton.1 mem ▸ seq
  ready b same := Option.some.inj same ▸ seq
  outstanding := h.outstanding
  few := by simpa using Nat.lt_succ_of_le few

section
variable (i n : Nat)

/-- A slot takes a record with a seq picked in the band, and the counter goes on from there (R129). -/
theorem bandKept_picked {r : InjectionRecord} {q : Byte} (own : r.InBand) (seq : inBand q) (h : BandKept s) :
    BandKept { s.setSlot i (some r) with injectionSeq := nextInBand q } :=
  bandKept_of_parts (nextInBand_inBand seq) h.retries fun _ _ here => (bandKept_write i own h).record here

theorem bandKept_makeAttempt (few : ∀ r, s.slot i = some r → r.attempts.length ≤ 3) (h : BandKept s) : BandKept (s.makeAttempt i) := by
  unfold State.makeAttempt
  split
  · next r here =>
    have picked := pickSeq_inBand r.attempts 32 h.counter
    exact bandKept_picked i ((h.record here).attempted picked (h.record here).attempts (few r here)) picked h
  · exact h

theorem bandKept_makePoll (h : BandKept s) : BandKept (s.makePoll i) := by
  unfold State.makePoll
  split
  · next r here =>
    have picked := pickSeq_inBand r.attempts 32 h.counter
    exact bandKept_picked i ((h.record here).attempted (used := []) picked (by simp) (by simp)) picked h
  · exact h

theorem bandKept_openRecord (k c : Nat) (h : BandKept s) : BandKept (s.openRecord i n k c) := by
  refine bandKept_makeAttempt i (fun r here => ?_) (bandKept_write i ⟨by simp, by simp, by simp, by simp⟩ h)
  rw [setSlot_here (slot_lt here)] at here
  cases here
  simp

theorem bandKept_closeRecord (h : BandKept s) : BandKept (s.closeRecord i) := by
  unfold State.closeRecord
  split
  · split
    · exact bandKept_openRecord _ _ _ _ h
    · exact bandKept_free i h
  · exact h

/-- A record that closes keeps its attempt seqs and, of its ready and its outstanding seq, none or the one it had. -/
theorem InjectionRecord.InBand.closed {r r' : InjectionRecord} (h : r.InBand) (attempts : r'.attempts = r.attempts)
    (ready : r'.ready = none ∨ r'.ready = r.ready) (outstanding : r'.outstanding = none ∨ r'.outstanding = r.outstanding) :
    r'.InBand where
  attempts := attempts ▸ h.attempts
  ready b same := by
    rcases ready with none | kept
    · exact nomatch none.symm.trans same
    · exact h.ready b (kept.symm.trans same)
  outstanding b same := by
    rcases outstanding with none | kept
    · exact nomatch none.symm.trans same
    · exact h.outstanding b (kept.symm.trans same)
  few := attempts ▸ h.few

theorem bandKept_resolveRecord (q : Byte) (c : Option Nat) (h : BandKept s) : BandKept (s.resolveRecord i q c) := by
  unfold State.resolveRecord
  split
  · next r here =>
    have left : (if r.outstanding = some q then none else r.outstanding) = none
        ∨ (if r.outstanding = some q then none else r.outstanding) = r.outstanding := by
      split <;> simp
    exact bandKept_ite (bandKept_write i ((h.record here).closed rfl (.inl rfl) left) h)
      (bandKept_closeRecord i (bandKept_write i ((h.record here).closed rfl (.inl rfl) left) h))
  · exact h

theorem bandKept_cancelRecord (h : BandKept s) : BandKept (s.cancelRecord i) := by
  unfold State.cancelRecord
  split
  · next r here =>
    have own := h.record here
    exact bandKept_ite (bandKept_write i (own.closed rfl (.inr rfl) (.inr rfl)) h)
      (bandKept_ite (bandKept_write i (own.closed rfl (.inl rfl) (.inr rfl)) h) (bandKept_free i h))
  · exact h

theorem bandKept_cancelRecordOf (a : Nat) (h : BandKept s) : BandKept (s.cancelRecordOf a n) := by
  unfold State.cancelRecordOf
  repeat' split
  exacts [bandKept_cancelRecord _ h, h, h, h]
end

/-! ## Operations that leave the band -/

section
variable (a n i : Nat)

@[simp] theorem raise_band (e : NoticeEvent) : (s.raise e).band = s.band := rfl
@[simp] theorem startClock_band : (s.startClock n).band = s.band := rfl
@[simp] theorem setFeedRecord_band (f : Feed) (r : FeedRecord) : (s.setFeedRecord f r).band = s.band := by cases f <;> rfl
@[simp] theorem setEntry_band (e : StepEntry) : (s.setEntry n e).band = s.band :=
  band_eq (setEntry_injectionSeq ..) (setEntry_plan ..) (setEntry_slots ..)
@[simp] theorem setStepState_band (x : StepState) : (s.setStepState n x).band = s.band := setEntry_band ..
@[simp] theorem updateStation_band (g : StationRecord → StationRecord) : (s.updateStation a g).band = s.band :=
  band_eq (updateStation_injectionSeq ..) (updateStation_plan ..) (updateStation_slots ..)
@[simp] theorem evaluate_band : (s.evaluate n).band = s.band := by
  unfold State.evaluate
  repeat' split
  all_goals first | rfl | exact setStepState_band ..
@[simp] theorem evaluateAll_band : s.evaluateAll.band = s.band :=
  foldl_keeps State.band _ (fun s n => evaluate_band (s := s) n) _ s
@[simp] theorem settleStep_band : (s.settleStep n).band = s.band := band_ite (setEntry_band ..) (setEntry_band ..)
@[simp] theorem finishFrames_band : (s.finishFrames n).band = s.band := settleStep_band n
@[simp] theorem markWait_band (f : Feed) : (s.markWait f).band = s.band := by
  unfold State.markWait
  split
  · exact band_ite (setFeedRecord_band ..) rfl
  · rfl
@[simp] theorem haltRun_band : (s.haltRun n).band = s.band := band_ite rfl rfl
@[simp] theorem abortStep_band : (s.abortStep n).band = s.band := by
  unfold State.abortStep
  split <;> simp
@[simp] theorem returnSteps_band (l : List Nat) : (s.returnSteps l).band = s.band :=
  band_of_core (foldl_keeps State.core _ returnStep_core l s) (returnSteps_injectionSeq l) (returnSteps_slots l)
@[simp] theorem addCause_band (g : Causes → Causes) : (s.addCause g).band = s.band := band_ite (band_ite rfl rfl) rfl
@[simp] theorem count_band (c : Counter) : (s.count c).band = s.band := by rw [count_eq]; rfl
@[simp] theorem placeReply_band (r : Reply) : (s.placeReply r).band = s.band := by rw [placeReply_holds]; rfl
@[simp] theorem defer_band (f : Frame) (len : Nat) : (s.defer f len).band = s.band := by rw [defer_holds]; rfl
@[simp] theorem setQueue_band (q : List Frame) : (s.setQueue a q).band = s.band := by cases a <;> rfl
@[simp] theorem rearm_band : s.rearm.band = s.band := band_ite rfl rfl
@[simp] theorem supersede_band (f : Frame) : (s.supersede a f).band = s.band := by rw [supersede_holds]; rfl
@[simp] theorem testHighWater_band : s.testHighWater.band = s.band := band_ite rfl rfl
@[simp] theorem appendHeld_band (f : Frame) : (s.appendHeld a f).band = s.band := by
  simp [State.appendHeld, State.replyHold]
end

/-! ## Membership and the station state machine (R43 to R46) -/

section
variable (a n : Nat)

theorem bandKept_leaveStep (d : Bool) (h : BandKept s) : BandKept (State.leaveStep a d s n) := by
  unfold State.leaveStep
  split
  · exact bandKept_of_band (setStepState_band ..) h
  · exact bandKept_of_band (setStepState_band ..) h
  · exact bandKept_of_band (startClock_band n) (bandKept_cancelRecordOf n a (bandKept_of_band (setStepState_band ..) h))
  · exact bandKept_ite h (bandKept_of_band (setEntry_band ..) h)
  · exact h

theorem bandKept_leaveRun (d : Bool) (h : BandKept s) : BandKept (s.leaveRun a d) := by
  have left := bandKept_of_band (updateStation_band a fun r => { r with member := false }) h
  exact bandKept_ite (foldl_kept BandKept _ _ (fun s n _ k => bandKept_leaveStep a n d k) _ left) left

theorem bandKept_checkDrain (h : BandKept s) : BandKept (s.checkDrain a) := by
  refine bandKept_ite (bandKept_leaveRun a true (bandKept_of_band ?_ h)) h
  exact band_ite ((raise_band _).trans (updateStation_band ..)) (updateStation_band ..)

theorem bandKept_enterDraining (h : BandKept s) : BandKept (s.enterDraining a) :=
  bandKept_ite (bandKept_checkDrain a (bandKept_of_band (updateStation_band ..) h)) h

theorem bandKept_faultRequest (c : FaultCause) (h : BandKept s) : BandKept (s.faultRequest a c) := by
  have left : ∀ g, BandKept ((s.updateStation a g).leaveRun a false) := fun g =>
    bandKept_leaveRun a false (bandKept_of_band (updateStation_band a g) h)
  unfold State.faultRequest
  repeat' split
  exacts [bandKept_of_band (updateStation_band ..) h, bandKept_of_band (raise_band _) (left _), left _,
    bandKept_of_band (raise_band _) (left _), left _, h, left _, h, h, h]

theorem bandKept_overrideStation (h : BandKept s) : BandKept (s.overrideStation a) := by
  rw [overrideStation_eq]
  refine bandKept_ite h (bandKept_leaveRun a false (bandKept_of_band ?_ h))
  have shape : s.silenced a = (s.updateStation a overriddenRecord).holding (s.silenced a) := discardQueue_holds a
  rw [shape]
  exact updateStation_band a overriddenRecord

/-! ## The Run Engine -/

theorem bandKept_grant (i : Nat) (h : BandKept s) : BandKept (s.grant i n) := by
  have issued : BandKept (s.issue i n (s.step n)) := by
    refine bandKept_of_band (setStepState_band ..) (bandKept_openRecord i n 0 _ (bandKept_of_band ?_ h))
    split <;> rfl
  rw [grant_eq]
  exact bandKept_ite (bandKept_of_band (updateStation_band ..) issued) issued

theorem bandKept_completeFrameless (h : BandKept s) : BandKept (s.completeFrameless n) := by
  have settled := bandKept_of_band (settleStep_band n) h
  exact bandKept_ite (bandKept_enterDraining _ settled) settled

theorem bandKept_ended (o : RunOutcome) (h : BandKept s) : BandKept (s.drainMembers.closeRun o) :=
  bandKept_of_band (s := (stationNumbers.filter fun a => (s.station a).member).foldl State.enterDraining s) rfl
    (foldl_kept BandKept _ _ (fun _ a _ k => bandKept_enterDraining a k) s h)

theorem bandKept_followUp (due : Bool) (h : BandKept s) : BandKept (State.followUp due s) :=
  followUp_turns (R := fun s t => BandKept s → BandKept t)
    { refl := fun _ => id
      trans := fun _ _ _ h k => k ∘ h
      evaluate := fun _ n => bandKept_of_band (evaluate_band n)
      complete := fun _ n _ => bandKept_completeFrameless n
      wait := fun _ f => bandKept_of_band (markWait_band f)
      grant := fun _ i n _ _ _ => bandKept_grant n i
      ended := fun _ o _ => bandKept_ended o } due s h

theorem bandKept_settle (h : BandKept s) : BandKept s.settle := bandKept_followUp true h
theorem bandKept_settleFrom (r : State) (h : BandKept s) : BandKept (r.settleFrom s) := bandKept_followUp _ h

theorem bandKept_failStep (c : FailureCause) (b : Byte) (h : BandKept s) : BandKept (s.failStep n c b) := by
  unfold State.failStep State.propagate
  dsimp only
  split
  · exact bandKept_of_band (by simp) h
  · refine bandKept_of_band evaluateAll_band (bandKept_faultRequest _ _ (bandKept_of_band ?_ h))
    simp

theorem bandKept_abortRun (h : BandKept s) : BandKept s.abortRun := by
  have steps : (stepNumbers.foldl State.abortStep s).band = s.band :=
    foldl_keeps State.band _ (fun s n => abortStep_band (s := s) n) _ s
  exact bandKept_ended .aborted
    (foldl_kept BandKept _ slotNumbers (fun _ i _ k => bandKept_cancelRecord i k) _ (bandKept_of_band steps h))

theorem bandKept_started (h : BandKept s) : BandKept s.started :=
  bandKept_of_band (band_eq started_injectionSeq untouched_started.plan started_slots) h

theorem bandKept_autoStart (h : BandKept s) : BandKept (s.autoStart a) := by
  rw [autoStart_eq]
  exact bandKept_ite (bandKept_ite (bandKept_settle (bandKept_started h)) (bandKept_of_band (raise_band _) h)) h

theorem bandKept_restartSteps (k : Restart) (h : BandKept s) : BandKept (s.restartSteps a k) := by
  have returned := bandKept_of_band (returnSteps_band ((s.stepsOf a).filter fun n => k.returns (s.entry n).state)) h
  unfold State.restartSteps
  dsimp only
  split
  · exact bandKept_cancelRecord _ returned
  · exact returned

/-! ## The hold queues and the entry into HELD (R40, R110) -/

theorem bandKept_holdEntry (f : Frame) (h : BandKept s) : BandKept (State.holdEntry a s f) := by
  have superseded := bandKept_of_band (supersede_band a f) h
  exact bandKept_ite (bandKept_of_band (appendHeld_band a f) superseded)
    (bandKept_checkDrain a (bandKept_of_band (defer_band f _) superseded))

theorem bandKept_handOver (h : BandKept s) : BandKept (s.handOver a) :=
  foldl_kept BandKept _ _ (fun _ f _ k => bandKept_holdEntry a f k) _ (bandKept_of_band (s := s) rfl h)

theorem bandKept_joinRun (k : Restart) (h : BandKept s) : BandKept (s.joinRun a k) :=
  bandKept_ite (bandKept_restartSteps a k (bandKept_of_band (updateStation_band ..) h)) h

theorem bandKept_enterHeld (k : Restart) (h : BandKept s) : BandKept (s.enterHeld a k) :=
  bandKept_joinRun a k (bandKept_handOver a (bandKept_of_band (updateStation_band ..) h))
end

end Sys2Proof.Machine
end

section
/-! SUPPORT. The injection seqs stay in their band (R97, R128, R129) under the HELLOs, the absorbed frames, the requests, the arrivals,
the timers, the resets and the load, and the statement about every step. -/

namespace Sys2Proof.Machine

variable {s t : State}

/-! ## HELLOs (R47 to R53) -/

theorem bandKept_helloEffect (a : Nat) (kept : Bool) (h : BandKept s) : BandKept (s.helloEffect a kept) := by
  have written := fun g => bandKept_of_band (updateStation_band a g) h
  have online : BandKept (s.helloOnline a kept) := by
    have entered := bandKept_enterHeld a .hello h
    exact bandKept_ite (bandKept_ite (bandKept_settleFrom s entered) (bandKept_autoStart a entered)) h
  have restart : BandKept (s.helloRestart a) :=
    bandKept_ite (bandKept_ite (bandKept_settleFrom _ (bandKept_restartSteps a .hello (written _))) (written _))
      (bandKept_autoStart a (written _))
  have draining : BandKept (s.helloDraining a) :=
    bandKept_ite h (bandKept_ite (bandKept_settleFrom _ (bandKept_joinRun a _ (written _))) (bandKept_autoStart a (written _)))
  unfold State.helloEffect
  split
  exacts [online, restart, restart, draining, h, h, h]

theorem bandKept_helloTap (a : Nat) (payload : List Byte) (h : BandKept s) : BandKept (s.helloTap a payload) := by
  have counted := bandKept_of_band (count_band .hellosSeen) h
  refine bandKept_ite ?_ counted
  have recorded := bandKept_of_band (raise_band .hello) (bandKept_of_band (updateStation_band a fun r =>
    { r with history := appendHistory r.history (helloEntry (s.count .hellosSeen).bridgeTime payload) }) counted)
  exact bandKept_ite (bandKept_settleFrom _ (bandKept_faultRequest a _ (bandKept_of_band (raise_band _) recorded)))
    (bandKept_helloEffect a _ recorded)

/-! ## Absorbed frames and the deadlines of records (R130 to R136) -/

section
variable (i n : Nat) (q : Byte)

theorem bandKept_acceptLast (h : BandKept s) : BandKept (s.acceptLast i n q) :=
  bandKept_resolveRecord i q none (bandKept_of_band (finishFrames_band n) h)

theorem bandKept_acceptRestore (r : InjectionRecord) (h : BandKept s) : BandKept (s.acceptRestore i r q) := by
  have next : BandKept (s.nextStart r).1 := by
    unfold State.nextStart
    split
    · exact h
    · exact bandKept_of_band (s := s) rfl h
  unfold State.acceptRestore
  dsimp only
  split
  · exact bandKept_acceptLast i _ q next
  · exact bandKept_resolveRecord i q _ next

theorem bandKept_refuse (f : Frame) (h : BandKept s) : BandKept (s.refuse i n f) :=
  bandKept_failStep n _ _ (bandKept_resolveRecord i _ none h)

theorem bandKept_answerPoll {r : InjectionRecord} (own : r.InBand) (f : Frame) (h : BandKept s) : BandKept (s.answerPoll i r f) :=
  bandKept_ite (bandKept_acceptLast i _ _ h)
    (bandKept_ite (bandKept_write i (own.closed rfl (.inl rfl) (.inl rfl)) h)
      (bandKept_failStep _ _ _ (bandKept_resolveRecord i _ none h)))
end

theorem bandKept_absorb (i : Nat) (f : Frame) (h : BandKept s) : BandKept (s.absorb i f) := by
  have late := bandKept_of_band (count_band .lateReplies) h
  have answered : ∀ (r : InjectionRecord) (t : State), BandKept t → BandKept
      (if f.kind = kindAck then t else if f.kind = kindNak then s.refuse i r.step f else s) := fun r t kept =>
    bandKept_ite kept (bandKept_ite (bandKept_refuse i _ f h) h)
  unfold State.absorb
  split
  · exact h
  · next r here =>
    refine bandKept_ite (bandKept_closeRecord i late) (bandKept_ite late ?_)
    split
    · exact answered r _ (bandKept_acceptRestore i f.seq r h)
    · exact bandKept_ite (bandKept_answerPoll i (h.record here) f h) h
    · exact answered r _ (bandKept_acceptLast i r.step f.seq h)

/-- A retry comes only to a record with at most 3 attempt seqs, the retries of its step being at most 3 (R97, R130). -/
theorem bandKept_timeOut {i : Nat} {r : InjectionRecord} (here : s.slot i = some r) (h : BandKept s) : BandKept (s.timeOut i r) := by
  have own := h.record here
  unfold State.timeOut
  dsimp only
  split
  · next left =>
    have most := h.retries r.step
    refine bandKept_of_band (count_band _) (bandKept_makeAttempt i (fun x taken => ?_)
      (bandKept_write i (own.closed rfl (.inr rfl) (.inl rfl)) h))
    rw [setSlot_here (slot_lt here)] at taken
    cases taken
    show r.attempts.length ≤ 3
    omega
  · exact bandKept_failStep _ _ _ (bandKept_write i (own.closed rfl (.inl rfl) (.inl rfl)) h)

theorem bandKept_injectionLeft (f : Frame) (h : BandKept s) : BandKept (s.injectionLeft f) := by
  unfold State.injectionLeft
  split
  · next i _ =>
    split
    · next r here => exact bandKept_ite (bandKept_write i ((h.record here).closed rfl (.inr rfl) (.inr rfl)) h) h
    · exact h
  · exact h

/-! ## The pool and the feeds -/

theorem snoop_band (f : Frame) : (s.snoop f).band = s.band := by
  have point : ∀ (s : State) (p : Nat × Nat), (s.snoopPoint f.station f.seq p).band = s.band := fun s p => by
    unfold State.snoopPoint
    split
    · split <;> rfl
    · split
      · rfl
      · exact count_band _
  unfold State.snoop
  split
  · exact foldl_keeps State.band _ point _ s
  · rfl

theorem takeReading_band (f : Feed) (v : Nat) : (s.takeReading f v).band = s.band :=
  band_ite (setFeedRecord_band ..) (setFeedRecord_band ..)

theorem bandKept_upTaps (f : Frame) (h : BandKept s) : BandKept (s.upTaps f) := by
  refine bandKept_ite (bandKept_of_band (s := s) rfl h) (bandKept_ite (bandKept_of_band (s := s) rfl h) ?_)
  split
  · exact bandKept_settle (bandKept_of_band (takeReading_band ..) h)
  · exact h

theorem foldContributions_band : s.foldContributions.band = s.band := by
  refine (foldl_keeps State.band _ (fun s c => ?_) _ _).trans rfl
  exact band_ite (setFeedRecord_band ..) (setFeedRecord_band ..)

theorem testStale_band (f : Feed) : (s.testStale f).band = s.band :=
  band_ite (setFeedRecord_band ..) rfl

theorem bandKept_countWait (f : Feed) (n : Nat) (h : BandKept s) : BandKept (s.countWait f n) := by
  have counted : ∀ r, BandKept ((s.markWait f).setFeedRecord f r) := fun r => bandKept_of_band (by simp) h
  exact bandKept_ite (bandKept_ite (bandKept_settle (bandKept_failStep n _ _ (counted _))) (counted _)) h

theorem bandKept_countWaits (h : BandKept s) : BandKept s.countWaits := by
  unfold State.countWaits
  split
  · exact bandKept_ite (bandKept_countWait _ _ (bandKept_countWait _ _ h)) (bandKept_countWait _ _ (bandKept_countWait _ _ h))
  · exact bandKept_countWait _ _ h
  · exact bandKept_countWait _ _ h
  · exact h

/-! ## Arrivals but the REQUEST's -/

theorem setPort_band (p : Port) (x : PortState) : (s.setPort p x).band = s.band := by cases p <;> rfl

theorem receiveError_band (p : Port) (e : ReceiveError) : (s.receiveError p e).band = s.band := by rw [receiveError_eq]; rfl

theorem bandKept_endSilence (h : BandKept s) : BandKept s.endSilence :=
  bandKept_ite (bandKept_ite (bandKept_settle (bandKept_of_band (s := s) rfl h)) (bandKept_of_band (s := s) rfl h)) h

theorem passDownFrame_band (f : Frame) : (s.passDownFrame f).band = s.band := by rw [(passDownFrame_holds f).1]; rfl

theorem passUpFrame_band (f : Frame) : (s.passUpFrame f).band = s.band := by rw [passUpFrame_shape]; rfl

theorem placeAlert_band (f : Frame) : (s.placeAlert f).band = s.band := by rw [placeAlert_shape]; rfl

theorem bandKept_alertArrival (f : Frame) (h : BandKept s) : BandKept (s.alertArrival f) := by
  have overridden := foldl_kept BandKept (fun s a => s.settleFrom (s.overrideStation a)) ((s.placeAlert f).affected f)
    (fun s a _ k => bandKept_settleFrom s (bandKept_overrideStation a k)) _ (bandKept_of_band (placeAlert_band f) h)
  exact bandKept_ite overridden (bandKept_of_band (addCause_band _) overridden)

theorem bandKept_holdArrival (f : Frame) (h : BandKept s) : BandKept (s.holdArrival f) := by
  have entered := bandKept_holdEntry f.station f h
  exact bandKept_ite entered (bandKept_settleFrom s entered)

theorem bandKept_fArrival (f : Frame) (h : BandKept s) : BandKept (s.fArrival f) := by
  have classified : ∀ (t : State) (o : Option Nat), BandKept t → BandKept (t.classifyUp f o) := fun t o k => by
    cases o with
    | some i => exact bandKept_settleFrom t (bandKept_absorb i f k)
    | none => exact bandKept_of_band (passUpFrame_band f) k
  exact bandKept_ite (bandKept_of_band (receiveError_band ..) h)
    (bandKept_ite (bandKept_helloTap _ _ (classified s _ h)) (classified _ _ (bandKept_upTaps f h)))

/-! ## The closing of an event (R30, R35, R191) -/

/-- An injection sends the record's ready seq, which is then the outstanding one. -/
theorem bandKept_sendInjection (i : Nat) {r : InjectionRecord} {q : Byte} (own : r.InBand) (ready : r.ready = some q)
    (h : BandKept s) : BandKept (s.sendInjection i r q) := by
  have sent : ∀ b, BandKept (s.setSlot i (some { r with outstanding := some q, ready := none, deadline := none, builtHighest := b })) :=
    fun b => bandKept_write i ⟨own.attempts, by simp, fun x same => Option.some.inj same ▸ own.ready q ready, own.few⟩ h
  exact bandKept_of_band (setEntry_band ..) (sent _)

theorem bandKept_fChoose (fuel : Nat) (h : BandKept s) : BandKept (s.fChoose fuel) := by
  induction fuel generalizing s with
  | zero => exact h
  | succ k ih =>
    have head : ∀ x g, (s.sendHead x g).band = s.band := fun x g => by
      unfold State.sendHead
      split <;> rfl
    unfold State.fChoose
    split
    · exact h
    · exact bandKept_of_band (head _ _) h
    · refine bandKept_of_band ?_ h
      unfold State.sendReserve
      split <;> rfl
    · exact bandKept_of_band (head _ _) h
    · next a _ =>
      unfold State.sendDrain
      split
      · exact h
      · next f rest _ =>
        have taken : ((s.setQueue a rest).rearm).band = s.band := by simp
        exact bandKept_ite (bandKept_settleFrom _ (bandKept_checkDrain _ (bandKept_of_band taken h))) (bandKept_of_band taken h)
    · next i _ =>
      split
      · exact h
      · next r here =>
        split
        · exact h
        · next q ready =>
          exact bandKept_ite (ih (bandKept_settle (bandKept_of_band (finishFrames_band _) (bandKept_free i h))))
            (bandKept_sendInjection i (h.record here) ready h)

theorem bandKept_fArbiter (h : BandKept s) : BandKept s.fArbiter := bandKept_ite (bandKept_fChoose 128 h) h

theorem testNotice_band (b : Bool) : (s.testNotice b).band = s.band := by
  unfold State.testNotice
  split <;> rfl

theorem sArbiter_band : s.sArbiter.band = s.band := by rw [sArbiter_up]; rfl

theorem bandKept_close (r : State) (h : BandKept s) : BandKept (r.close s) :=
  bandKept_of_band sArbiter_band (bandKept_of_band (testNotice_band _) (bandKept_fArbiter h))

/-! ## Resets and the load (R59) -/

theorem warmReset_slot (i : Nat) : s.warmReset.slot i = none := by
  show getAt (Vector.replicate 8 none) i none = none
  by_cases lt : i < 8 <;> simp [getAt, lt]

theorem bandKept_warmReset (h : BandKept s) : BandKept s.warmReset :=
  bandKept_of_parts h.counter h.retries fun i _ here => nomatch (warmReset_slot i).symm.trans here

theorem bandKept_takeReset (h : BandKept s) : BandKept s.takeReset := by
  unfold State.takeReset
  split
  · exact bandKept_warmReset h
  · exact bandKept_of_band (s := State.reset) rfl bandKept_reset
  · exact h

theorem readImageRecords_plan {m : List Byte} {x : LoadedImage} (h : readImageRecords m = some x) :
    ∃ l : List StepRecord, x.plan = l.map StepRecord.clamp := by
  unfold readImageRecords at h
  simp only [Option.bind_eq_bind, Option.bind_eq_some_iff] at h
  obtain ⟨_, -, _, -, _, -, _, -, l, -, _, -, _, -, h⟩ := h
  split at h
  · cases h
  · obtain rfl := Option.some.inj h
    exact ⟨l, rfl⟩

/-- The step records of an image that loads have at most 3 retries, as after a PUT (R97, R198). -/
theorem readImage_retries {m : List Byte} {x : LoadedImage} (h : readImage m = some x) : ∀ r ∈ x.plan, r.retries ≤ 3 := by
  have read : readImageRecords m = some x := by
    unfold readImage at h
    split at h
    · cases h
    · split at h
      · cases h
      · split at h
        · cases h
        · exact h
  obtain ⟨l, plan⟩ := readImageRecords_plan read
  intro r mem
  obtain ⟨r, -, rfl⟩ := List.mem_map.1 (plan ▸ mem)
  exact Nat.min_le_right r.retries 3

theorem bandKept_takeImage (m : LoadedImage) (few : ∀ r ∈ m.plan, r.retries ≤ 3) (h : BandKept s) : BandKept (s.takeImage m) := by
  refine bandKept_of_parts h.counter (fun n => ?_) fun i r here => h.record (i := i) here
  show (getAt (tableOf 96 m.plan .default) n .default).retries ≤ 3
  by_cases lt : n < 96
  · rw [getAt_tableOf _ _ _ _ lt]
    rcases getD_cases m.plan n .default with mem | default
    · exact few _ mem
    · rw [default]
      exact Nat.zero_le 3
  · simp [getAt, lt, StepRecord.default]

theorem bandKept_loadEnd (answers : Bool) (h : BandKept s) : BandKept (s.loadEnd answers) := by
  refine bandKept_ite ?_ h
  dsimp only
  split
  · next m found =>
    refine bandKept_of_band (s := s.takeImage m) rfl (bandKept_takeImage m ?_ h)
    split at found
    · exact readImage_retries found
    · cases found
  · exact bandKept_of_band (s := s.takeImage .default) rfl (bandKept_takeImage _ (by simp [LoadedImage.default]) h)

/-! ## Requests -/

theorem bandKept_reqPut (args : List Byte) (h : BandKept s) : BandKept (s.reqPut args).state := by
  have stations : (s.putStations args).state.band = s.band := by
    have written : ∀ g, (s.updateStation s.cursor.index g).band = s.band := updateStation_band _
    unfold State.putStations
    split
    · rfl
    · dsimp only
      repeat' split
      exacts [rfl, rfl, written fun r => _]
  have plan : BandKept (s.putPlan args).state := by
    unfold State.putPlan
    split
    · exact h
    · next r _ =>
      have written : BandKept { s with plan := putAt s.plan s.cursor.index r.clamp } := by
        refine bandKept_of_parts h.counter (fun n => ?_) fun i r here => h.record (i := i) here
        show (getAt (putAt s.plan s.cursor.index r.clamp) n .default).retries ≤ 3
        rw [getAt_putAt]
        split
        · exact Nat.min_le_right r.retries 3
        · exact h.retries n
      dsimp only
      repeat' split
      exacts [h, h, h, bandKept_of_band (setEntry_band ..) written]
  have payload : (s.putPayload args).state.band = s.band := by
    unfold State.putPayload
    repeat' split
    all_goals rfl
  have settings : (s.putSettings args).state.band = s.band := by
    unfold State.putSettings
    repeat' split
    all_goals rfl
  unfold State.reqPut
  split
  exacts [bandKept_of_band stations h, plan, bandKept_of_band payload h, bandKept_of_band settings h, h, h, h]

theorem bandKept_reqStation (args : List Byte) (h : BandKept s) : BandKept (s.reqHold args).state
    ∧ BandKept (s.reqRelease args).state ∧ BandKept (s.reqClear args).state := by
  refine ⟨?hold, ?release, ?clear⟩
  case hold =>
    unfold State.reqHold
    repeat' split
    exacts [h, bandKept_settleFrom s (bandKept_enterHeld _ .held h), h, h]
  case release =>
    unfold State.reqRelease
    repeat' split
    all_goals first | exact h | exact bandKept_settleFrom s (bandKept_enterDraining _ (bandKept_leaveRun _ _ h))
  case clear =>
    unfold State.reqClear
    repeat' split
    exacts [h, bandKept_of_band (updateStation_band ..) h, h, h]

theorem bandKept_holdList (l : List Nat) (h : BandKept s) : BandKept (s.holdList l) :=
  foldl_kept BandKept _ l (fun _ a _ k => bandKept_ite (bandKept_enterHeld a .held k) k) s h

theorem bandKept_reqRun (args : List Byte) (h : BandKept s) : BandKept (s.reqStart args).state
    ∧ BandKept (s.reqSuspend args).state ∧ BandKept (s.reqResume args).state ∧ BandKept (s.reqAbort args).state := by
  refine ⟨?start, ?suspend, ?resume, ?abort⟩
  case start =>
    unfold State.reqStart
    repeat' split
    all_goals first | exact h | exact bandKept_settle (bandKept_started (bandKept_holdList _ h))
  case suspend =>
    unfold State.reqSuspend
    split
    · exact bandKept_of_band (addCause_band _) h
    · exact h
  case resume =>
    unfold State.reqResume
    repeat' split
    all_goals first | exact h | exact bandKept_settle (bandKept_of_band (s := s) rfl h)
  case abort =>
    unfold State.reqAbort
    split
    · exact bandKept_ite (bandKept_abortRun h) h
    · exact h

theorem bandKept_reqFollowed (args : List Byte) (h : BandKept s) : BandKept (s.reqPointDrop args).state
    ∧ BandKept (s.reqSetFeed args).state := by
  refine ⟨?drop, ?feed⟩
  case drop =>
    unfold State.reqPointDrop
    repeat' split
    all_goals first | exact h | exact bandKept_settleFrom s (bandKept_of_band (s := s) rfl h)
  case feed =>
    unfold State.reqSetFeed
    repeat' split
    all_goals first | exact h | exact bandKept_settle (bandKept_of_band (setFeedRecord_band ..) h)

/-- The requests that write neither the plan nor a slot nor the counter of the seqs. -/
theorem request_bands (args : List Byte) : (s.reqSelect args).state.band = s.band ∧ (s.reqGet args).state.band = s.band
    ∧ (s.reqPointGet args).state.band = s.band ∧ (s.reqPointList args).state.band = s.band
    ∧ (s.reqPointPut args).state.band = s.band ∧ (s.reqRunStatus args).state.band = s.band
    ∧ (s.reqReadLine args).state.band = s.band ∧ (s.reqReadClear args).state.band = s.band
    ∧ (s.reqReadCounters args).state.band = s.band ∧ (s.reqStore args).state.band = s.band
    ∧ ∀ k, (s.reqReset k args).state.band = s.band := by
  have pointPut : (s.reqPointPut args).state.band = s.band := by
    unfold State.reqPointPut
    repeat' split
    any_goals rfl
    dsimp only
    repeat' split
    all_goals rfl
  unfold State.reqSelect State.reqGet State.reqPointGet State.reqPointList State.reqRunStatus State.reqReadLine
    State.reqReadClear State.reqReadCounters State.reqStore State.reqReset
  refine ⟨?_, ?_, ?_, ?_, pointPut, ?_, ?_, ?_, ?_, ?_, fun k => ?_⟩ <;> repeat' split
  all_goals rfl

theorem bandKept_execute (code : Byte) (args : List Byte) (h : BandKept s) : BandKept (s.execute code args).state := by
  obtain ⟨hold, release, clear⟩ := bandKept_reqStation args h
  obtain ⟨start, suspend, resume, abort⟩ := bandKept_reqRun args h
  obtain ⟨pointDrop, setFeed⟩ := bandKept_reqFollowed args h
  obtain ⟨select, get, pointGet, pointList, pointPut, runStatus, readLine, readClear, readCounters, store, reset⟩ :=
    request_bands (s := s) args
  have same : ∀ r : Response, r.state.band = s.band → BandKept r.state := fun _ e => bandKept_of_band e h
  unfold State.execute
  split
  exacts [same _ select, same _ get, bandKept_reqPut args h, same _ pointGet, same _ pointList, same _ pointPut, pointDrop, hold,
    release, clear, start, suspend, resume, abort, same _ runStatus, setFeed, same _ readLine, same _ readClear, same _ readCounters,
    same _ store, same _ (reset .warm), same _ (reset .cold), h]

theorem bandKept_finish (r : Response) (b : Bool) (seq code : Byte) (h : BandKept r.state) : BandKept (r.finish b seq code) := by
  have placed := bandKept_of_band (placeReply_band
    { frame := answerFrame seq code r.status r.wrapped (r.detail r.state.fArbiter), isReset := r.isReset }) (bandKept_fArbiter h)
  exact bandKept_ite (bandKept_takeReset (bandKept_of_band (testNotice_band b) placed)) placed

theorem bandKept_request (b : Bool) (seq : Byte) (payload : List Byte) (h : BandKept s) : BandKept (s.request b seq payload) := by
  have executed : BandKept (s.respond payload).state := by
    unfold State.respond
    repeat' split
    exacts [h, h, h, bandKept_execute _ _ h]
  have noticed : BandKept ((s.respond payload).afterNotice s b).state := by
    unfold Response.afterNotice
    split
    · exact bandKept_of_band (s := (s.respond payload).state) rfl executed
    · exact executed
  have finished := bandKept_finish _ b seq (payload.headD 0) noticed
  exact bandKept_ite (bandKept_of_band (testNotice_band true) finished) finished

/-! ## Arrivals and the lines -/

theorem bandKept_arrive (p : Port) (f : Frame) (h : BandKept s) : BandKept (s.arrive p f) := by
  cases p with
  | f => exact bandKept_fArrival f (bandKept_of_band (setPort_band ..) h)
  | s =>
    have heard : BandKept ((s.endFrame .s).reloadSilence.endSilence) := bandKept_endSilence (bandKept_of_band (s := s) rfl h)
    have passed := bandKept_of_band (passDownFrame_band f) heard
    exact bandKept_ite (bandKept_ite (bandKept_request _ _ _ heard) (bandKept_of_band (receiveError_band ..) heard))
      (bandKept_ite (bandKept_alertArrival f heard) (bandKept_ite passed (bandKept_ite (bandKept_holdArrival f heard) passed)))

section
variable (p : Port)

theorem setAssembly_band (x : Assembly) : (s.setAssembly p x).band = s.band := setPort_band ..

theorem erred_band (x : Assembly) (e : ReceiveError) : ((s.setAssembly p x).receiveError p e).band = s.band :=
  (receiveError_band ..).trans (setAssembly_band p x)

theorem bandKept_takeCharacter (v : Byte) (marker stop : Bool) (h : BandKept s) : BandKept (s.takeCharacter p v marker stop) := by
  have mark : (s.takeMarker p v).band = s.band := by
    unfold State.takeMarker
    dsimp only
    repeat' split
    all_goals first | exact setAssembly_band p _ | exact erred_band p _ _
  have data : ∀ a d, BandKept (s.takeData p a d) := fun a d => by
    unfold State.takeData
    dsimp only
    repeat' split
    exacts [bandKept_of_band (erred_band p _ _) h, bandKept_arrive p _ h, bandKept_of_band (erred_band p _ _) h,
      bandKept_of_band (setAssembly_band p _) h]
  unfold State.takeCharacter
  repeat' split
  exacts [h, bandKept_of_band (erred_band p _ _) h, bandKept_of_band mark h, bandKept_of_band (receiveError_band ..) h, data _ _, h]

theorem gapTimeout_band : (s.gapTimeout p).band = s.band := by
  unfold State.gapTimeout
  split
  exacts [erred_band p _ _, rfl, rfl]

theorem takeBreak_band : (s.takeBreak p).band = s.band := band_ite rfl (band_ite (setPort_band ..) (setPort_band ..))

theorem endBreak_band : (s.endBreak p).band = s.band := band_ite (setPort_band ..) rfl

theorem quietExpires_band : (s.quietExpires p).band = s.band := band_ite (band_ite (setPort_band ..) (setPort_band ..)) rfl
end

/-! ## The transmitters, the timers and the memory -/

theorem bandKept_fLeaves (h : BandKept s) : BandKept s.fLeaves := by
  have freed : BandKept s.freeF := bandKept_of_band (s := s) rfl h
  unfold State.fLeaves
  split
  · exact h
  · dsimp only
    split
    · exact bandKept_injectionLeft _ freed
    · exact freed
    all_goals exact bandKept_ite (bandKept_of_band (snoop_band _) freed) freed

theorem bandKept_sLeaves (h : BandKept s) : BandKept s.sLeaves := by
  have freed : BandKept { s with wireS := none } := bandKept_of_band (s := s) rfl h
  unfold State.sLeaves
  split
  · exact h
  · dsimp only
    split
    · exact freed
    · exact bandKept_ite (bandKept_takeReset freed) freed
    · exact bandKept_of_band (s := s) rfl h

theorem bandKept_replyExpires (i : Nat) (h : BandKept s) : BandKept (s.replyExpires i) := by
  unfold State.replyExpires
  split
  · next r here => exact bandKept_ite (bandKept_settleFrom s (bandKept_timeOut here h)) h
  · exact h

theorem bandKept_closingExpires (i : Nat) (h : BandKept s) : BandKept (s.closingExpires i) := by
  unfold State.closingExpires
  split
  · exact bandKept_ite (bandKept_settle (bandKept_closeRecord i h)) h
  · exact h

theorem bandKept_repollExpires (i : Nat) (h : BandKept s) : BandKept (s.repollExpires i) := by
  unfold State.repollExpires
  split
  · next r here =>
    exact bandKept_ite (bandKept_makePoll i (bandKept_write i ((h.record here).closed rfl (.inr rfl) (.inr rfl)) h)) h
  · exact h

theorem bandKept_settleExpires (n : Nat) (h : BandKept s) : BandKept (s.settleExpires n) :=
  bandKept_ite (bandKept_settleFrom s (bandKept_of_band (setEntry_band ..) h)) h

theorem bandKept_sliceExpires (h : BandKept s) : BandKept s.sliceExpires := by
  refine bandKept_settle (bandKept_countWaits (bandKept_of_band (s := s) ?_ h))
  exact (testStale_band _).trans ((testStale_band _).trans (foldContributions_band.trans rfl))

theorem silenceExpires_band : s.silenceExpires.band = s.band := by
  unfold State.silenceExpires
  refine band_ite ?_ rfl
  dsimp only
  split
  · exact addCause_band _
  · rfl

theorem secondExpires_band : s.secondExpires.band = s.band := band_ite rfl rfl

theorem spacingExpires_band : s.spacingExpires.band = s.band := band_ite (band_ite rfl rfl) rfl

theorem storeEnds_band (agrees : Bool) : (s.storeEnds agrees).band = s.band := by
  unfold State.storeEnds
  split
  · rfl
  · exact band_ite rfl rfl

/-! ## Every command -/

theorem exec_keeps_band (c : Instr) (e : exec c s = .next t) (h : BandKept s) : BandKept t := by
  have closed : ∀ u, BandKept u → s.concluded u = .next t → BandKept t := fun u k e => by
    injection e with e
    exact e ▸ bandKept_close s k
  have same : ∀ u, u.band = s.band → s.concluded u = .next t → BandKept t := fun u k => closed u (bandKept_of_band k h)
  cases c
  case powerOnReset x =>
    injection e with e
    exact e ▸ bandKept_of_band (s := State.reset) rfl bandKept_reset
  case bridgeTimeIncrement =>
    injection e with e
    exact e ▸ bandKept_of_band (s := s) rfl h
  case configurationLoadEnd b => exact closed _ (bandKept_loadEnd b h) e
  case receiveCharacter p v m stop => exact closed _ (bandKept_takeCharacter p v m stop h) e
  case gapTimeout p => exact same _ (gapTimeout_band p) e
  case breakTaken p => exact same _ (takeBreak_band p) e
  case breakEnd p => exact same _ (endBreak_band p) e
  case quietTimerExpiry p => exact same _ (quietExpires_band p) e
  case fFrameArrival f => exact closed _ (bandKept_arrive .f f h) e
  case fTransmitComplete => exact closed _ (bandKept_fLeaves h) e
  case sTransmitComplete => exact closed _ (bandKept_sLeaves h) e
  case replyTimeout i => exact closed _ (bandKept_replyExpires i h) e
  case closingDeadlineExpiry i => exact closed _ (bandKept_closingExpires i h) e
  case repollWaitExpiry i => exact closed _ (bandKept_repollExpires i h) e
  case settleExpiry n => exact closed _ (bandKept_settleExpires n h) e
  case sliceExpiry => exact closed _ (bandKept_sliceExpires h) e
  case silenceTimerExpiry => exact same _ silenceExpires_band e
  case secondTimerExpiry => exact same _ secondExpires_band e
  case spacingTimerExpiry => exact same _ spacingExpires_band e
  case storeComplete b => exact same _ (storeEnds_band b) e
  all_goals exact closed _ (bandKept_arrive .s _ h) e

/-- Settles O6: the step is a command with the queue's rest, and every command keeps the injection seqs in their band. -/
theorem stepKeepsInjectionBand : Obligations.StepKeepsInjectionBand := by
  unfold Obligations.StepKeepsInjectionBand
  intro s t h e
  unfold step at e
  split at e
  · injection e with e
    exact e ▸ h
  · next c rest _ => exact exec_keeps_band c e (bandKept_of_band (s := s) rfl h)

end Sys2Proof.Machine
end

section
/-! SUPPORT. The members asked to drain at the end of a run (R114, R116), and an ABORT-RUN (R114). -/

namespace Sys2Proof.Machine

variable {s : State}

/-! ## The stations of the members that are asked to drain (R42, R43) -/

/-- What entering DRAINING makes of a station's record; `empty` says whether nothing is held for it. -/
def enteredRecord (empty : Bool) (r : StationRecord) : StationRecord :=
  if r.state = .held ∨ r.state = .restoring then
    if empty then { drainEndRecord { r with state := .draining } with member := false } else { r with state := .draining }
  else r

theorem enteredRecord_rest (empty : Bool) {r : StationRecord} (held : r.state ≠ .held) (restoring : r.state ≠ .restoring) :
    enteredRecord empty r = r := if_neg fun k => k.elim held restoring

theorem enteredRecord_state (empty : Bool) (r : StationRecord) :
    (enteredRecord empty r).state ≠ .held ∧ (enteredRecord empty r).state ≠ .restoring := by
  unfold enteredRecord drainEndRecord
  split
  · cases empty <;> cases r.faultPending <;> simp
  · next other => exact ⟨fun k => other (.inl k), fun k => other (.inr k)⟩

theorem enteredRecord_idem (empty : Bool) (r : StationRecord) :
    enteredRecord empty (enteredRecord empty r) = enteredRecord empty r :=
  enteredRecord_rest empty (enteredRecord_state empty r).1 (enteredRecord_state empty r).2

theorem enterDraining_station (a b : Nat) :
    (s.enterDraining a).station b = if a = b then enteredRecord (s.queue a).isEmpty (s.station a) else s.station b := by
  by_cases holding : (s.station a).state = .held ∨ (s.station a).state = .restoring
  · have valid : validStation a = true := by
      by_contra invalid
      rw [station_invalid (Bool.eq_false_iff.2 invalid)] at holding
      rcases holding with k | k <;> cases k
    obtain ⟨u, hu⟩ : ∃ u, u = s.updateStation a (fun r => { r with state := .draining }) := ⟨_, rfl⟩
    have record : ∀ b, u.station b = if a = b then { s.station a with state := .draining } else s.station b := fun b => by
      rw [hu, updateStation_station]
      by_cases same : a = b
      · subst same
        simp [valid]
      · simp [same]
    have queue : u.queue a = s.queue a := queue_congr (by rw [hu, updateStation_stations]) a
    unfold State.enterDraining State.checkDrain enteredRecord
    rw [if_pos (by simpa using holding), if_pos holding, ← hu, queue, record a, if_pos rfl]
    by_cases empty : (s.queue a).isEmpty = true
    · rw [if_pos (by simp [empty]), if_pos empty, drainEnd_eq, leaveRun_station, station_congr (drainOver_keeps a).1,
        updateStation_station]
      by_cases same : a = b
      · subst same
        simp [valid, record]
      · simp [same, record]
    · rw [if_neg (by simp [empty]), if_neg empty, record b]
  · simp only [not_or] at holding
    have still : s.enterDraining a = s := if_neg (by simp [holding.1, holding.2])
    rw [still, enteredRecord_rest _ holding.1 holding.2]
    split
    · next same => rw [same]
    · rfl

theorem enterDrainings_station (l : List Nat) (b : Nat) : (l.foldl State.enterDraining s).station b =
    if b ∈ l then enteredRecord (s.queue b).isEmpty (s.station b) else s.station b := by
  induction l generalizing s with
  | nil => simp
  | cons a l ih =>
    have queue : (s.enterDraining a).queue b = s.queue b := queue_congr (congrArg State.queues (enterDraining_core s a) :) b
    rw [List.foldl_cons, ih, queue, enterDraining_station]
    by_cases same : a = b
    · subst same
      simp [enteredRecord_idem]
    · simp [same, Ne.symm same]

theorem station_member_valid {a : Nat} (h : (s.station a).member = true) : validStation a = true := by
  by_contra invalid
  rw [station_invalid (Bool.eq_false_iff.2 invalid)] at h
  cases h

/-- The end of a run asks each member to drain and leaves none. -/
theorem drainMembers_station (a : Nat) : s.drainMembers.station a =
    { (if (s.station a).member then enteredRecord (s.queue a).isEmpty (s.station a) else s.station a) with member := false } := by
  have cleared : s.drainMembers.station a =
      { ((stationNumbers.filter fun a => (s.station a).member).foldl State.enterDraining s).station a with member := false } := by
    cases a with
    | zero => rfl
    | succ k => exact getAt_mapTable _ (fun r : StationRecord => { r with member := false }) k .default
  have member : (a ∈ stationNumbers.filter fun a => (s.station a).member) ↔ (s.station a).member = true := by
    rw [List.mem_filter, mem_stationNumbers]
    exact ⟨fun k => k.2, fun k => ⟨station_member_valid k, k⟩⟩
  rw [cleared, enterDrainings_station]
  simp only [member]

/-! ## Members whose steps rest -/

/-- No used step is PENDING, AWAITING or ISSUED: at a drain's end there is no step to take back (R46). -/
def State.StepsRest (s : State) : Prop :=
  ∀ n, (s.step n).used = true → (s.entry n).state ≠ .pending ∧ (s.entry n).state ≠ .awaiting ∧ (s.entry n).state ≠ .issued

/-- `t` has the plan, the step entries, the records and the contributions of `s`. -/
structure SameSteps (s t : State) : Prop where
  plan          : t.plan = s.plan
  entries       : t.entries = s.entries
  slots         : t.slots = s.slots
  contributions : t.contributions = s.contributions

theorem SameSteps.rfl' (s : State) : SameSteps s s := ⟨rfl, rfl, rfl, rfl⟩

theorem SameSteps.trans {t u : State} (h : SameSteps s t) (k : SameSteps t u) : SameSteps s u :=
  ⟨k.plan.trans h.plan, k.entries.trans h.entries, k.slots.trans h.slots, k.contributions.trans h.contributions⟩

theorem SameSteps.rest {t : State} (h : SameSteps s t) (rest : s.StepsRest) : t.StepsRest := fun n used => by
  rw [entry_congr h.entries]
  refine rest n ?_
  have step : t.step n = s.step n := by simp [State.step, h.plan]
  exact step ▸ used

theorem sameSteps_updateStation (a : Nat) (g : StationRecord → StationRecord) : SameSteps s (s.updateStation a g) :=
  ⟨updateStation_plan .., updateStation_entries .., updateStation_slots .., by simp⟩

theorem leaveStep_rest {a n : Nat} (rest : s.StepsRest) (used : (s.step n).used = true) : State.leaveStep a true s n = s := by
  obtain ⟨pending, awaiting, issued⟩ := rest n used
  unfold State.leaveStep
  split
  · next k => exact absurd k pending
  · next k => exact absurd k awaiting
  · next k => exact absurd k issued
  · rfl
  · rfl

theorem leaveRun_rest (a : Nat) (rest : s.StepsRest) : SameSteps s (s.leaveRun a true) := by
  have left := sameSteps_updateStation (s := s) a fun r => { r with member := false }
  unfold State.leaveRun State.leaveSteps
  dsimp only
  split
  · refine foldl_kept (SameSteps s) _ _ (fun t n mem same => ?_) _ left
    have used : (t.step n).used = true := by
      have own := (List.mem_filter.1 mem).2
      simp only [Bool.and_eq_true] at own
      simpa [State.step, same.plan, left.plan] using own.1
    rw [leaveStep_rest (same.rest rest) used]
    exact same
  · exact left

theorem enterDraining_rest (a : Nat) (rest : s.StepsRest) : SameSteps s (s.enterDraining a) := by
  have moved := sameSteps_updateStation (s := s) a fun r => { r with state := .draining }
  unfold State.enterDraining
  split
  · refine moved.trans ?_
    unfold State.checkDrain
    split
    · have ended : ∀ t : State, SameSteps t (t.drainOver a) := fun t => by
        unfold State.drainOver
        split
        · exact (sameSteps_updateStation a _).trans ⟨rfl, rfl, rfl, rfl⟩
        · exact sameSteps_updateStation a _
      rw [drainEnd_eq]
      exact (ended _).trans (leaveRun_rest a ((moved.trans (ended _)).rest rest))
    · exact .rfl' _
  · exact .rfl' s

theorem drainMembers_rest (rest : s.StepsRest) : SameSteps s s.drainMembers :=
  (foldl_kept (SameSteps s) _ _ (fun _ a _ same => same.trans (enterDraining_rest a (same.rest rest))) s (.rfl' s)).trans
    ⟨rfl, rfl, rfl, rfl⟩

/-! ## The steps of an aborted run (R114) -/

theorem stepState_used {n : Nat} (used : (s.step n).used = true) : s.stepState n = (s.entry n).state := if_pos used

theorem abortStep_unused {n : Nat} (unused : (s.step n).used ≠ true) : s.abortStep n = s := by
  have idle : s.stepState n = .idle := if_neg unused
  unfold State.abortStep
  rw [idle]

/-- An abort makes of a used step's entry what the leaving of membership makes of it. -/
theorem abortStep_entry (n m : Nat) : (s.abortStep n).entry m =
    if n = m ∧ (s.step n).used = true then leftEntry false (s.entry n) else s.entry m := by
  by_cases used : (s.step n).used = true
  · have lt := step_used_lt used
    have written : ∀ e, (s.setEntry n e).entry m = if n = m then e else s.entry m := fun e => by
      rw [setEntry_entry]
      exact if_congr ⟨fun k => k.1, fun k => ⟨k, k ▸ lt⟩⟩ rfl rfl
    have skips := written { s.entry n with state := .skipped }
    have rests : s.entry m = if n = m then s.entry n else s.entry m := by
      split
      · next same => rw [same]
      · rfl
    simp only [used, and_true]
    unfold State.abortStep leftEntry
    rw [stepState_used used]
    cases state : (s.entry n).state
    case pending | awaiting | issued => exact skips
    case settling => exact written _
    all_goals exact rests
  · rw [abortStep_unused used, if_neg fun k => used k.2]

theorem leftEntry_terminal (d : Bool) {e : StepEntry} (finished : e.state.terminal = true) : leftEntry d e = e := by
  unfold leftEntry
  cases state : e.state <;> simp_all [StepState.terminal]

theorem leftEntry_keeps (d : Bool) (e : StepEntry) : (leftEntry d e).cause = e.cause ∧ (leftEntry d e).attempts = e.attempts := by
  unfold leftEntry
  cases e.state <;> cases d <;> exact ⟨rfl, rfl⟩

theorem leftEntry_unissued (e : StepEntry) : (leftEntry false e).state ≠ .issued := by
  unfold leftEntry
  cases state : e.state <;> simp [state]

/-- A contribution after the abort of the steps of `l`: the clock of a step that was ISSUED runs. -/
def State.abortClock (s : State) (l : List Nat) (c : Contribution) : Contribution :=
  if c.step ∈ l ∧ (s.step c.step).used = true ∧ (s.entry c.step).state = .issued then { c with running := true } else c

theorem abortStep_contributions (n : Nat) : (s.abortStep n).contributions = s.contributions.map (s.abortClock [n]) := by
  by_cases issued : (s.step n).used = true ∧ (s.entry n).state = .issued
  · have clocked : (s.abortStep n).contributions = ((s.setStepState n .skipped).startClock n).contributions := by
      unfold State.abortStep
      rw [stepState_used issued.1, issued.2]
    rw [clocked]
    unfold State.startClock
    rw [setStepState_contributions]
    refine List.map_congr_left fun c _ => ?_
    unfold State.abortClock
    by_cases same : c.step = n
    · cases running : c.running <;> cases c <;> simp_all
    · simp [same]
  · have still : (s.abortStep n).contributions = s.contributions := by
      unfold State.abortStep
      split
      · exact setStepState_contributions ..
      · exact setStepState_contributions ..
      · next now =>
        refine absurd ⟨?_, stepState_entry now (by decide)⟩ issued
        by_contra unused
        rw [State.stepState, if_neg unused] at now
        cases now
      · exact setEntry_contributions ..
      · rfl
    rw [still]
    refine ((List.map_congr_left fun c _ => if_neg fun k => issued ?_).trans (List.map_id _)).symm
    obtain ⟨mem, now⟩ := k
    exact List.mem_singleton.1 mem ▸ now

theorem abortStep_plan (n : Nat) : (s.abortStep n).plan = s.plan := (congrArg State.plan (abortStep_core s n) :)

theorem abortSteps_entry (l : List Nat) (m : Nat) : (l.foldl State.abortStep s).entry m =
    if m ∈ l ∧ (s.step m).used = true then leftEntry false (s.entry m) else s.entry m := by
  induction l generalizing s with
  | nil => simp
  | cons n l ih =>
    have step : (s.abortStep n).step m = s.step m := by simp [State.step, abortStep_plan]
    rw [List.foldl_cons, ih, step, abortStep_entry]
    by_cases same : n = m
    · subst same
      by_cases used : (s.step n).used = true <;> simp [used, leftEntry_idem]
    · simp [same, Ne.symm same]

theorem abortSteps_contributions (l : List Nat) :
    (l.foldl State.abortStep s).contributions = s.contributions.map (s.abortClock l) := by
  induction l generalizing s with
  | nil => exact ((List.map_congr_left fun c _ => if_neg (by simp)).trans (List.map_id _)).symm
  | cons n l ih =>
    rw [List.foldl_cons, ih, abortStep_contributions, List.map_map]
    refine List.map_congr_left fun c _ => ?_
    have step : (s.abortStep n).step c.step = s.step c.step := by simp [State.step, abortStep_plan]
    have same : (s.abortClock [n] c).step = c.step := by
      unfold State.abortClock
      split <;> rfl
    show (s.abortStep n).abortClock l (s.abortClock [n] c) = s.abortClock (n :: l) c
    rw [State.abortClock, same, step, abortStep_entry]
    unfold State.abortClock
    by_cases own : n = c.step
    · subst own
      by_cases used : (s.step c.step).used = true
      · simp [used, leftEntry_unissued]
      · simp [used]
    · simp [own, Ne.symm own]

/-! ## The records, the stations and the run of an aborted run (R114) -/

theorem cancelled_idem (o : Option InjectionRecord) : cancelled (cancelled o) = cancelled o := by
  unfold cancelled
  cases o with
  | none => rfl
  | some r => cases closing : r.closing <;> cases out : r.outstanding.isSome <;> simp [closing, out]

theorem cancelled_closing {o : Option InjectionRecord} {r : InjectionRecord} (h : cancelled o = some r) : r.closing = true := by
  unfold cancelled at h
  repeat' split at h
  all_goals cases h
  · assumption
  · rfl

theorem cancelRecords_slot (l : List Nat) (i : Nat) :
    (l.foldl State.cancelRecord s).slot i = if i ∈ l then cancelled (s.slot i) else s.slot i := by
  induction l generalizing s with
  | nil => simp
  | cons j l ih =>
    rw [List.foldl_cons, ih, cancelRecord_slot]
    by_cases same : j = i
    · simp [same, cancelled_idem]
    · simp [same, Ne.symm same]

theorem cancelRecords_keep {α : Type} (g : State → α) (h : ∀ (t : State) i r, g (t.setSlot i r) = g t) (l : List Nat) :
    g (l.foldl State.cancelRecord s) = g s := by
  refine foldl_keeps g _ (fun t i => ?_) l s
  rw [cancelRecord_eq]
  split
  · exact h ..
  · rfl

theorem abortSteps_keep {α : Type} (g : State → α) (written : ∀ (t : State) n e, g (t.setEntry n e) = g t)
    (clocked : ∀ (t : State) n, g (t.startClock n) = g t) (l : List Nat) : g (l.foldl State.abortStep s) = g s := by
  refine foldl_keeps g _ (fun t n => ?_) l s
  unfold State.abortStep
  split
  exacts [written .., written .., (clocked ..).trans (written ..), written .., rfl]

/-- An aborted run before its members are asked to drain: its steps SKIPPED, its records closing. -/
def State.stopped (s : State) : State := slotNumbers.foldl State.cancelRecord (stepNumbers.foldl State.abortStep s)

theorem abortRun_eq : s.abortRun = s.stopped.drainMembers.closeRun .aborted := rfl

theorem stopped_core : s.stopped.core = s.core :=
  (foldl_keeps State.core _ cancelRecord_core _ _).trans (foldl_keeps State.core _ abortStep_core _ _)

theorem stopped_entry (n : Nat) :
    s.stopped.entry n = if (s.step n).used = true then leftEntry false (s.entry n) else s.entry n := by
  rw [State.stopped, entry_congr (cancelRecords_keep State.entries (fun _ _ _ => rfl) _), abortSteps_entry]
  by_cases used : (s.step n).used = true
  · have lt := step_used_lt used
    simp [used, stepNumbers, lt]
  · simp [used]

theorem stopped_step (n : Nat) : s.stopped.step n = s.step n := by
  have plan : s.stopped.plan = s.plan := (congrArg State.plan (stopped_core (s := s)) :)
  simp [State.step, plan]

theorem stopped_rest : s.stopped.StepsRest := fun n used => by
  rw [stopped_step] at used
  rw [stopped_entry, if_pos used]
  unfold leftEntry
  cases state : (s.entry n).state <;> simp [state]

theorem stopped_stations : s.stopped.stations = s.stations :=
  (cancelRecords_keep State.stations (fun _ _ _ => rfl) _).trans
    (abortSteps_keep State.stations (fun _ _ _ => setEntry_stations ..) (fun _ _ => rfl) _)

theorem abortRun_entry (n : Nat) :
    s.abortRun.entry n = if (s.step n).used = true then leftEntry false (s.entry n) else s.entry n := by
  rw [← stopped_entry]
  exact entry_congr (drainMembers_rest stopped_rest).entries n

theorem abortRun_contributions : s.abortRun.contributions = s.contributions.map (fun c =>
    if (s.step c.step).used = true ∧ (s.entry c.step).state = .issued then { c with running := true } else c) := by
  refine ((drainMembers_rest stopped_rest).contributions.trans (cancelRecords_keep State.contributions (fun _ _ _ => rfl) _)).trans ?_
  rw [abortSteps_contributions]
  refine List.map_congr_left fun c _ => if_congr ⟨fun k => k.2, fun k => ⟨?_, k⟩⟩ rfl rfl
  simpa [stepNumbers] using step_used_lt k.1

theorem abortRun_slot_closing {i : Nat} {r : InjectionRecord} (h : s.abortRun.slot i = some r) : r.closing = true := by
  have lt := slot_lt h
  have cancels : s.abortRun.slot i = cancelled ((stepNumbers.foldl State.abortStep s).slot i) := by
    refine (slot_congr (drainMembers_rest stopped_rest).slots i).trans ((cancelRecords_slot ..).trans (if_pos ?_))
    simpa [slotNumbers] using lt
  exact cancelled_closing (cancels.symm.trans h)

theorem abortRun_station (a : Nat) : s.abortRun.station a =
    { (if (s.station a).member then enteredRecord (s.queue a).isEmpty (s.station a) else s.station a) with member := false } := by
  have queue : s.stopped.queue a = s.queue a := queue_congr (congrArg State.queues (stopped_core (s := s)) :) a
  refine (drainMembers_station (s := s.stopped) a).trans ?_
  rw [station_congr stopped_stations, queue]

theorem drainMembers_run : s.drainMembers.run = s.run :=
  foldl_keeps State.run _ (fun t a => enterDraining_run (s := t) a) _ s

theorem abortRun_run : s.abortRun.run =
    { s.run with inProgress := false, halting := none, causes := .empty, lastOutcome := .aborted } := by
  have run : s.stopped.drainMembers.run = s.run := drainMembers_run.trans
    ((cancelRecords_keep State.run (fun _ _ _ => rfl) _).trans
      (abortSteps_keep State.run (fun _ _ _ => setEntry_run ..) (fun _ _ => rfl) _))
  show { s.stopped.drainMembers.run with inProgress := false, halting := none, causes := .empty, lastOutcome := .aborted } = _
  rw [run]

/-! ## The request -/

/-- The detail of the ANSWER to an ABORT-RUN (R114). -/
def abortData (t : State) : List Byte := [t.runState.code, t.run.lastOutcome.code]

theorem runState_idle (idle : s.run.inProgress = false) : s.runState = .idle := by simp [State.runState, idle]

theorem reqAbort_idle (idle : s.run.inProgress = false) : s.reqAbort [] = s.answerDone abortData := by
  simp only [State.reqAbort, idle]
  rfl

theorem reqAbort_runs (runs : s.run.inProgress = true) : s.reqAbort [] = s.abortRun.answerDone abortData := by
  simp only [State.reqAbort, runs]
  rfl

theorem abortData_idle (idle : s.run.inProgress = false) : abortData s = [0, s.run.lastOutcome.code] := by
  unfold abortData
  rw [runState_idle idle]
  rfl

/-- An ABORT-RUN of a run in progress: the run aborted, and its ANSWER. -/
theorem abortRun_effect (h : Ready s) (busy : s.FBusy) (seq : Byte) (runs : s.run.inProgress = true) :
    ∃ v, exec (.abortRun seq []) s = .next (s.heard.abortRun.upward v)
      ∧ (s.SBusy → v.replies = s.replies ++ [{ frame := answerFrame seq 27 .done false [0, 3], isReset := false }]) := by
  obtain ⟨x, hx⟩ : ∃ x, x = s.heard.abortRun := ⟨_, rfl⟩
  have core : x.core = s.heard.core := hx ▸ abortRun_core s.heard
  have run : x.run = { s.run with inProgress := false, halting := none, causes := .empty, lastOutcome := .aborted } :=
    hx ▸ abortRun_run
  have response : s.heard.execute 27 [] = x.answerDone abortData := hx ▸ reqAbort_runs (s := s.heard) runs
  have wireF : x.wireF = s.wireF := (congrArg State.wireF core :)
  have wireS : x.wireS = s.wireS := (congrArg State.wireS core :)
  obtain ⟨v, done, answer⟩ := concluded_upward h seq 27 [] _ response
    (.inl (by show x.wireF.isSome = true; rw [wireF]; exact busy)) rfl (congrArg State.replies core :)
  refine ⟨v, hx ▸ done, fun sends => (answer (by show x.wireS.isSome = true; rw [wireS]; exact sends)).trans ?_⟩
  have data : abortData x = [0, 3] := by
    rw [abortData_idle (by rw [run]), run]
    rfl
  show s.replies ++ [{ frame := answerFrame seq 27 .done false (abortData x), isReset := false }] = _
  rw [data]

/-- Settles O59: the steps, the records, the members and the run of an aborted run, each by its rule. -/
theorem abortEndsTheRun : Obligations.AbortEndsTheRun := by
  unfold Obligations.AbortEndsTheRun
  refine fun s seq h busy => ⟨fun idle => ?idle, fun runs => ?aborted⟩
  case idle =>
    refine (concluded_ready h seq 27 [] _ (reqAbort_idle (s := s.heard) idle)
      (FQuiet_congr (.inl busy) rfl rfl rfl rfl rfl rfl rfl rfl) rfl rfl rfl rfl).trans ?_
    show Host.Outcome.next (s.answered seq 27 .done false (abortData s.heard)).sArbiter = _
    rw [abortData_idle (s := s.heard) idle]
    rfl
  case aborted =>
    obtain ⟨v, done, answer⟩ := abortRun_effect h busy seq runs
    obtain ⟨x, hx⟩ : ∃ x, x = s.heard.abortRun := ⟨_, rfl⟩
    rw [← hx] at done
    have core : x.core = s.heard.core := hx ▸ abortRun_core s.heard
    have entry : ∀ n, (x.upward v).entry n = if (s.step n).used = true then leftEntry false (s.entry n) else s.entry n := fun n =>
      (entry_congr rfl n).trans (hx ▸ abortRun_entry n)
    have station : ∀ a, (x.upward v).station a =
        { (if (s.station a).member then enteredRecord (s.queue a).isEmpty (s.station a) else s.station a) with member := false } :=
      fun a => by
        rw [show (x.upward v).station a = x.station a from station_congr rfl a, hx, abortRun_station,
          show s.heard.station a = s.station a from station_congr rfl a, show s.heard.queue a = s.queue a from queue_congr rfl a]
    refine ⟨x.upward v, done, (untouched_of_core core).trans (untouched_upward x v), hx ▸ abortRun_run,
      fun n used moved unfinished => ?skipped, fun n finished => ?finished, hx ▸ abortRun_contributions,
      fun i r here => abortRun_slot_closing (s := s.heard) (hx ▸ here), fun a => ?member, fun a => ?stations,
      hx ▸ raise_isPending _ _, (congrArg State.counters core :), (congrArg State.queues core :), answer⟩
    case skipped =>
      rw [entry, if_pos used]
      exact ⟨leftEntry_skipped moved unfinished, leftEntry_keeps _ _⟩
    case finished =>
      rw [entry]
      split
      · exact leftEntry_terminal false finished
      · rfl
    case member => rw [station]
    case stations =>
      rw [station]
      refine ⟨fun member holding held => ?drains, fun member holding empty clear => ?online, fun out => ?out⟩
      case drains =>
        rw [if_pos member]
        simp [enteredRecord, holding, held]
      case online =>
        rw [if_pos member]
        simp [enteredRecord, holding, empty, drainEndRecord, clear]
      case out =>
        split
        · next member =>
          obtain ⟨held, restoring⟩ := out.resolve_left (by simp [member])
          rw [enteredRecord_rest _ held restoring]
        · rfl

end Sys2Proof.Machine
end

section
/-! SUPPORT. SUSPEND-RUN and RESUME-RUN (R112, R113). -/

namespace Sys2Proof.Machine

variable {s : State}

/-- The detail of the ANSWER to a SUSPEND-RUN and a RESUME-RUN (R112, R113). -/
def runStateData (t : State) : List Byte := [t.runState.code]

theorem runState_runs (runs : s.run.inProgress = true) : s.runState =
    if s.run.halting.isSome then .halted else if s.run.causes ≠ .empty then .suspended else .running := by
  simp [State.runState, runs]

/-! ## SUSPEND-RUN (R104, R112) -/

/-- `s` with MANAGEMENT among its suspension causes (R104). -/
def State.managed (s : State) : State := s.addCause fun c => { c with management := true }

theorem reqSuspend_eq : s.reqSuspend [] = s.managed.answerDone runStateData := rfl

theorem managed_idle (idle : s.run.inProgress = false) : s.managed = s := by simp [State.managed, State.addCause, idle]

/-- A cause added to a run in progress is written, and from an empty set raises "suspended"; nothing else is written. -/
theorem managed_runs (runs : s.run.inProgress = true) : s.managed =
    { s with
      run := { s.run with causes := { s.run.causes with management := true } }
      noticePending := if s.run.causes = .empty then (s.raise .suspended).noticePending else s.noticePending } := by
  unfold State.managed State.addCause
  rw [if_pos runs]
  by_cases empty : s.run.causes = .empty
  · rw [if_pos empty]
    simp only [if_pos empty]
    rfl
  · rw [if_neg empty]
    simp only [if_neg empty]

theorem managed_isPending (runs : s.run.inProgress = true) (empty : s.run.causes = .empty) :
    s.managed.isPending .suspended = true := by
  unfold State.managed State.addCause
  rw [if_pos runs]
  dsimp only
  rw [if_pos empty]
  exact raise_isPending _ _

theorem runStateData_managed (runs : s.run.inProgress = true) :
    runStateData s.managed = [if s.run.halting.isSome then 3 else 2] := by
  have run : s.managed.run = { s.run with causes := { s.run.causes with management := true } } := by rw [managed_runs runs]
  unfold runStateData
  rw [runState_runs (by rw [run]; exact runs), run]
  cases s.run.halting <;> rfl

/-! ## RESUME-RUN (R113) -/

/-- There is a halt, or a cause that a RESUME-RUN removes. -/
def State.resumable (s : State) : Bool := s.run.halting.isSome || s.run.causes.management || s.run.causes.alert

/-- `s` with the causes MANAGEMENT and ALERT removed and the halt cleared (R113). -/
def State.resumed (s : State) : State :=
  { s with run := { s.run with halting := none, causes := { s.run.causes with management := false, alert := false } } }

theorem reqResume_eq : s.reqResume [] =
    if s.run.inProgress && s.resumable then s.resumed.settle.answerDone runStateData else s.refuseFor .notSuspended := rfl

theorem resumed_core : s.resumed.core = s.core := rfl

/-- A resumed run that goes on, or ends, is not halted and has neither cause. -/
theorem resumed_settle_run : s.resumed.settle.run.halting = none ∧ s.resumed.settle.run.causes.management = false
    ∧ s.resumed.settle.run.causes.alert = false := by
  rcases followUp_ends (s := s.resumed) true with run | ⟨halting, causes, -⟩
  · have run : s.resumed.settle.run = s.resumed.run := run
    rw [run]
    exact ⟨rfl, rfl, rfl⟩
  · have causes : s.resumed.settle.run.causes = .empty := causes
    rw [causes]
    exact ⟨halting, rfl, rfl⟩

/-- Settles O58: a cause added to the run in progress; the causes removed, the halt cleared, and the follow-up. -/
theorem suspendAndResumeRun : Obligations.SuspendAndResumeRun := by
  unfold Obligations.SuspendAndResumeRun
  refine fun s seq h busy => ⟨fun runs => ?suspend, fun idle => ?idle, fun nothing => ?refused, fun runs something => ?resume⟩
  case suspend =>
    obtain ⟨x, hx⟩ : ∃ x, x = s.heard.managed := ⟨_, rfl⟩
    have shape := hx.trans (managed_runs (s := s.heard) runs)
    obtain ⟨v, done, answer⟩ := concluded_upward h seq 25 [] _ (hx ▸ reqSuspend_eq (s := s.heard) : s.heard.execute 25 [] = _)
      (.inl (by show x.wireF.isSome = true; rw [shape]; exact busy)) rfl (by show x.replies = _; rw [shape]; rfl)
    have left : Untouched s.heard x := by
      rw [shape]
      exact untouched_of_core rfl
    refine ⟨x.upward v, done, left.trans (untouched_upward x v), (congrArg State.run shape :),
      fun empty => hx ▸ managed_isPending (s := s.heard) runs empty, (congrArg State.stations shape :), (congrArg State.entries shape :),
      (congrArg State.slots shape :), (congrArg State.contributions shape :), (congrArg State.counters shape :), fun sends => ?_⟩
    refine (answer (by show x.wireS.isSome = true; rw [shape]; exact sends)).trans ?_
    show s.replies ++ [{ frame := answerFrame seq 25 .done false (runStateData x), isReset := false }] = _
    rw [hx, runStateData_managed (s := s.heard) runs]
    rfl
  case idle =>
    have response : s.heard.execute 25 [] = s.heard.answerDone runStateData := by
      refine (reqSuspend_eq (s := s.heard)).trans ?_
      rw [managed_idle (s := s.heard) idle]
    refine (concluded_ready h seq 25 [] _ response (FQuiet_congr (.inl busy) rfl rfl rfl rfl rfl rfl rfl rfl) rfl rfl rfl rfl).trans ?_
    show Host.Outcome.next (s.answered seq 25 .done false [s.heard.runState.code]).sArbiter = _
    rw [runState_idle (s := s.heard) idle]
    rfl
  case refused =>
    refine concluded_refused h (.inl busy) seq 26 [] .notSuspended ((reqResume_eq (s := s.heard)).trans (if_neg fun both => ?_))
    obtain ⟨runs, resumable⟩ := Bool.and_eq_true_iff.1 both
    rcases nothing with idle | ⟨halting, management, alert⟩
    · exact Bool.noConfusion (idle.symm.trans runs)
    · have resumable : s.resumable = true := resumable
      simp [State.resumable, halting, management, alert] at resumable
  case resume =>
    obtain ⟨x, hx⟩ : ∃ x, x = s.heard.resumed.settle := ⟨_, rfl⟩
    have core : x.core = s.heard.core := hx ▸ (settle_core _).trans resumed_core
    have resumable : s.resumable = true := by
      unfold State.resumable
      rcases something with k | k | k <;> simp [k]
    have response : s.heard.execute 26 [] = x.answerDone runStateData :=
      hx ▸ (reqResume_eq (s := s.heard)).trans (if_pos (Bool.and_eq_true_iff.2 ⟨runs, resumable⟩))
    have wireF : x.wireF = s.wireF := (congrArg State.wireF core :)
    have wireS : x.wireS = s.wireS := (congrArg State.wireS core :)
    obtain ⟨v, done, answer⟩ := concluded_upward h seq 26 [] _ response
      (.inl (by show x.wireF.isSome = true; rw [wireF]; exact busy)) rfl (congrArg State.replies core :)
    have fixed : x.run.fixed = s.run.fixed := (congrArg State.run core :)
    obtain ⟨-, number, time, -⟩ := RunRecord.mk.inj fixed
    obtain ⟨halting, management, alert⟩ : x.run.halting = none ∧ x.run.causes.management = false ∧ x.run.causes.alert = false :=
      hx ▸ resumed_settle_run
    have entry : ∀ n, (s.entry n).state.terminal = true → (x.upward v).entry n = s.entry n := fun n finished =>
      (entry_congr rfl n).trans (hx ▸ (follows_settle s.heard.resumed).terminal n finished)
    exact ⟨x.upward v, done, (untouched_of_core core).trans (untouched_upward x v), halting, management, alert, number, time,
      (congrArg State.counters core :), (congrArg State.queues core :), entry,
      fun sends => answer (by show x.wireS.isSome = true; rw [wireS]; exact sends)⟩

end Sys2Proof.Machine
end

section
/-! SUPPORT. The run end test (R115) and what the end of a run leaves (R116), after each event of the Run Engine. -/

namespace Sys2Proof.Machine

variable {s t : State}

/-! ## The run end test -/

theorem inFlight_iff : s.inFlight = true ↔ (∃ n, s.stepState n = .awaiting ∨ s.stepState n = .issued ∨ s.stepState n = .settling)
    ∨ ∃ i r, s.slot i = some r ∧ r.closing = false := by
  have steps : (stepNumbers.any fun n => s.stepState n = .awaiting || s.stepState n = .issued || s.stepState n = .settling) = true
      ↔ ∃ n, s.stepState n = .awaiting ∨ s.stepState n = .issued ∨ s.stepState n = .settling := by
    simp only [List.any_eq_true, Bool.or_eq_true, decide_eq_true_eq, or_assoc]
    refine ⟨fun ⟨n, _, k⟩ => ⟨n, k⟩, fun ⟨n, k⟩ => ⟨n, ?_, k⟩⟩
    have used : (s.step n).used = true := by
      by_contra unused
      simp [State.stepState, unused] at k
    simpa [stepNumbers] using step_used_lt used
  have slots : (slotNumbers.any fun i => match s.slot i with | some r => !r.closing | none => false) = true
      ↔ ∃ i r, s.slot i = some r ∧ r.closing = false := by
    rw [List.any_eq_true]
    refine ⟨fun ⟨i, _, k⟩ => ?_, fun ⟨i, r, here, k⟩ => ⟨i, by simpa [slotNumbers] using slot_lt here, by simp [here, k]⟩⟩
    split at k
    · next r here => exact ⟨i, r, here, by simpa using k⟩
    · cases k
  unfold State.inFlight
  rw [Bool.or_eq_true]
  exact or_congr steps slots

theorem membersFinished_false (h : s.membersFinished = false) :
    ∃ n, (s.step n).used = true ∧ (s.station (s.step n).station).member = true ∧ (s.entry n).state.terminal = false := by
  obtain ⟨n, -, k⟩ := List.all_eq_false.1 h
  exact ⟨n, by simpa [and_assoc] using k⟩

/-- A run in progress whose end condition fails (R115). -/
def State.GoesOn (s : State) : Prop := s.run.inProgress = true ∧ (s.inFlight = true ∨ s.membersFinished = false)

/-- A run that has ended by the run end test (R116). -/
structure State.RunOver (s : State) : Prop where
  idle     : s.run.inProgress = false
  halting  : s.run.halting = none
  causes   : s.run.causes = .empty
  failed   : (∃ n, s.stepState n = .failed) → s.run.lastOutcome = .completeWithFailures
  complete : (∀ n, s.stepState n ≠ .failed) → s.run.lastOutcome = .complete
  landed   : s.inFlight = false
  ended    : s.isPending .ended = true
  members  : ∀ a, (s.station a).member = false

/-- The record of a run that is over, its number and start time being those of a run before. -/
theorem State.RunOver.run (h : t.RunOver) (fixed : t.run.fixed = s.run.fixed) :
    t.run = { s.run with inProgress := false, halting := none, causes := .empty, lastOutcome := t.run.lastOutcome } := by
  obtain ⟨-, number, time, -⟩ := RunRecord.mk.inj fixed
  rw [RunRecord.mk.injEq]
  exact ⟨h.idle, number, time, h.halting, h.causes, rfl⟩

/-! ## The end of a run -/

/-- From `s` to `t` each step keeps its state, or is SKIPPED and had not failed. -/
def SkipsOnly (s t : State) : Prop :=
  ∀ n, (t.entry n).state = (s.entry n).state ∨ ((t.entry n).state = .skipped ∧ (s.entry n).state ≠ .failed)

theorem SkipsOnly.trans {u : State} (h : SkipsOnly s t) (k : SkipsOnly t u) : SkipsOnly s u := fun n => by
  rcases k n with same | ⟨skipped, unfailed⟩
  · rw [same]
    exact h n
  · refine .inr ⟨skipped, fun failed => ?_⟩
    rcases h n with same | ⟨-, other⟩
    · exact unfailed (same.trans failed)
    · exact other failed

theorem skipsOnly_of_same (h : t.entries = s.entries) : SkipsOnly s t := fun n => .inl (by rw [entry_congr h])

theorem leftEntry_skips (d : Bool) (e : StepEntry) :
    (leftEntry d e).state = e.state ∨ ((leftEntry d e).state = .skipped ∧ e.state ≠ .failed) := by
  unfold leftEntry
  cases state : e.state <;> cases d <;> simp [state]

theorem skipsOnly_leaveRun (a : Nat) (d : Bool) : SkipsOnly s (s.leaveRun a d) := by
  have left := skipsOnly_of_same (updateStation_entries s a fun r => { r with member := false })
  unfold State.leaveRun
  dsimp only
  split
  · refine left.trans fun n => ?_
    rw [State.leaveSteps, leaveSteps_entry]
    split
    · exact leftEntry_skips d _
    · exact .inl rfl
  · exact left

theorem skipsOnly_enterDraining (a : Nat) : SkipsOnly s (s.enterDraining a) := by
  have moved := skipsOnly_of_same (updateStation_entries s a fun r => { r with state := .draining })
  unfold State.enterDraining
  split
  · refine moved.trans ?_
    unfold State.checkDrain
    split
    · rw [drainEnd_eq]
      exact (skipsOnly_of_same (drainOver_keeps a).2.1).trans (skipsOnly_leaveRun a true)
    · exact skipsOnly_of_same rfl
  · exact skipsOnly_of_same rfl

theorem skipsOnly_drainMembers : SkipsOnly s s.drainMembers :=
  (foldl_kept (SkipsOnly s) _ _ (fun _ a _ reached => reached.trans (skipsOnly_enterDraining a)) s (skipsOnly_of_same rfl)).trans
    (skipsOnly_of_same rfl)

/-- What the end of a run does to the states of the used steps. -/
theorem endRun_stepState (n : Nat) : s.endRun.stepState n = s.stepState n
    ∨ (s.endRun.stepState n = .skipped ∧ s.stepState n ≠ .failed) := by
  have plan : s.endRun.plan = s.plan := plan_of_core (endRun_core s)
  unfold State.stepState
  rw [step_of_plan plan]
  split
  · exact skipsOnly_drainMembers n
  · exact .inl rfl

theorem endRun_landed (landed : s.inFlight = false) : s.endRun.inFlight = false := by
  rw [Bool.eq_false_iff] at landed ⊢
  refine fun flies => landed (inFlight_iff.2 ?_)
  rcases inFlight_iff.1 flies with ⟨n, flying⟩ | ⟨i, r, here, isOpen⟩
  · refine .inl ⟨n, ?_⟩
    rcases endRun_stepState (s := s) n with same | ⟨skipped, -⟩
    · exact same ▸ flying
    · rw [skipped] at flying
      rcases flying with k | k | k <;> cases k
  · refine .inr ⟨i, r, (slot_congr (ended_slots _ (Bool.eq_false_iff.2 landed)) i).symm.trans here, isOpen⟩

theorem endRun_failed (n : Nat) : s.endRun.stepState n = .failed ↔ s.stepState n = .failed := by
  rcases endRun_stepState (s := s) n with same | ⟨skipped, unfailed⟩
  · rw [same]
  · exact iff_of_false (by rw [skipped]; decide) unfailed

theorem endRun_outcome : s.endRun.run.lastOutcome =
    if stepNumbers.any (fun n => s.stepState n = .failed) then .completeWithFailures else .complete := rfl

theorem runOver_endRun (landed : s.inFlight = false) : s.endRun.RunOver where
  idle := rfl
  halting := rfl
  causes := rfl
  failed := fun ⟨n, failed⟩ => by
    have failed := (endRun_failed n).1 failed
    rw [endRun_outcome, if_pos]
    have used : (s.step n).used = true := by
      by_contra unused
      simp [State.stepState, unused] at failed
    exact List.any_eq_true.2 ⟨n, by simpa [stepNumbers] using step_used_lt used, by simpa using failed⟩
  complete unfailed := by
    rw [endRun_outcome, if_neg]
    simp only [List.any_eq_true, decide_eq_true_eq, not_exists, not_and]
    exact fun n _ failed => unfailed n ((endRun_failed n).2 failed)
  landed := endRun_landed landed
  ended := raise_isPending _ _
  members a := drainMembers_member a

/-! ## The follow-up: the run goes on, or is over -/

/-- A run in progress, or one that the run end test has ended. -/
def State.Alive (s : State) : Prop := s.run.inProgress = true ∨ s.RunOver

/-- The follow-up leaves a run that goes on, or one that is over. -/
theorem followUp_settled (due : Bool) (h : s.Alive) : (State.followUp due s).GoesOn ∨ (State.followUp due s).RunOver := by
  rcases h with runs | finished
  · obtain ⟨u, hu⟩ : ∃ u, u = State.settleLoop 200 due s := ⟨_, rfl⟩
    have run : u.run.inProgress = true := by rw [hu, settleLoop_run, runs]
    have follows : State.followUp due s = u.testRunEnd := hu ▸ if_pos runs
    rw [follows]
    unfold State.testRunEnd
    split
    · next ends =>
      simp only [Bool.and_eq_true, Bool.not_eq_true'] at ends
      exact .inr (runOver_endRun ends.1.2)
    · next stays =>
      refine .inl ⟨run, ?_⟩
      cases flies : u.inFlight
      · cases finished : u.membersFinished
        · exact .inr rfl
        · exact absurd (by simp [run, flies, finished]) stays
      · exact .inl rfl
  · have still : State.followUp due s = s := if_neg (by simp [finished.idle])
    rw [still]
    exact .inr finished

theorem alive_followUp (due : Bool) (h : s.Alive) : (State.followUp due s).Alive :=
  (followUp_settled due h).imp (fun goesOn => goesOn.1) id

/-! ## What every operation of the Run Engine keeps besides -/

/-- A station that is a member, or in neither HELD nor RESTORING. -/
def StationRecord.Bound (r : StationRecord) : Prop := r.member = true ∨ (r.state ≠ .held ∧ r.state ≠ .restoring)

/-- From `s` to `t` the run keeps its number and start time, the F-port sends the same, and no bound station comes loose. -/
structure Advances (s t : State) : Prop where
  fixed : t.run.fixed = s.run.fixed
  wireF : t.wireF = s.wireF
  binds : ∀ a, (s.station a).Bound → (t.station a).Bound

theorem Advances.rfl' (s : State) : Advances s s := ⟨rfl, rfl, fun _ => id⟩

theorem Advances.trans {u : State} (h : Advances s t) (k : Advances t u) : Advances s u :=
  ⟨k.fixed.trans h.fixed, k.wireF.trans h.wireF, fun a => k.binds a ∘ h.binds a⟩

theorem advances_of_core (core : t.core = s.core) (binds : ∀ a, (s.station a).Bound → (t.station a).Bound) : Advances s t :=
  ⟨(congrArg State.run core :), (congrArg State.wireF core :), binds⟩

theorem advances_of_stations (core : t.core = s.core) (stations : t.stations = s.stations) : Advances s t :=
  advances_of_core core fun a => by
    rw [station_congr stations]
    exact id

theorem binds_update (a : Nat) (g : StationRecord → StationRecord) (own : (s.station a).Bound → (g (s.station a)).Bound) (b : Nat)
    (bound : (s.station b).Bound) : ((s.updateStation a g).station b).Bound := by
  rw [updateStation_station]
  split
  · next here =>
    obtain ⟨rfl, -⟩ := here
    exact own bound
  · exact bound

/-- A station that leaves membership in neither HELD nor RESTORING. -/
theorem binds_leave (a : Nat) (d : Bool) (free : (s.station a).state ≠ .held ∧ (s.station a).state ≠ .restoring) (b : Nat)
    (bound : (s.station b).Bound) : ((s.leaveRun a d).station b).Bound := by
  rw [leaveRun_station]
  split
  · next same => exact .inr (same ▸ free)
  · exact bound

theorem advances_enterDraining (a : Nat) : Advances s (s.enterDraining a) :=
  advances_of_core (enterDraining_core s a) fun b bound => by
    rw [enterDraining_station]
    split
    · exact .inr (enteredRecord_state _ _)
    · exact bound

theorem advances_completeFrameless (n : Nat) : Advances s (s.completeFrameless n) := by
  have settled : Advances s (s.settleStep n) :=
    advances_of_stations (settleStep_core s n) (Prod.mk.inj (settleStep_roster (s := s) n)).1
  unfold State.completeFrameless
  dsimp only
  split
  · exact settled.trans (advances_enterDraining _)
  · exact settled

theorem advances_grant (i n : Nat) : Advances s (s.grant i n) := by
  refine advances_of_core (grant_core s i n) fun b bound => ?_
  have issued : ((s.issue i n (s.step n)).station b).Bound := by
    rw [station_congr (issue_stations ..)]
    exact bound
  rw [grant_eq]
  split
  · next held =>
    refine binds_update _ _ (fun own => ?_) b issued
    exact .inl (own.resolve_right fun free => free.1 held)
  · exact issued

/-- The end of a run leaves no station loose: each member is asked to drain. -/
theorem advances_ended (o : RunOutcome) : Advances s (s.drainMembers.closeRun o) :=
  advances_of_core ((closeRun_core ..).trans (drainMembers_core s)) fun a bound => by
    show (s.drainMembers.station a).Bound
    rw [drainMembers_station]
    split
    · exact .inr (enteredRecord_state _ _)
    · next other => exact .inr (bound.resolve_left other)

theorem advances_followUp (due : Bool) (s : State) : Advances s (State.followUp due s) :=
  followUp_turns
    { refl := Advances.rfl'
      trans := fun _ _ _ => Advances.trans
      evaluate := fun s n => advances_of_stations (evaluate_core s n) (evaluate_stations n)
      complete := fun _ n _ => advances_completeFrameless n
      wait := fun s f => advances_of_stations (markWait_core s f) (markWait_keeps f).2.2
      grant := fun _ i n _ _ _ => advances_grant i n
      ended := fun _ o _ => advances_ended o } due s

/-- A fault request leaves its station in neither HELD nor RESTORING. -/
theorem faultRequest_binds (a : Nat) (c : FaultCause) (b : Nat) (bound : (s.station b).Bound) :
    ((s.faultRequest a c).station b).Bound := by
  have left : ∀ (g : StationRecord → StationRecord), (g (s.station a)).state ≠ .held ∧ (g (s.station a)).state ≠ .restoring →
      (((s.updateStation a g).leaveRun a false).station b).Bound := fun g free => by
    refine binds_leave a false ?_ b (binds_update a g (fun _ => .inr free) b bound)
    rw [updateStation_station]
    split
    · exact free
    · next invalid =>
      rw [station_invalid (Bool.eq_false_iff.2 fun valid => invalid ⟨rfl, valid⟩)]
      exact ⟨by decide, by decide⟩
  unfold State.faultRequest
  split
  case h_1 => exact binds_update a _ (fun _ => .inr ⟨by simp, by simp⟩) b bound
  case h_2 | h_3 =>
    split
    · exact left _ ⟨by simp, by simp⟩
    · exact left _ ⟨by simp, by simp⟩
  case h_4 drains =>
    split
    · exact bound
    · exact left _ ⟨by simp [drains], by simp [drains]⟩
  all_goals exact bound

/-! ## The failure of a step, and the frames and deadlines of records -/

/-- An operation that the follow-up goes after: it advances, and the run is in progress as before. -/
structure Prepares (s t : State) : Prop where
  advances : Advances s t
  runs     : t.run.inProgress = s.run.inProgress

theorem prepares_of_parts (fixed : t.run.fixed = s.run.fixed) (wireF : t.wireF = s.wireF) (roster : t.roster = s.roster) :
    Prepares s t := by
  obtain ⟨stations, runs⟩ := Prod.mk.inj roster
  exact ⟨⟨fixed, wireF, fun a => by rw [station_congr stations]; exact id⟩, runs⟩

theorem prepares_of_roster (core : t.core = s.core) (roster : t.roster = s.roster) : Prepares s t :=
  prepares_of_parts (congrArg State.run core :) (congrArg State.wireF core :) roster

theorem Prepares.trans {u : State} (h : Prepares s t) (k : Prepares t u) : Prepares s u :=
  ⟨h.advances.trans k.advances, k.runs.trans h.runs⟩

theorem prepares_ite {c : Prop} [Decidable c] {u : State} (h : Prepares s t) (k : Prepares s u) : Prepares s (if c then t else u) := by
  split
  · exact h
  · exact k

theorem prepares_faultRequest (a : Nat) (c : FaultCause) : Prepares s (s.faultRequest a c) :=
  ⟨advances_of_core (faultRequest_core s a c) (faultRequest_binds a c), by rw [faultRequest_run]⟩

theorem prepares_failStep (n : Nat) (c : FailureCause) (b : Byte) : Prepares s (s.failStep n c b) := by
  unfold State.failStep State.propagate
  dsimp only
  split
  · exact prepares_of_roster (by simp) (by simp)
  · refine ((prepares_of_roster ?_ ?_).trans (prepares_faultRequest _ _)).trans
      (prepares_of_roster (evaluateAll_core _) evaluateAll_roster)
    · simp
    · simp

theorem prepares_resolveRecord (i : Nat) (q : Byte) (c : Option Nat) : Prepares s (s.resolveRecord i q c) :=
  prepares_of_roster (resolveRecord_core ..) (resolveRecord_roster ..)

theorem prepares_acceptLast (i n : Nat) (q : Byte) : Prepares s (s.acceptLast i n q) :=
  prepares_of_roster (acceptLast_core ..) (acceptLast_roster ..)

theorem prepares_acceptRestore (i : Nat) (r : InjectionRecord) (q : Byte) : Prepares s (s.acceptRestore i r q) := by
  obtain ⟨k, core⟩ := acceptRestore_core (s := s) i r q
  exact prepares_of_parts (congrArg State.run core :) (congrArg State.wireF core :) (acceptRestore_roster i q r)

theorem prepares_refuse (i n : Nat) (f : Frame) : Prepares s (s.refuse i n f) :=
  (prepares_resolveRecord ..).trans (prepares_failStep ..)

theorem prepares_answerPoll (i : Nat) (r : InjectionRecord) (f : Frame) : Prepares s (s.answerPoll i r f) :=
  prepares_ite (prepares_acceptLast ..) (prepares_ite (prepares_of_roster rfl rfl)
    ((prepares_resolveRecord ..).trans (prepares_failStep ..)))

theorem prepares_count (c : Counter) : Prepares s (s.count c) := by
  rw [count_eq]
  exact prepares_of_parts rfl rfl rfl

theorem prepares_setFeedRecord (f : Feed) (r : FeedRecord) : Prepares s (s.setFeedRecord f r) := by
  cases f <;> exact prepares_of_parts rfl rfl rfl

theorem prepares_absorb (i : Nat) (f : Frame) : Prepares s (s.absorb i f) := by
  have still : Prepares s s := prepares_of_roster rfl rfl
  unfold State.absorb
  split
  · exact still
  · next r here =>
    have answered : ∀ t : State, Prepares s t → Prepares s
        (if f.kind = kindAck then t else if f.kind = kindNak then s.refuse i r.step f else s) := fun t kept =>
      prepares_ite kept (prepares_ite (prepares_refuse ..) still)
    refine prepares_ite ((prepares_count _).trans (prepares_of_roster (closeRecord_core ..) (closeRecord_roster i)))
      (prepares_ite (prepares_count _) ?_)
    split
    · exact answered _ (prepares_acceptRestore ..)
    · exact prepares_ite (prepares_answerPoll ..) still
    · exact answered _ (prepares_acceptLast ..)

theorem prepares_timeOut (i : Nat) (r : InjectionRecord) : Prepares s (s.timeOut i r) := by
  have written : ∀ x, Prepares s (s.setSlot i x) := fun x => prepares_of_roster rfl rfl
  exact prepares_ite (((written _).trans (prepares_of_roster (makeAttempt_core ..) (makeAttempt_roster i))).trans (prepares_count _))
    ((written _).trans (prepares_failStep ..))

/-! ## The waits of a slice (R159) -/

/-- From `s` to `t` the run goes on or has been ended by the run end test, whatever else advances. -/
structure Lives (s t : State) : Prop where
  advances : Advances s t
  alive    : s.Alive → t.Alive

theorem Lives.trans {u : State} (h : Lives s t) (k : Lives t u) : Lives s u := ⟨h.advances.trans k.advances, k.alive ∘ h.alive⟩

theorem lives_followUp (due : Bool) (s : State) : Lives s (State.followUp due s) := ⟨advances_followUp due s, alive_followUp due⟩

theorem lives_countWait (f : Feed) (n : Nat) : Lives s (s.countWait f n) := by
  unfold State.countWait
  split
  · next tested =>
    have runs : s.run.inProgress = true := by
      simp only [Bool.and_eq_true, State.headTested, State.mayAct, decide_eq_true_eq] at tested
      by_contra idle
      have := tested.1.2.1.1.2
      rw [runState_idle (Bool.eq_false_iff.2 idle)] at this
      cases this
    have counted : ∀ x, Prepares s ((s.markWait f).setFeedRecord f x) := fun x =>
      (prepares_of_roster (markWait_core s f) (markWait_roster f)).trans (prepares_setFeedRecord f x)
    have lives : ∀ t : State, Prepares s t → Lives s t := fun t k => ⟨k.advances, fun _ => .inl (k.runs.trans runs)⟩
    dsimp only
    split
    · exact (lives _ ((counted _).trans (prepares_failStep ..))).trans (lives_followUp true _)
    · exact lives _ (counted _)
  · exact ⟨.rfl' s, id⟩

theorem lives_countWaits : Lives s s.countWaits := by
  unfold State.countWaits
  split
  · split
    · exact (lives_countWait ..).trans (lives_countWait ..)
    · exact (lives_countWait ..).trans (lives_countWait ..)
  · exact lives_countWait ..
  · exact lives_countWait ..
  · exact ⟨.rfl' s, id⟩

/-- A slice before its waits are counted (R151, steps 1 to 3). -/
def State.sliced (s : State) : State :=
  State.testStale (State.testStale (State.foldContributions (State.advanceContributions
    { s with sliceDeadline := s.sliceDeadline + BitVec.ofNat 32 Config.sliceUnits })) .a) .b

theorem sliceExpires_eq : s.sliceExpires = State.followUp true s.sliced.countWaits := rfl

theorem prepares_sliced : Prepares s s.sliced := by
  have raised : ∀ (t : State) e, Prepares t (t.raise e) := fun _ _ => prepares_of_parts rfl rfl rfl
  have folded : ∀ (t : State) c, Prepares t (t.fold c) := fun t c => by
    unfold State.fold
    dsimp only
    split
    · exact prepares_setFeedRecord ..
    · exact (prepares_setFeedRecord ..).trans (raised ..)
  have folds : ∀ t : State, Prepares t t.foldContributions := fun t =>
    foldl_kept (Prepares t) State.fold _ (fun _ c _ reached => reached.trans (folded _ c)) _ (prepares_of_parts rfl rfl rfl)
  have stale : ∀ (t : State) f, Prepares t (t.testStale f) := fun t f =>
    prepares_ite ((prepares_setFeedRecord ..).trans (raised ..)) (prepares_of_parts rfl rfl rfl)
  have advanced : Prepares s (State.advanceContributions { s with
      sliceDeadline := s.sliceDeadline + BitVec.ofNat 32 Config.sliceUnits }) := prepares_of_parts rfl rfl rfl
  exact ((advanced.trans (folds _)).trans (stale _ .a)).trans (stale _ .b)

/-! ## Each event of the Run Engine -/

theorem matchSlot_slot {f : Frame} {i : Nat} (found : s.matchSlot f = some i) : ∃ r, s.slot i = some r := by
  have holds := List.find?_some found
  cases here : s.slot i with
  | none => simp [here] at holds
  | some r => exact ⟨r, rfl⟩

/-- An event of the Run Engine while the F-port sends: the follow-up after a state that the event has brought the run to, and the
upward side. -/
theorem engineEvent_followed {c : Instr} (busy : s.FBusy) (runs : s.run.inProgress = true) (event : EngineEvent s c)
    (ran : exec c s = .next t) : ∃ due w v, t = (State.followUp due w).upward v ∧ Advances s w ∧ w.Alive := by
  have closed : ∀ due w, Lives s w → exec c s = .next (s.close (State.followUp due w)) →
      ∃ due w v, t = (State.followUp due w).upward v ∧ Advances s w ∧ w.Alive := fun due w lives done => by
    have sends : (State.followUp due w).FBusy := by
      unfold State.FBusy
      rw [followUp_wireF, lives.advances.wireF]
      exact busy
    obtain ⟨v, up, -⟩ := close_upward (s := s) sends
    rw [done, up] at ran
    injection ran with same
    exact ⟨due, w, v, same.symm, lives.advances, lives.alive (.inl runs)⟩
  have prepared : ∀ w, Prepares s w → Lives s w := fun w k => ⟨k.advances, fun _ => .inl (k.runs.trans runs)⟩
  cases event
  case slice => exact closed true s.sliced.countWaits ((prepared _ prepares_sliced).trans lives_countWaits) rfl
  case settle n settling timed =>
    refine closed _ _ (prepared _ (prepares_of_roster (setEntry_core s n _) (setEntry_roster n _)))
      (congrArg (fun u => Host.Outcome.next (s.close u)) (if_pos ?_))
    simp [settling, timed]
  case closing i r here closing timed =>
    refine closed true _ (prepared _ (prepares_of_roster (closeRecord_core s i) (closeRecord_roster i)))
      (congrArg (fun u => Host.Outcome.next (s.close u)) ?_)
    unfold State.closingExpires
    rw [here]
    exact if_pos (by simp [closing, timed])
  case reply i r here isOpen unwaited out timed =>
    exact closed _ _ (prepared _ (prepares_timeOut i r))
      (congrArg (fun u => Host.Outcome.next (s.close u)) (replyExpires_out here isOpen unwaited out timed))
  case absorbed f i valid kind found quiet =>
    obtain ⟨r, here⟩ : ∃ r, s.slot i = some r := matchSlot_slot found
    obtain ⟨y, v, tapped, done, -⟩ := absorbed_arrival busy valid kind found here
    obtain ⟨x, p, same⟩ := tapped.quiet quiet
    have taps : Prepares s y := same ▸ prepares_of_parts rfl rfl rfl
    have absorbs := taps.trans (prepares_absorb i f)
    rw [done] at ran
    injection ran with same
    exact ⟨_, _, v, same.symm, absorbs.advances, .inl (absorbs.runs.trans runs)⟩

/-- Settles O44: each event ends with the follow-up of a run in progress, or of one that a slice has ended; the run end test says
whether the run goes on, and a run that is over leaves no bound station HELD or RESTORING. -/
theorem runEndsWithItsOutcome : Obligations.RunEndsWithItsOutcome := by
  unfold Obligations.RunEndsWithItsOutcome
  intro c s t busy runs event ran
  obtain ⟨due, w, v, rfl, before, alive⟩ := engineEvent_followed busy runs event ran
  obtain ⟨u, hu⟩ : ∃ u, u = State.followUp due w := ⟨_, rfl⟩
  have settled : u.GoesOn ∨ u.RunOver := hu ▸ followUp_settled due alive
  have advances : Advances s u := hu ▸ before.trans (advances_followUp due w)
  rw [← hu]
  have station : ∀ a, (u.upward v).station a = u.station a := station_congr rfl
  have flight : (u.upward v).inFlight = u.inFlight := rfl
  refine ⟨fun goes => ?goes, fun ends => ?ends⟩
  case goes =>
    have goesOn : u.GoesOn := settled.resolve_right fun finished => Bool.noConfusion (finished.idle.symm.trans goes)
    rw [← or_assoc]
    refine goesOn.2.imp (fun flies => inFlight_iff.1 (flight.trans flies)) fun unfinished => ?_
    obtain ⟨n, used, member, waits⟩ := membersFinished_false unfinished
    exact ⟨n, used, by rw [station]; exact member, waits⟩
  case ends =>
    have finished : u.RunOver := settled.resolve_left fun goesOn => Bool.noConfusion (ends.symm.trans goesOn.1)
    have landed := mt inFlight_iff.2 (Bool.eq_false_iff.1 (flight.trans finished.landed))
    rw [not_or, not_exists] at landed
    refine ⟨?run, finished.failed, finished.complete, fun n => ?steps, fun i r here => ?records, finished.ended,
      fun a => ?member, fun a member => ?drained⟩
    case run => exact finished.run advances.fixed
    case steps => simpa [not_or] using landed.1 n
    case records =>
      by_contra isOpen
      exact landed.2 ⟨i, r, here, Bool.eq_false_iff.2 isOpen⟩
    case member =>
      rw [station]
      exact finished.members a
    case drained =>
      rw [station]
      exact (advances.binds a (.inl member)).resolve_left (by simp [finished.members a])

end Sys2Proof.Machine
end

section
/-! SUPPORT. The deadline of a CLOSING record (R135, R136), the end of a re-poll wait (R133) and the expiry of a settle timer
(R138). -/

namespace Sys2Proof.Machine

variable {s t : State}

/-! ## An event while the F-port sends -/

/-- An event that leaves the pending flags and the SETTINGS, while the F-port sends: the S-port's choice is all that follows. -/
theorem concluded_sending (busy : s.FBusy) (wireF : t.wireF = s.wireF) (settings : t.settings = s.settings)
    (flags : t.noticePending = s.noticePending) : s.concluded t = .next t.sArbiter := by
  have sends : t.FBusy := by
    unfold State.FBusy
    rw [wireF]
    exact busy
  unfold State.concluded
  rw [close_quiet s t (.inl sends) (reportedEmpty_congr settings flags)]

/-- An event that changes nothing, with nothing for the F-port to take. -/
theorem concluded_still (quiet : s.FQuiet) (still : t = s) : s.concluded t = .next s.sArbiter :=
  still ▸ concluded_quiet s quiet rfl rfl rfl rfl rfl rfl rfl rfl rfl rfl

/-- An event of the Run Engine while the F-port sends: what it leaves, and the upward side. -/
theorem concluded_upwards (busy : s.FBusy) (core : t.core = s.core) : ∃ v, s.concluded t = .next (t.upward v) := by
  have sends : t.FBusy := by
    unfold State.FBusy
    rw [show t.wireF = s.wireF from (congrArg State.wireF core :)]
    exact busy
  obtain ⟨v, closed, -⟩ := close_upward (s := s) sends
  exact ⟨v, congrArg _ closed⟩

theorem sameRun_upward (t v : State) : SameRun (t.upward v) t := ⟨rfl, rfl, rfl, rfl, rfl, rfl⟩

/-! ## The deadline of a CLOSING record (R135, R136) -/

/-- A record just opened for a step, with the one attempt that it makes (R127, R129). -/
def State.opened (s : State) (n k c : Nat) : InjectionRecord :=
  { station := (s.step n).station, step := n, closing := false, frameIndex := k, startChannel := c
    attempts := [s.injectionSeq], outstanding := none, ready := some s.injectionSeq, deadline := none
    pollCount := 1, repollWait := false, builtHighest := none, further := none }

/-- The opening of a record writes its slot and takes the next seq of the band. -/
theorem openRecord_eq {i : Nat} (lt : i < 8) (n k c : Nat) : s.openRecord i n k c =
    { s.setSlot i (some (s.opened n k c)) with injectionSeq := nextInBand s.injectionSeq } := by
  have pick : pickSeq [] 32 s.injectionSeq = s.injectionSeq := by simp [pickSeq]
  unfold State.openRecord State.makeAttempt
  rw [setSlot_here lt]
  dsimp only
  rw [setSlot_setSlot, setSlot_injectionSeq, pick]
  rfl

section
variable {i : Nat} {r : InjectionRecord}

theorem closeRecord_frees (slot : s.slot i = some r) (last : r.further = none) : s.closeRecord i = s.setSlot i none := by
  unfold State.closeRecord
  rw [slot]
  dsimp only
  rw [last]

theorem closeRecord_reopens (slot : s.slot i = some r) {c : Nat} (further : r.further = some c) : s.closeRecord i =
    { s.setSlot i (some (s.opened r.step (r.frameIndex + 1) c)) with injectionSeq := nextInBand s.injectionSeq } := by
  unfold State.closeRecord
  rw [slot]
  dsimp only
  rw [further]
  exact openRecord_eq (slot_lt slot) _ _ _

theorem closingExpires_due (slot : s.slot i = some r) (closing : r.closing = true) (timed : r.deadline.isSome = true) :
    s.closingExpires i = (s.closeRecord i).settle := by
  unfold State.closingExpires
  rw [slot]
  exact if_pos (by simp [closing, timed])

theorem closingExpires_stopped (still : ∀ r, s.slot i = some r → r.closing = false ∨ r.deadline = none) :
    s.closingExpires i = s := by
  unfold State.closingExpires
  cases slot : s.slot i with
  | none => rfl
  | some r => exact if_neg (by rcases still r slot with k | k <;> simp [k])
end

theorem closingExpires_core (i : Nat) : (s.closingExpires i).core = s.core := by
  unfold State.closingExpires
  split
  · split
    · exact (settle_core _).trans (closeRecord_core s i)
    · rfl
  · rfl

theorem follows_closingExpires (i : Nat) : Follows s (s.closingExpires i) := by
  unfold State.closingExpires
  split
  · split
    · exact (follows_closeRecord s i).trans (follows_settle _)
    · exact .rfl' s
  · exact .rfl' s

/-! ## The end of a re-poll wait (R133) -/

/-- A record that has waited for its next poll, with the seq of the attempt it makes. -/
def InjectionRecord.repolled (r : InjectionRecord) (q : Byte) : InjectionRecord :=
  { r with pollCount := r.pollCount + 1, repollWait := false, deadline := none, attempts := [q], ready := some q }

section
variable {i : Nat} {r : InjectionRecord}

theorem repollExpires_due (slot : s.slot i = some r) (isOpen : r.closing = false) (waits : r.repollWait = true) :
    s.repollExpires i = { s.setSlot i (some (r.repolled (pickSeq r.attempts 32 s.injectionSeq))) with
      injectionSeq := nextInBand (pickSeq r.attempts 32 s.injectionSeq) } := by
  unfold State.repollExpires
  rw [slot]
  refine (if_pos (by simp [isOpen, waits])).trans ?_
  unfold State.makePoll
  rw [setSlot_here (slot_lt slot)]
  dsimp only
  rw [setSlot_setSlot]
  rfl

theorem repollExpires_stopped (still : ∀ r, s.slot i = some r → r.closing = true ∨ r.repollWait = false) :
    s.repollExpires i = s := by
  unfold State.repollExpires
  cases slot : s.slot i with
  | none => rfl
  | some r => exact if_neg (by rcases still r slot with k | k <;> simp [k])
end

/-! ## The expiry of a settle timer (R138) -/

theorem entry_lt {n : Nat} (live : (s.entry n).state ≠ .idle) : n < 96 := by
  by_contra out
  exact live (by simp [State.entry, getAt, out, StepEntry.reset])

/-- A step's settle timer has run out: the step is DONE. -/
def State.settled (s : State) (n : Nat) : State := s.setEntry n { s.entry n with state := .done, settle := none }

theorem settleExpires_due {n : Nat} (settling : (s.entry n).state = .settling) (timed : (s.entry n).settle.isSome = true) :
    s.settleExpires n = s.settleFrom (s.settled n) := if_pos (by simp [settling, timed])

theorem settleExpires_stopped {n : Nat} (still : (s.entry n).state ≠ .settling ∨ (s.entry n).settle = none) :
    s.settleExpires n = s := if_neg (by rcases still with k | k <;> simp [k])

/-- Settles O42: each expiry either finds its timer running, and then writes the record or the entry it belongs to before the
follow-up, or changes nothing. -/
theorem engineTimersAct : Obligations.EngineTimersAct := by
  unfold Obligations.EngineTimersAct
  refine ⟨⟨?idleCloses, ?closes, ?closingKeeps, ?closingStopped⟩, ⟨?repolls, ?repollStopped⟩, ⟨?settles, ?settleStopped⟩⟩
  case idleCloses =>
    intro s i r idle busy slot closing timed last
    have freed : s.closingExpires i = s.setSlot i none := by
      rw [closingExpires_due slot closing timed, closeRecord_frees slot last]
      exact settle_idle _ idle
    show s.concluded (s.closingExpires i) = _
    rw [freed]
    exact concluded_sending busy rfl rfl rfl
  case closes =>
    intro s i r busy slot closing timed _ w
    have closed : s.closeRecord i = w := by
      cases further : r.further with
      | none => simpa only [w, further] using closeRecord_frees slot further
      | some c =>
        simp only [w, further]
        exact closeRecord_reopens slot further
    have expires : s.closingExpires i = w.settle := closed ▸ closingExpires_due slot closing timed
    obtain ⟨v, done⟩ := concluded_upwards busy (closingExpires_core i)
    rw [expires] at done
    refine ⟨_, ?_, sameRun_upward w.settle v, rfl, rfl, rfl⟩
    show s.concluded (s.closingExpires i) = _
    rw [expires, done]
  case closingKeeps =>
    intro s i busy
    have core := closingExpires_core (s := s) i
    obtain ⟨v, done⟩ := concluded_upwards busy core
    exact ⟨_, done, (untouched_of_core core).trans (untouched_upward _ v), (congrArg State.counters core :),
      (follows_closingExpires i).terminal⟩
  case closingStopped => exact fun s i quiet still => concluded_still quiet (closingExpires_stopped still)
  case repolls =>
    intro s i r band busy slot isOpen waits
    have few := (band.record slot).few
    refine ⟨pickSeq r.attempts 32 s.injectionSeq, pickSeq_inBand _ _ band.counter, pickSeq_fresh band.counter (by omega), ?_⟩
    show s.concluded (s.repollExpires i) = _
    rw [repollExpires_due slot isOpen waits]
    exact concluded_sending busy rfl rfl rfl
  case repollStopped => exact fun s i quiet still => concluded_still quiet (repollExpires_stopped still)
  case settles =>
    intro s n busy settling timed
    obtain ⟨u, hu⟩ : ∃ u, u = s.settleFrom (s.settled n) := ⟨_, rfl⟩
    have core : u.core = s.core := hu ▸ (settleFrom_core s _).trans (setEntry_core ..)
    have follows : Follows (s.settled n) u := hu ▸ follows_settleFrom s _
    have entry : ∀ m, (s.settled n).entry m =
        if n = m ∧ m < 96 then { s.entry n with state := .done, settle := none } else s.entry m := fun m => setEntry_entry s n m _
    have own : (s.settled n).entry n = { s.entry n with state := .done, settle := none } :=
      (entry n).trans (if_pos ⟨rfl, entry_lt (by rw [settling]; decide)⟩)
    obtain ⟨v, done⟩ := concluded_upwards busy core
    refine ⟨u.upward v, ?_, (untouched_of_core core).trans (untouched_upward u v), (congrArg State.counters core :),
      (follows.terminal n (by rw [own]; rfl)).trans own, ?_, fun m other ended => ?_⟩
    · show s.concluded (s.settleExpires n) = _
      rw [settleExpires_due settling timed, ← hu, done]
    · rw [hu]
      exact sameRun_upward _ v
    · have same : (s.settled n).entry m = s.entry m := (entry m).trans (if_neg fun k => other k.1.symm)
      exact (follows.terminal m (by rw [same]; exact ended)).trans same
  case settleStopped => exact fun s n quiet still => concluded_still quiet (settleExpires_stopped still)

end Sys2Proof.Machine
end

section
/-! SUPPORT. A step that waits: its evaluation (R120 to R122), its eligibility (R123, R126), and the estimate and the admission of its
feed (R149, R150, R156). -/

namespace Sys2Proof.Machine

variable {s : State}

/-! ## Evaluation (R120 to R122) -/

theorem evaluate_other {n : Nat} (other : s.stepState n ≠ .pending) : s.evaluate n = s := if_neg other

section
variable {n : Nat}

/-- The verdict on a step with no predecessor FAILED or SKIPPED (R120). -/
theorem verdict_passes (passes : ∀ x ∈ (s.step n).preds.map s.stepState, x ≠ .failed ∧ x ≠ .skipped) : s.verdict n =
    if ((s.step n).preds.map s.stepState).any (fun x => x = .pending || x = .awaiting || x = .issued || x = .settling)
    then .wait else .filter :=
  if_neg (by simpa using passes)

variable (pending : s.stepState n = .pending)
include pending

theorem evaluate_skipped (h : ∃ x ∈ (s.step n).preds.map s.stepState, x = .failed ∨ x = .skipped) :
    s.evaluate n = s.setStepState n .skipped := by
  have verdict : s.verdict n = .skip := if_pos (by simpa using h)
  unfold State.evaluate
  rw [if_pos pending, verdict]

theorem evaluate_waits (passes : ∀ x ∈ (s.step n).preds.map s.stepState, x ≠ .failed ∧ x ≠ .skipped)
    (h : ∃ x ∈ (s.step n).preds.map s.stepState, x = .pending ∨ x = .awaiting ∨ x = .issued ∨ x = .settling) :
    s.evaluate n = s := by
  have verdict : s.verdict n = .wait := (verdict_passes passes).trans (if_pos (by simpa [or_assoc] using h))
  unfold State.evaluate
  rw [if_pos pending, verdict]

/-- A step whose predecessors are all satisfied goes by its cause mask (R121, R122). -/
theorem evaluate_filtered (h : ∀ x ∈ (s.step n).preds.map s.stepState, x = .idle ∨ x = .done ∨ x = .notApplicable) :
    s.evaluate n = s.setStepState n
      (if (s.step n).causeMask.getLsbD (s.restartCause (s.step n).station) then .awaiting else .notApplicable) := by
  have passes : ∀ x ∈ (s.step n).preds.map s.stepState, x ≠ .failed ∧ x ≠ .skipped := fun x mem => by
    rcases h x mem with k | k | k <;> rw [k] <;> decide
  have verdict : s.verdict n = .filter := (verdict_passes passes).trans (if_neg (by
    rw [List.any_eq_true]
    rintro ⟨x, mem, waits⟩
    rcases h x mem with k | k | k <;> simp [k] at waits))
  unfold State.evaluate
  rw [if_pos pending, verdict]
  exact (apply_ite (s.setStepState n) _ _ _).symm
end

/-! ## Steps that may act (R123, R126) -/

theorem mayAct_iff {n : Nat} : s.mayAct n = true ↔
    s.stepState n = .awaiting ∧ s.runState = .running ∧ s.hasRecord (s.step n).station = false := by
  simp [State.mayAct, and_assoc]

theorem mayAct_lt {n : Nat} (acts : s.mayAct n = true) : n < 96 := entry_lt (by rw [mayAct_awaiting n acts]; decide)

theorem mayAct_idle (idle : s.run.inProgress = false) (n : Nat) : s.mayAct n = false := by
  rw [Bool.eq_false_iff]
  intro acts
  have running := (mayAct_iff.1 acts).2.1
  rw [runState_idle idle] at running
  cases running

theorem frameless_iff {n : Nat} : s.frameless n = true ↔ (s.step n).action = some .release ∨ (s.step n).action = some .mark
    ∨ ((s.step n).action = some .restore ∧ s.confirmedIn (s.step n).station (s.step n).first (s.step n).last = []) := by
  unfold State.frameless State.hasRestore
  split <;> simp_all

theorem eligible_iff {n : Nat} : s.eligible n = true ↔
    s.stepState n = .awaiting ∧ s.runState = .running ∧ s.hasRecord (s.step n).station = false ∧ s.needsFrame n = true
      ∧ ∀ f, (s.step n).feed.feed = some f → s.headOf f = some n
        ∧ s.estimate f + (s.step n).peak ≤ (s.feed f).budget ∧ s.contributions.length < 96 := by
  have admitted : ∀ f, s.admits f n = true ↔
      s.estimate f + (s.step n).peak ≤ (s.feed f).budget ∧ s.contributions.length < 96 := fun f => by
    simp only [State.admits, Bool.and_eq_true, decide_eq_true_eq]
    exact Iff.rfl
  unfold State.eligible
  rw [Bool.and_eq_true, Bool.and_eq_true, mayAct_iff]
  cases (s.step n).feed.feed with
  | none => simp [and_assoc]
  | some f => simp [and_assoc, admitted]

theorem find?_stepNumbers {p : Nat → Bool} {n : Nat} :
    stepNumbers.find? p = some n ↔ n < 96 ∧ p n = true ∧ ∀ m, m < n → p m = false := by
  unfold stepNumbers
  rw [List.find?_range_eq_some]
  simp only [List.mem_range, Bool.not_eq_true']
  exact ⟨fun ⟨holds, lt, least⟩ => ⟨lt, holds, least⟩, fun ⟨lt, holds, least⟩ => ⟨holds, lt, least⟩⟩

theorem nextFrameless_iff {n : Nat} : s.nextFrameless = some n ↔
    n < 96 ∧ s.mayAct n = true ∧ s.frameless n = true ∧ ∀ m, m < n → s.mayAct m = true → s.frameless m = false := by
  unfold State.nextFrameless
  rw [find?_stepNumbers]
  simp [and_assoc]

theorem nextFrameless_acts {n : Nat} (found : s.nextFrameless = some n) : s.mayAct n = true := (nextFrameless_iff.1 found).2.1

theorem nextFrameless_idle (idle : s.run.inProgress = false) : s.nextFrameless = none := by
  refine List.find?_eq_none.2 fun n _ => ?_
  simp [mayAct_idle idle]

theorem nextGrant_idle (idle : s.run.inProgress = false) : s.nextGrant = none := by
  have none : stepNumbers.find? s.eligible = none := List.find?_eq_none.2 fun n _ => by simp [State.eligible, mayAct_idle idle]
  unfold State.nextGrant
  rw [none]
  cases s.freeSlot <;> rfl

/-! ## The estimate of a feed (R145, R149, R150) -/

theorem feed_eq_some {c : FeedChoice} {f : Feed} : c.feed = some f ↔ c = f.choice := by
  cases c <;> cases f <;> simp [FeedChoice.feed, Feed.choice]

theorem metered_iff {f : Feed} : s.metered f = true ↔
    ∃ r ∈ s.stations.toList, r.config.role = .meter ∧ r.config.meterFeed.feed = some f := by
  simp only [State.metered, List.any_eq_true, Bool.and_eq_true, decide_eq_true_eq, feed_eq_some]

theorem estimate_eq (f : Feed) : s.estimate f =
    (match (s.feed f).measured with
      | some m => if s.metered f then max (s.feed f).standing m else (s.feed f).standing
      | none => (s.feed f).standing)
    + ((s.contributions.filter (fun c => c.feed = f)).map (fun c =>
        if c.elapsed < c.ramp then c.steady + ((c.peak - c.steady) * (c.ramp - c.elapsed) + c.ramp - 1) / c.ramp
        else c.steady)).sum := by
  refine congrArg (· + _) ?_
  unfold State.feedBase
  cases (s.feed f).measured <;> cases s.metered f <;> rfl

end Sys2Proof.Machine
end

section
/-! SUPPORT. What the grant of a step (R127, R147) and the completion of a frameless step (R123, R124) write. -/

namespace Sys2Proof.Machine

variable {s : State}

/-! ## A grant (R127, R147) -/

section
variable {i n : Nat}

/-- What a grant makes of all but the stations it has made when the step is ISSUED. -/
theorem grant_of_issue {α : Type} (g : State → α) (h : ∀ (t : State) a f, g (t.updateStation a f) = g t) :
    g (s.grant i n) = g (s.issue i n (s.step n)) := by
  rw [grant_eq]
  split
  · exact h _ _ _
  · rfl

theorem grant_station (a : Nat) : (s.grant i n).station a =
    if a = (s.step n).station ∧ (s.station a).state = .held then { s.station a with state := .restoring } else s.station a := by
  have issued : ∀ b, (s.issue i n (s.step n)).station b = s.station b := station_congr (issue_stations ..)
  rw [grant_eq, issued]
  by_cases held : (s.station (s.step n).station).state = .held
  · have valid : validStation (s.step n).station = true := listed_valid (by rw [held]; decide)
    rw [if_pos held, updateStation_station, issued]
    by_cases same : a = (s.step n).station
    · subst same
      rw [if_pos ⟨rfl, valid⟩, if_pos ⟨rfl, held⟩]
    · rw [if_neg fun k => same k.1.symm, if_neg fun k => same k.1]
  · rw [if_neg held, issued, if_neg fun ⟨same, other⟩ => held (same ▸ other)]

variable (lt : i < 8)
include lt

/-- The record that a grant opens, the seq it takes and the contribution it adds. -/
theorem issue_eq (r : StepRecord) : ∃ u : State, s.issue i n r = u.setStepState n .issued
    ∧ u.slot i = some (s.opened n 0 (if r.action = some .restore then r.first else 0))
    ∧ u.injectionSeq = nextInBand s.injectionSeq
    ∧ u.contributions = match r.feed.feed with
      | some f => s.contributions ++ [{ step := n, feed := f, peak := (s.step n).peak, steady := (s.step n).steady
                                        ramp := (s.step n).ramp, elapsed := 0, running := false }]
      | none => s.contributions := by
  refine ⟨_, rfl, ?_⟩
  rw [openRecord_eq lt]
  refine ⟨?_, ?_, ?_⟩
  · refine (setSlot_here lt _).trans ?_
    cases r.feed.feed <;> rfl
  · cases r.feed.feed <;> rfl
  · cases r.feed.feed <;> rfl

theorem grant_writes :
    (s.grant i n).slot i = some (s.opened n 0 (if (s.step n).action = some .restore then (s.step n).first else 0))
      ∧ (s.grant i n).injectionSeq = nextInBand s.injectionSeq
      ∧ (s.grant i n).contributions = match (s.step n).feed.feed with
        | some f => s.contributions ++ [{ step := n, feed := f, peak := (s.step n).peak, steady := (s.step n).steady
                                          ramp := (s.step n).ramp, elapsed := 0, running := false }]
        | none => s.contributions := by
  obtain ⟨u, issued, slot, seq, contributions⟩ := issue_eq (s := s) (n := n) lt (s.step n)
  rw [grant_of_issue (fun t => t.slot i) fun t a f => slot_congr (updateStation_slots t a f) i,
    grant_of_issue State.injectionSeq updateStation_injectionSeq, grant_of_issue State.contributions updateStation_contributions,
    issued]
  exact ⟨(slot_congr (setStepState_slots n .issued) i).trans slot, (setEntry_injectionSeq ..).trans seq,
    (setStepState_contributions ..).trans contributions⟩
end

/-! ## Entering DRAINING (R42) -/

section
variable {a : Nat}

theorem enterDraining_stays (other : ¬ ((s.station a).state = .held ∨ (s.station a).state = .restoring)) :
    s.enterDraining a = s := if_neg (by simpa using other)

variable (holding : (s.station a).state = .held ∨ (s.station a).state = .restoring)
include holding

/-- A station with a queue drains on. -/
theorem enterDraining_drains (held : s.queue a ≠ []) :
    s.enterDraining a = s.updateStation a (fun r => { r with state := .draining }) := by
  have queue : (s.updateStation a fun r => { r with state := .draining }).queue a = s.queue a :=
    queue_congr (updateStation_queues ..) a
  unfold State.enterDraining State.checkDrain
  rw [if_pos (by simpa using holding), queue, if_neg (by simp [held])]

/-- The steps of a member with an empty queue leave with it (R46). -/
theorem enterDraining_leaves (empty : s.queue a = []) (member : (s.station a).member = true) (runs : s.run.inProgress = true)
    {m : Nat} (used : (s.step m).used = true) (own : (s.step m).station = a) :
    (s.enterDraining a).entry m = leftEntry true (s.entry m) := by
  obtain ⟨u, hu⟩ : ∃ u, u = s.updateStation a (fun r => { r with state := .draining }) := ⟨_, rfl⟩
  have record : u.station a = { s.station a with state := .draining } :=
    hu ▸ updateStation_own (station_member_valid member) _
  have queue : u.queue a = [] := (queue_congr (by rw [hu]; exact updateStation_queues ..) a).trans empty
  obtain ⟨stations, entries, run, plan⟩ := drainOver_keeps (s := u) a
  have drains : s.enterDraining a = (u.drainOver a).leaveRun a true := by
    unfold State.enterDraining State.checkDrain
    rw [if_pos (by simpa using holding), ← hu, if_pos (by simp [record, queue]), drainEnd_eq]
  have linked : ((u.drainOver a).station a).member = true := by
    rw [station_congr stations, updateStation_own (station_member_valid member), record]
    unfold drainEndRecord
    split <;> exact member
  have step : (u.drainOver a).step m = s.step m := step_of_plan (plan.trans (by rw [hu]; exact updateStation_plan ..)) m
  have entry : (u.drainOver a).entry m = s.entry m := entry_congr (entries.trans (by rw [hu]; exact updateStation_entries ..)) m
  rw [drains, leaveRun_entry true linked (by rw [run, hu, updateStation_run]; exact runs) (by rw [step]; exact used)
    (by rw [step]; exact own), entry]
end

/-! ## A frameless step completes (R123, R124, R138) -/

section
variable {n : Nat}

theorem settleStep_entry_ne {m : Nat} (other : m ≠ n) : (s.settleStep n).entry m = s.entry m := by
  have kept : ∀ e, (s.setEntry n e).entry m = s.entry m := fun e =>
    (setEntry_entry s n m e).trans (if_neg fun k => other k.1.symm)
  unfold State.settleStep
  split <;> exact kept _

theorem settleStep_station (a : Nat) : (s.settleStep n).station a = s.station a :=
  station_congr (Prod.mk.inj (settleStep_roster (s := s) n)).1 a

theorem settleStep_queue (a : Nat) : (s.settleStep n).queue a = s.queue a :=
  queue_congr (congrArg State.queues (settleStep_core s n) :) a

theorem settleStep_step (m : Nat) : (s.settleStep n).step m = s.step m := step_of_plan (plan_of_core (settleStep_core s n)) m

theorem completeFrameless_plain (plain : (s.step n).action ≠ some .release) : s.completeFrameless n = s.settleStep n :=
  if_neg plain

theorem completeFrameless_release (release : (s.step n).action = some .release) :
    s.completeFrameless n = (s.settleStep n).enterDraining (s.step n).station := if_pos release

/-- A step that is no RELEASE, or whose station is not held back, touches no station. -/
theorem completeFrameless_stays (stays : (s.step n).action ≠ some .release
      ∨ ¬ ((s.station (s.step n).station).state = .held ∨ (s.station (s.step n).station).state = .restoring)) :
    s.completeFrameless n = s.settleStep n := by
  by_cases release : (s.step n).action = some .release
  · rw [completeFrameless_release release, enterDraining_stays]
    rw [settleStep_station]
    exact stays.resolve_left fun k => k release
  · exact completeFrameless_plain release

theorem completeFrameless_stations (stays : (s.step n).action ≠ some .release
      ∨ ¬ ((s.station (s.step n).station).state = .held ∨ (s.station (s.step n).station).state = .restoring)) :
    (s.completeFrameless n).stations = s.stations := by
  rw [completeFrameless_stays stays]
  exact (Prod.mk.inj (settleStep_roster (s := s) n)).1

/-- The step's own entry: DONE, or SETTLING with its timer set. -/
theorem completeFrameless_own (lt : n < 96) :
    (s.completeFrameless n).entry n = settledEntry (s.step n) (s.later ((s.step n).settle * 10)) (s.entry n) := by
  have settled := settleStep_entry (s := s) lt
  have ended : (settledEntry (s.step n) (s.later ((s.step n).settle * 10)) (s.entry n)).state = .done
      ∨ (settledEntry (s.step n) (s.later ((s.step n).settle * 10)) (s.entry n)).state = .settling := by
    unfold settledEntry
    by_cases zero : (s.step n).settle = 0 <;> simp [zero]
  by_cases release : (s.step n).action = some .release
  · rw [completeFrameless_release release, ← settled]
    rw [← settled] at ended
    refine (entriesTurn_enterDraining (s := s.settleStep n) (s.step n).station n).rests ?_ ?_ ?_ <;>
      rcases ended with k | k <;> rw [k] <;> decide
  · rw [completeFrameless_plain release, settled]

theorem completeFrameless_station (b : Nat) : (s.completeFrameless n).station b =
    if (s.step n).action = some .release ∧ (s.step n).station = b
    then enteredRecord (s.queue b).isEmpty (s.station b) else s.station b := by
  by_cases release : (s.step n).action = some .release
  · rw [completeFrameless_release release, enterDraining_station, settleStep_queue, settleStep_station, settleStep_station]
    by_cases same : (s.step n).station = b
    · rw [if_pos same, if_pos ⟨release, same⟩, same]
    · rw [if_neg same, if_neg fun k => same k.2]
  · rw [completeFrameless_plain release, settleStep_station, if_neg fun k => release k.1]

/-- Where no drain ends, the other steps, the records and the contributions stand. -/
theorem completeFrameless_rest (stays : (s.step n).action ≠ some .release
      ∨ ¬ ((s.station (s.step n).station).state = .held ∨ (s.station (s.step n).station).state = .restoring)
      ∨ s.queue (s.step n).station ≠ []) :
    (s.completeFrameless n).slots = s.slots ∧ (s.completeFrameless n).contributions = s.contributions
      ∧ ∀ m, m ≠ n → (s.completeFrameless n).entry m = s.entry m := by
  have settled : (s.settleStep n).slots = s.slots ∧ (s.settleStep n).contributions = s.contributions
      ∧ ∀ m, m ≠ n → (s.settleStep n).entry m = s.entry m :=
    ⟨settleStep_slots n, settleStep_contributions s n, fun _ => settleStep_entry_ne⟩
  by_cases still : (s.step n).action ≠ some .release
      ∨ ¬ ((s.station (s.step n).station).state = .held ∨ (s.station (s.step n).station).state = .restoring)
  · rw [completeFrameless_stays still]
    exact settled
  · rw [← or_assoc] at stays
    have queued := stays.resolve_left still
    obtain ⟨release, holding⟩ := not_or.1 still
    rw [completeFrameless_release (not_not.1 release), enterDraining_drains (by rw [settleStep_station]; exact not_not.1 holding)
      (by rw [settleStep_queue]; exact queued)]
    obtain ⟨slots, contributions, entry⟩ := settled
    exact ⟨(updateStation_slots ..).trans slots, (updateStation_contributions ..).trans contributions,
      fun m other => (entry_congr (updateStation_entries ..) m).trans (entry m other)⟩

section
variable (release : (s.step n).action = some .release)
  (holding : (s.station (s.step n).station).state = .held ∨ (s.station (s.step n).station).state = .restoring)
include release holding

/-- A RELEASE with frames held takes its station to DRAINING, a member still (R124). -/
theorem completeFrameless_drains (queued : s.queue (s.step n).station ≠ []) :
    (s.completeFrameless n).station (s.step n).station = { s.station (s.step n).station with state := .draining } := by
  rw [completeFrameless_station, if_pos ⟨release, rfl⟩, enteredRecord, if_pos holding, if_neg (by simpa using queued)]

variable (empty : s.queue (s.step n).station = [])
include empty

/-- A RELEASE with no frame held takes its station to ONLINE and out of the run at once (R42, R43). -/
theorem completeFrameless_online (clear : (s.station (s.step n).station).faultPending = false) :
    (s.completeFrameless n).station (s.step n).station =
      { s.station (s.step n).station with state := .online, member := false } := by
  rw [completeFrameless_station, if_pos ⟨release, rfl⟩, enteredRecord, if_pos holding, if_pos (by simpa using empty)]
  simp [drainEndRecord, clear]

/-- The other steps of a member that leaves so: all but a SETTLING one are taken back (R43, R46). -/
theorem completeFrameless_leaves (member : (s.station (s.step n).station).member = true) (runs : s.run.inProgress = true) {m : Nat}
    (other : m ≠ n) (used : (s.step m).used = true) (own : (s.step m).station = (s.step n).station) :
    ((s.entry m).state = .pending ∨ (s.entry m).state = .awaiting ∨ (s.entry m).state = .issued →
      ((s.completeFrameless n).entry m).state = .skipped)
    ∧ ((s.entry m).state = .settling → (s.completeFrameless n).entry m = s.entry m) := by
  have left : (s.completeFrameless n).entry m = leftEntry true (s.entry m) := by
    rw [completeFrameless_release release, enterDraining_leaves (by rw [settleStep_station]; exact holding)
      (by rw [settleStep_queue]; exact empty) (by rw [settleStep_station]; exact member) (by rw [settleStep_run]; exact runs)
      (by rw [settleStep_step]; exact used) (by rw [settleStep_step]; exact own), settleStep_entry_ne other]
  rw [left]
  unfold leftEntry
  refine ⟨fun waits => ?_, fun settles => ?_⟩
  · rcases waits with k | k | k <;> rw [k]
  · rw [settles]
    rfl
end
end

end Sys2Proof.Machine
end

section
/-! SUPPORT. The moments of a grant test (R126, R157) and the turns of the Run Engine's follow-up (R120, R123, R126): what one turn
comes to, why the fuel lasts, and what no turn is left to do. -/

namespace Sys2Proof.Machine

variable {s t : State}

/-! ## The moments of a grant test (R126, R157) -/

theorem stepState_lt {n : Nat} (live : s.stepState n ≠ .idle) : n < 96 := by
  refine step_used_lt (s := s) ?_
  by_contra unused
  exact live (if_neg unused)

theorem recordClosed_iff {i : Nat} : s.recordClosed t i = true ↔
    ∃ r, s.slot i = some r ∧ ∀ r', t.slot i = some r' → r'.step ≠ r.step ∨ r'.frameIndex ≠ r.frameIndex := by
  unfold State.recordClosed
  cases s.slot i with
  | none => simp
  | some r => cases t.slot i <;> simp

theorem grantMoment_iff : s.grantMoment t = true ↔ (∃ n, s.stepState n ≠ .awaiting ∧ t.stepState n = .awaiting)
    ∨ (∃ i r, i < 8 ∧ s.slot i = some r ∧ ∀ r', t.slot i = some r' → r'.step ≠ r.step ∨ r'.frameIndex ≠ r.frameIndex)
    ∨ (s.runState ≠ .running ∧ t.runState = .running) ∨ ∃ f, s.headOf f ≠ t.headOf f := by
  have steps : (stepNumbers.any fun n => s.stepState n ≠ .awaiting && t.stepState n = .awaiting) = true ↔
      ∃ n, s.stepState n ≠ .awaiting ∧ t.stepState n = .awaiting := by
    simp only [List.any_eq_true, Bool.and_eq_true, decide_eq_true_eq]
    exact ⟨fun ⟨n, _, k⟩ => ⟨n, k⟩, fun ⟨n, other, awaits⟩ =>
      ⟨n, by simpa [stepNumbers] using stepState_lt (by rw [awaits]; decide), other, awaits⟩⟩
  have slots : slotNumbers.any (s.recordClosed t) = true ↔
      ∃ i r, i < 8 ∧ s.slot i = some r ∧ ∀ r', t.slot i = some r' → r'.step ≠ r.step ∨ r'.frameIndex ≠ r.frameIndex := by
    simp [slotNumbers, recordClosed_iff]
  have heads : (∃ f, s.headOf f ≠ t.headOf f) ↔ s.headOf .a ≠ t.headOf .a ∨ s.headOf .b ≠ t.headOf .b :=
    ⟨fun ⟨f, k⟩ => by cases f; exacts [.inl k, .inr k], fun k => k.elim (⟨_, ·⟩) (⟨_, ·⟩)⟩
  unfold State.grantMoment
  rw [Bool.or_eq_true, Bool.or_eq_true, Bool.or_eq_true, Bool.or_eq_true, steps, slots, heads]
  simp only [Bool.and_eq_true, decide_eq_true_eq, or_assoc]

/-- A moment on the way from `s` to `t` falls before or after any state between. -/
theorem grantMoment_split (u : State) (moment : s.grantMoment t = true) : s.grantMoment u = true ∨ u.grantMoment t = true := by
  simp only [grantMoment_iff] at moment ⊢
  rcases moment with ⟨n, other, awaits⟩ | ⟨i, r, lt, here, gone⟩ | ⟨other, running⟩ | ⟨f, moved⟩
  case inl =>
    by_cases between : u.stepState n = .awaiting
    · exact .inl (.inl ⟨n, other, between⟩)
    · exact .inr (.inl ⟨n, between, awaits⟩)
  case inr.inl =>
    by_cases between : ∀ x, u.slot i = some x → x.step ≠ r.step ∨ x.frameIndex ≠ r.frameIndex
    · exact .inl (.inr (.inl ⟨i, r, lt, here, between⟩))
    · simp only [not_forall, not_or, not_not] at between
      obtain ⟨x, slot, step, frame⟩ := between
      exact .inr (.inr (.inl ⟨i, x, lt, slot, by rw [step, frame]; exact gone⟩))
  case inr.inr.inl =>
    by_cases between : u.runState = .running
    · exact .inl (.inr (.inr (.inl ⟨other, between⟩)))
    · exact .inr (.inr (.inr (.inl ⟨between, running⟩)))
  case inr.inr.inr =>
    by_cases between : s.headOf f = u.headOf f
    · exact .inr (.inr (.inr (.inr ⟨f, between ▸ moved⟩)))
    · exact .inl (.inr (.inr (.inr ⟨f, between⟩)))

/-! ## One turn (R120, R123, R126) -/

/-- The state in which a turn makes its grant test: evaluated, the heads' wait starts taken (R158). -/
def State.tested (s : State) : State := (s.evaluateAll.markWait .a).markWait .b

theorem stepState_congr (entries : t.entries = s.entries) (plan : t.plan = s.plan) (n : Nat) : t.stepState n = s.stepState n := by
  unfold State.stepState
  rw [step_of_plan plan, entry_congr entries]

theorem runState_congr (run : t.run = s.run) : t.runState = s.runState := by
  unfold State.runState
  rw [run]

theorem nextFrameless_congr (entries : t.entries = s.entries) (slots : t.slots = s.slots) (run : t.run = s.run)
    (plan : t.plan = s.plan) (points : t.points = s.points) : t.nextFrameless = s.nextFrameless := by
  have step := step_of_plan plan
  have acts : t.mayAct = s.mayAct := by
    funext n
    unfold State.mayAct State.hasRecord
    rw [stepState_congr entries plan, runState_congr run, step, slotOf_congr slots]
  have frameless : t.frameless = s.frameless := by
    funext n
    simp [State.frameless, State.hasRestore, State.confirmedIn, step, points]
  unfold State.nextFrameless
  rw [acts, frameless]

theorem markWait_nextFrameless (f : Feed) : (s.markWait f).nextFrameless = s.nextFrameless := by
  have core := markWait_core s f
  obtain ⟨entries, slots, -⟩ := markWait_keeps (s := s) f
  exact nextFrameless_congr entries slots (markWait_run f) (plan_of_core core) (congrArg State.points core :)

theorem tested_nextFrameless : s.tested.nextFrameless = s.evaluateAll.nextFrameless :=
  (markWait_nextFrameless .b).trans (markWait_nextFrameless .a)

theorem tested_run : s.tested.run = s.run := (markWait_run .b).trans ((markWait_run .a).trans evaluateAll_run)

theorem entriesTurn_evaluateAll (s : State) : EntriesTurn s s.evaluateAll :=
  foldl_kept (EntriesTurn s) _ _ (fun _ n _ reached => reached.trans (entriesTurn_evaluate n)) s (.rfl' s)

theorem tested_waiting : s.tested.waiting ⊆ s.waiting :=
  waiting_subset ((entriesTurn_evaluateAll s).trans
    ((entriesTurn_of_same (markWait_keeps .a).1).trans (entriesTurn_of_same (markWait_keeps .b).1)))

section
variable {n : Nat} (due : Bool) (k : Nat)

theorem settleLoop_completes (found : s.evaluateAll.nextFrameless = some n) : State.settleLoop (k + 1) due s =
    State.settleLoop k (due || s.grantMoment s.evaluateAll || s.evaluateAll.grantMoment (s.evaluateAll.completeFrameless n))
      (s.evaluateAll.completeFrameless n) := by
  conv_lhs => unfold State.settleLoop
  dsimp only
  rw [found]

variable (none : s.evaluateAll.nextFrameless = none)
include none

theorem settleLoop_undue (undue : (due || s.grantMoment s.evaluateAll) = false) :
    State.settleLoop (k + 1) due s = s.evaluateAll := by
  unfold State.settleLoop
  dsimp only
  rw [none]
  exact if_neg (by simp [undue])

variable (isDue : (due || s.grantMoment s.evaluateAll) = true)
include isDue

theorem settleLoop_grants {i : Nat} (found : s.tested.nextGrant = some (i, n)) :
    State.settleLoop (k + 1) due s = State.settleLoop k true (s.tested.grant i n) := by
  conv_lhs => unfold State.settleLoop
  dsimp only
  rw [none]
  dsimp only
  unfold State.tested at found ⊢
  rw [if_pos isDue, found]

theorem settleLoop_ungranted (found : s.tested.nextGrant = Option.none) : State.settleLoop (k + 1) due s = s.tested := by
  unfold State.settleLoop
  dsimp only
  rw [none]
  dsimp only
  unfold State.tested at found ⊢
  rw [if_pos isDue, found]
end

/-! ## The fuel of the follow-up -/

/-- A state in which the step `n` waits no more has fewer waiting steps. -/
theorem waiting_fewer {n : Nat} (turned : EntriesTurn s t) (awaiting : (s.entry n).state = .awaiting)
    (acted : (t.entry n).state ≠ .pending ∧ (t.entry n).state ≠ .awaiting) : t.waiting ⊂ s.waiting := by
  refine Finset.ssubset_iff_subset_ne.2 ⟨waiting_subset turned, fun same => ?_⟩
  have mem : n ∈ t.waiting := by
    rw [same]
    simp [State.waiting, awaiting, entry_lt (show (s.entry n).state ≠ .idle by rw [awaiting]; decide)]
  simp [State.waiting, acted] at mem

theorem completeFrameless_waiting {n : Nat} (acts : s.mayAct n = true) : (s.completeFrameless n).waiting ⊂ s.waiting := by
  refine waiting_fewer (entriesTurn_completeFrameless n acts) (mayAct_awaiting n acts) ?_
  rw [completeFrameless_own (mayAct_lt acts)]
  unfold settledEntry
  by_cases zero : (s.step n).settle = 0 <;> simp [zero]

theorem grant_waiting {n : Nat} (i : Nat) (eligible : s.eligible n = true) : (s.grant i n).waiting ⊂ s.waiting := by
  have acts := eligible_mayAct eligible
  refine waiting_fewer (entriesTurn_grant n i eligible) (mayAct_awaiting n acts) ?_
  rw [grant_entry, if_pos ⟨rfl, mayAct_lt acts⟩]
  simp

/-- A turn of the loop that takes a step on: fewer steps wait, and a moment on the way makes the grant test due. -/
structure TurnsTo (due : Bool) (s : State) (due' : Bool) (t : State) : Prop where
  fewer : t.waiting ⊂ s.waiting
  isDue : due = true ∨ s.grantMoment t = true → due' = true
  turn  : ∀ k, State.settleLoop (k + 1) due s = State.settleLoop k due' t

/-- Nothing is left to do: no frameless step may complete, and where a grant test was due none is to be granted. -/
structure Rests (due : Bool) (s t : State) : Prop where
  frameless : t.nextFrameless = none
  granted   : due = true ∨ s.grantMoment t = true → t.nextGrant = none

/-- What one turn comes to: a step taken on, or the loop's end with nothing left. -/
theorem settleLoop_turn (due : Bool) (s : State) : (∃ due' t, TurnsTo due s due' t)
    ∨ ∃ t, Rests due s t ∧ ∀ k, State.settleLoop (k + 1) due s = t := by
  cases found : s.evaluateAll.nextFrameless with
  | some n =>
    refine .inl ⟨_, _, ?_, fun moment => ?_, fun k => settleLoop_completes due k found⟩
    · exact (completeFrameless_waiting (nextFrameless_acts found)).trans_subset
        (waiting_subset (entriesTurn_evaluateAll s))
    · rw [Bool.or_eq_true, Bool.or_eq_true, or_assoc]
      exact moment.imp_right (grantMoment_split s.evaluateAll)
  | none =>
    cases isDue : due || s.grantMoment s.evaluateAll with
    | false =>
      refine .inr ⟨s.evaluateAll, ⟨found, fun moment => ?_⟩, fun k => settleLoop_undue due k found isDue⟩
      rw [← Bool.or_eq_true, isDue] at moment
      cases moment
    | true =>
      cases next : s.tested.nextGrant with
      | some g =>
        obtain ⟨i, n⟩ := g
        exact .inl ⟨true, s.tested.grant i n, (grant_waiting i (nextGrant_eligible _ next)).trans_subset tested_waiting,
          fun _ => rfl, fun k => settleLoop_grants due k found isDue next⟩
      | none =>
        exact .inr ⟨s.tested, ⟨tested_nextFrameless.trans found, fun _ => next⟩,
          fun k => settleLoop_ungranted due k found isDue next⟩

/-- The fuel of the loop is enough: more of it makes no difference. -/
theorem settleLoop_fuel {k : Nat} (enough : s.waiting.card < k) (due : Bool) :
    State.settleLoop k due s = State.settleLoop (k + 1) due s := by
  induction k generalizing due s with
  | zero => omega
  | succ k ih =>
    rcases settleLoop_turn due s with ⟨due', t, turn⟩ | ⟨t, -, ends⟩
    · have fewer := Finset.card_lt_card turn.fewer
      rw [turn.turn, turn.turn]
      exact ih (by omega) due'
    · rw [ends, ends]

/-- With fuel for the waiting steps the loop leaves nothing to do. -/
theorem settleLoop_rests {k : Nat} (enough : s.waiting.card < k) (due : Bool) : Rests due s (State.settleLoop k due s) := by
  induction k generalizing due s with
  | zero => omega
  | succ k ih =>
    rcases settleLoop_turn due s with ⟨due', t, turn⟩ | ⟨t, rests, ends⟩
    · have fewer := Finset.card_lt_card turn.fewer
      obtain ⟨frameless, granted⟩ := ih (s := t) (by omega) due'
      rw [turn.turn]
      refine ⟨frameless, fun moment => granted ?_⟩
      rcases moment with isDue | moment
      · exact .inl (turn.isDue (.inl isDue))
      · exact (grantMoment_split t moment).imp_left fun early => turn.isDue (.inr early)
    · rw [ends]
      exact rests

theorem waiting_card_le (s : State) : s.waiting.card ≤ 96 := (Finset.card_filter_le _ _).trans (Finset.card_range 96).le

/-! ## The follow-up, turn by turn -/

section
variable {n : Nat} (due : Bool) (runs : s.run.inProgress = true)
include runs

theorem followUp_loop : State.followUp due s = (State.settleLoop (199 + 1) due s).testRunEnd := if_pos runs

/-- A turn less of fuel does as well. -/
theorem followUp_loop_less : State.followUp due s = (State.settleLoop 199 due s).testRunEnd := by
  have fuel : s.waiting.card < 199 := by
    have := waiting_card_le s
    omega
  rw [followUp_loop due runs, ← settleLoop_fuel fuel]

theorem followUp_completes (found : s.evaluateAll.nextFrameless = some n) : State.followUp due s =
    State.followUp (due || s.grantMoment s.evaluateAll || s.evaluateAll.grantMoment (s.evaluateAll.completeFrameless n))
      (s.evaluateAll.completeFrameless n) := by
  have goesOn : (s.evaluateAll.completeFrameless n).run.inProgress = true := by
    rw [completeFrameless_run, evaluateAll_run]
    exact runs
  rw [followUp_loop due runs, settleLoop_completes due 199 found, followUp_loop_less _ goesOn]

variable (none : s.evaluateAll.nextFrameless = none)
include none

theorem followUp_undue (undue : (due || s.grantMoment s.evaluateAll) = false) :
    State.followUp due s = s.evaluateAll.testRunEnd := by
  rw [followUp_loop due runs, settleLoop_undue due 199 none undue]

variable (isDue : (due || s.grantMoment s.evaluateAll) = true)
include isDue

theorem followUp_grants {i : Nat} (found : s.tested.nextGrant = some (i, n)) :
    State.followUp due s = (s.tested.grant i n).settle := by
  have goesOn : (s.tested.grant i n).run.inProgress = true := by
    rw [grant_run, tested_run]
    exact runs
  unfold State.settle
  rw [followUp_loop due runs, settleLoop_grants due 199 none isDue found,
    followUp_loop_less _ goesOn]

theorem followUp_ungranted (found : s.tested.nextGrant = Option.none) : State.followUp due s = s.tested.testRunEnd := by
  rw [followUp_loop due runs, settleLoop_ungranted due 199 none isDue found]
end

/-- The end of a run leaves nothing to complete or to grant. -/
theorem rests_testRunEnd {due : Bool} (rests : Rests due s t) : Rests due s t.testRunEnd := by
  unfold State.testRunEnd
  split
  · exact ⟨nextFrameless_idle rfl, fun _ => nextGrant_idle rfl⟩
  · exact rests

/-- The follow-up leaves nothing to complete, nor, where a grant test was due, to grant. -/
theorem followUp_rests (due : Bool) (s : State) : Rests due s (State.followUp due s) := by
  cases runs : s.run.inProgress with
  | true =>
    rw [followUp_loop due runs]
    exact rests_testRunEnd (settleLoop_rests (by have := waiting_card_le s; omega) due)
  | false =>
    rw [followUp_idle due s runs]
    exact ⟨nextFrameless_idle runs, fun _ => nextGrant_idle runs⟩

end Sys2Proof.Machine
end

section
/-! SUPPORT. What an event of the Run Engine leaves to do (R123, R126, R158), and the statement about steps that wait. -/

namespace Sys2Proof.Machine

variable {s t : State}

/-! ## The moment that an event's follow-up starts from (R126) -/

/-- An event of the Run Engine while the F-port sends: the follow-up after a state that the event has brought the machine to, the
grant test due by the moments on the way to it, and at a slice and a closing deadline whatever they change. -/
theorem engineEvent_moment {c : Instr} (busy : s.FBusy) (event : EngineEvent s c) (ran : exec c s = .next t) :
    ∃ due w v, t = (State.followUp due w).upward v
      ∧ (s.grantMoment w = true ∨ c = .sliceExpiry ∨ (∃ i, c = .closingDeadlineExpiry i) → due = true) := by
  have closed : ∀ due w, w.wireF = s.wireF → exec c s = .next (s.close (State.followUp due w)) →
      ∃ v, t = (State.followUp due w).upward v := fun due w wireF done => by
    have sends : (State.followUp due w).FBusy := by
      unfold State.FBusy
      rw [followUp_wireF, wireF]
      exact busy
    obtain ⟨v, up, -⟩ := close_upward (s := s) sends
    rw [done, up] at ran
    injection ran with same
    exact ⟨v, same.symm⟩
  cases event
  case slice =>
    have wireF : s.sliced.countWaits.wireF = s.wireF := (lives_countWaits).advances.wireF.trans prepares_sliced.advances.wireF
    obtain ⟨v, same⟩ := closed true s.sliced.countWaits wireF rfl
    exact ⟨true, _, v, same, fun _ => rfl⟩
  case closing i r here closing timed =>
    have expires := closingExpires_due here closing timed
    obtain ⟨v, same⟩ := closed true (s.closeRecord i) (congrArg State.wireF (closeRecord_core s i) :)
      (congrArg (fun u => Host.Outcome.next (s.close u)) expires)
    exact ⟨true, _, v, same, fun _ => rfl⟩
  case settle n settling timed =>
    have expires := settleExpires_due settling timed
    obtain ⟨v, same⟩ := closed (s.grantMoment (s.settled n)) (s.settled n) (congrArg State.wireF (setEntry_core s n _) :)
      (congrArg (fun u => Host.Outcome.next (s.close u)) expires)
    exact ⟨_, _, v, same, by simp⟩
  case reply i r here isOpen unwaited out timed =>
    obtain ⟨v, same⟩ := closed (s.grantMoment (s.timeOut i r)) (s.timeOut i r) (prepares_timeOut i r).advances.wireF
      (congrArg (fun u => Host.Outcome.next (s.close u)) (replyExpires_out here isOpen unwaited out timed))
    exact ⟨_, _, v, same, by simp⟩
  case absorbed f i valid kind found quiet =>
    obtain ⟨r, here⟩ : ∃ r, s.slot i = some r := matchSlot_slot found
    obtain ⟨y, v, tapped, done, -⟩ := absorbed_arrival busy valid kind found here
    obtain ⟨x, p, same⟩ := tapped.quiet quiet
    have moment : ∀ w, y.grantMoment w = s.grantMoment w := fun w => same ▸ grantMoment_congr rfl rfl rfl rfl w
    rw [done] at ran
    injection ran with same
    exact ⟨_, _, v, same.symm, by simp [moment]⟩

/-- The upward side is nothing to a grant. -/
theorem nextGrant_upward (u v : State) : (u.upward v).nextGrant = u.nextGrant := by
  have feed : ∀ f, (u.upward v).feed f = u.feed f := fun f => by cases f <;> rfl
  have estimate : ∀ f, (u.upward v).estimate f = u.estimate f := fun f => by
    unfold State.estimate State.feedBase
    rw [feed]
    rfl
  have eligible : (u.upward v).eligible = u.eligible := by
    funext n
    unfold State.eligible State.admits
    simp only [feed, estimate]
    rfl
  unfold State.nextGrant
  rw [eligible]
  rfl

/-- After an event of the Run Engine no frameless step may complete, and where the event held a moment none is to be granted. -/
theorem engineEvent_rests {c : Instr} (busy : s.FBusy) (event : EngineEvent s c) (ran : exec c s = .next t) :
    t.nextFrameless = none
      ∧ (s.grantMoment t = true ∨ c = .sliceExpiry ∨ (∃ i, c = .closingDeadlineExpiry i) → t.nextGrant = none) := by
  obtain ⟨due, w, v, rfl, isDue⟩ := engineEvent_moment busy event ran
  obtain ⟨frameless, granted⟩ := followUp_rests due w
  obtain ⟨u, hu⟩ : ∃ u, u = State.followUp due w := ⟨_, rfl⟩
  rw [← hu] at frameless granted ⊢
  have eligible : (u.upward v).nextGrant = u.nextGrant := nextGrant_upward u v
  refine ⟨frameless, fun moment => eligible.trans (granted ?_)⟩
  rcases moment with moment | timed
  · exact (grantMoment_split (s := s) (t := u) w moment).imp_left fun early => isDue (.inl early)
  · exact .inl (isDue (.inr timed))

/-! ## The statement -/

/-- Settles O40: a step's evaluation, eligibility, grant and frameless completion, each by its rule; the follow-up turn by turn, its
fuel lasting since each turn leaves fewer steps that wait; and nothing left to do after it, a moment on the way from an event's start
to its end being a moment of the event's own change or of one of the turns. -/
theorem waitingStepsAreServed : Obligations.WaitingStepsAreServed := by
  unfold Obligations.WaitingStepsAreServed
  refine ⟨fun s n => evaluate_other,
    fun s n pending => ⟨evaluate_skipped pending, evaluate_waits pending, evaluate_filtered pending⟩,
    fun s n => eligible_iff, fun s i n lt small => ?grant, fun s => ?ascending, fun s n => nextFrameless_iff,
    fun s n => ⟨mayAct_iff, frameless_iff⟩, fun s n lt => ?complete, fun s t => grantMoment_iff,
    fun s t => ⟨rfl, rfl⟩, fun due s runs => ?turn, fun s f => ⟨metered_iff, estimate_eq f⟩, fun due s => ?rests,
    fun c s t => engineEvent_rests⟩
  case grant =>
    obtain ⟨slot, seq, contributions⟩ := grant_writes (s := s) (n := n) lt
    exact ⟨(grant_entry n i n).trans (if_pos ⟨rfl, small⟩), slot, seq, contributions, grant_station,
      fun m other => (grant_entry n i m).trans (if_neg fun k => other k.1.symm), fun j other => grant_slots n i j other,
      grant_run n i⟩
  case ascending =>
    unfold State.evaluateAll stepNumbers
    rfl
  case complete =>
    have core := completeFrameless_core s n
    have stands : ∀ b, b ≠ (s.step n).station → (s.completeFrameless n).station b = s.station b := fun b other =>
      (completeFrameless_station b).trans (if_neg fun k => other k.2.symm)
    exact ⟨completeFrameless_own lt, completeFrameless_run n, (congrArg State.queues core :), (congrArg State.points core :), stands,
      completeFrameless_rest, completeFrameless_stations, completeFrameless_drains,
      fun release holding empty clear => ⟨completeFrameless_online release holding empty clear,
        fun member runs m other used own => completeFrameless_leaves release holding empty member runs other used own⟩⟩
  case turn =>
    exact ⟨fun n found => followUp_completes due runs found, fun none undue => followUp_undue due runs none undue,
      fun none isDue => ⟨fun i n found => followUp_grants due runs none isDue found, followUp_ungranted due runs none isDue⟩⟩
  case rests => exact ⟨fun _ => (followUp_rests due s).frameless, (followUp_rests true s).granted (.inl rfl)⟩

end Sys2Proof.Machine
end

section
/-! SUPPORT. The loads of the feeds: the operations that write the feed records and the contributions alone, what the Run Engine
leaves of a feed record, SET-FEED (R162) and the reading of a meter (R154, R155). -/

namespace Sys2Proof.Machine

variable {s t : State}

/-! ## Feed records and contributions written, all else kept -/

/-- From `s` to `t` the feed records, the contributions and the pending flags alone are written. -/
def LoadsOnly (s t : State) : Prop :=
  t = { s with contributions := t.contributions, feedA := t.feedA, feedB := t.feedB, noticePending := t.noticePending }

theorem LoadsOnly.rfl' (s : State) : LoadsOnly s s := rfl

theorem LoadsOnly.trans {u : State} (h : LoadsOnly s t) (k : LoadsOnly t u) : LoadsOnly s u :=
  Eq.trans k (congrArg (fun x : State => { x with
    contributions := u.contributions, feedA := u.feedA, feedB := u.feedB, noticePending := u.noticePending }) h)

/-- What does not read them stays. -/
theorem LoadsOnly.keeps {α : Type} (h : LoadsOnly s t) (g : State → α)
    (blind : ∀ (u : State) l x y p, g { u with contributions := l, feedA := x, feedB := y, noticePending := p } = g u) :
    g t = g s :=
  (congrArg g h).trans (blind s _ _ _ _)

theorem loadsOnly_setFeedRecord (f : Feed) (r : FeedRecord) : LoadsOnly s (s.setFeedRecord f r) := by cases f <;> rfl

theorem loadsOnly_raise (e : NoticeEvent) : LoadsOnly s (s.raise e) := rfl

theorem loadsOnly_contributions (l : List Contribution) : LoadsOnly s { s with contributions := l } := rfl

theorem loadsOnly_ite {c : Prop} [Decidable c] {u : State} (h : LoadsOnly s t) (k : LoadsOnly s u) :
    LoadsOnly s (if c then t else u) := by
  split
  · exact h
  · exact k

theorem LoadsOnly.untouched (h : LoadsOnly s t) : Untouched s t := by
  have station := station_congr (h.keeps State.stations fun _ _ _ _ _ => rfl)
  refine ⟨?_, ?_, ?_, ?_, ?_, ?_, ?_, ?_, ?_, ?_, ?_, ?_, ?_, ?_, ?_, ?_, ?_, ?_,
    fun a => congrArg StationRecord.config (station a), fun a => congrArg StationRecord.history (station a)⟩
  all_goals exact h.keeps _ fun _ _ _ _ _ => rfl

theorem setFeedRecord_feed_eq (f g : Feed) (r : FeedRecord) : (s.setFeedRecord f r).feed g = if g = f then r else s.feed g := by
  cases f <;> cases g <;> rfl

/-! ## What the Run Engine leaves of a feed record -/

theorem setFeedRecord_core {f : Feed} {r : FeedRecord} (fixed : r.fixed = (s.feed f).fixed) :
    (s.setFeedRecord f r).core = s.core := by
  cases f
  · exact congrArg (fun x => { s.core with feedA := x }) fixed
  · exact congrArg (fun x => { s.core with feedB := x }) fixed

theorem feed_of_core (core : t.core = s.core) (f : Feed) : (t.feed f).fixed = (s.feed f).fixed := by
  cases f
  · exact (congrArg State.feedA core :)
  · exact (congrArg State.feedB core :)

theorem feed_of_base (base : t.base = s.base) (f : Feed) : (t.feed f).fixed = (s.feed f).fixed := by
  cases f
  · exact (congrArg State.feedA base :)
  · exact (congrArg State.feedB base :)

theorem feed_congr (a : t.feedA = s.feedA) (b : t.feedB = s.feedB) (f : Feed) : t.feed f = s.feed f := by
  cases f
  · exact a
  · exact b

/-- All of a feed record but its head-of-line fields. -/
theorem FeedRecord.of_fixed {r r' : FeedRecord} (h : r.fixed = r'.fixed) : r.budget = r'.budget ∧ r.standing = r'.standing
    ∧ r.measured = r'.measured ∧ r.measuredTime = r'.measuredTime ∧ r.stale = r'.stale ∧ r.foldSaturated = r'.foldSaturated := by
  obtain ⟨budget, standing, measured, time, stale, saturated, -⟩ := FeedRecord.mk.inj h
  exact ⟨budget, standing, measured, time, stale, saturated⟩

/-! ## SET-FEED (R162) -/

/-- `s` with the budget and the standing load of a feed written, clamped (R162). -/
def State.fed (s : State) (f : Feed) (budget standing : Nat) : State :=
  s.setFeedRecord f { s.feed f with budget := min budget 16383, standing := min standing 16383, foldSaturated := false }

theorem loadsOnly_fed (f : Feed) (budget standing : Nat) : LoadsOnly s (s.fed f budget standing) := loadsOnly_setFeedRecord ..

/-- The feeds after a SET-FEED and the follow-up it ends with. -/
theorem fed_feed (f : Feed) (budget standing : Nat) (core : t.core = (s.fed f budget standing).core) :
    (t.feed f).budget = min budget 16383 ∧ (t.feed f).standing = min standing 16383 ∧ (t.feed f).foldSaturated = false
      ∧ (t.feed f).measured = (s.feed f).measured
      ∧ ∀ g, g ≠ f → (t.feed g).budget = (s.feed g).budget ∧ (t.feed g).standing = (s.feed g).standing := by
  have fixed := fun g => FeedRecord.of_fixed (feed_of_core core g)
  have written : ∀ g, (s.fed f budget standing).feed g = if g = f then { s.feed f with
      budget := min budget 16383, standing := min standing 16383, foldSaturated := false } else s.feed g :=
    fun g => setFeedRecord_feed_eq f g _
  obtain ⟨hbudget, hstanding, hmeasured, -, -, hsaturated⟩ := fixed f
  rw [written, if_pos rfl] at hbudget hstanding hmeasured hsaturated
  refine ⟨hbudget, hstanding, hsaturated, hmeasured, fun g other => ?_⟩
  obtain ⟨hbudget, hstanding, -⟩ := fixed g
  rw [written, if_neg other] at hbudget hstanding
  exact ⟨hbudget, hstanding⟩

section
variable {i : Byte} (bh bl sh sl : Byte)

theorem reqSetFeed_index (out : 1 < i.toNat) : s.reqSetFeed [i, bh, bl, sh, sl] = s.answer .badIndex := if_pos out

theorem reqSetFeed_storing (lt : i.toNat ≤ 1) (storing : s.storing.isSome = true) :
    s.reqSetFeed [i, bh, bl, sh, sl] = s.refuseFor .storing := (if_neg (Nat.not_lt.2 lt)).trans (if_pos storing)

theorem reqSetFeed_writes (lt : i.toNat ≤ 1) (idle : s.storing = none) : s.reqSetFeed [i, bh, bl, sh, sl] =
    (s.fed (if i.toNat = 0 then .a else .b) (bh.toNat * 256 + bl.toNat) (sh.toNat * 256 + sl.toNat)).settle.answerDone
      (fun _ => []) := (if_neg (Nat.not_lt.2 lt)).trans (if_neg (by simp [idle]))
end

/-- Settles O60: the tests in their order; then the feed written, the follow-up and the ANSWER. -/
theorem setFeedWritesTheFeed : Obligations.SetFeedWritesTheFeed := by
  unfold Obligations.SetFeedWritesTheFeed
  refine fun s seq i bh bl sh sl h busy => ⟨fun out => ?index, fun lt storing => ?storing, fun lt idle => ?writes⟩
  case index => exact concluded_status h (.inl busy) seq 32 _ .badIndex (reqSetFeed_index (s := s.heard) bh bl sh sl out)
  case storing =>
    exact concluded_refused h (.inl busy) seq 32 _ .storing (reqSetFeed_storing (s := s.heard) bh bl sh sl lt storing)
  case writes =>
    intro f
    obtain ⟨w, hw⟩ : ∃ w, w = s.heard.fed f (bh.toNat * 256 + bl.toNat) (sh.toNat * 256 + sl.toNat) := ⟨_, rfl⟩
    have response : s.heard.execute 32 [i, bh, bl, sh, sl] = w.settle.answerDone (fun _ => []) :=
      hw ▸ reqSetFeed_writes (s := s.heard) bh bl sh sl lt idle
    clear_value f
    have loads : LoadsOnly s.heard w := hw ▸ loadsOnly_fed ..
    have core : w.settle.core = w.core := settle_core w
    have kept {α : Type} (g : State → α) (same : g w.settle = g w)
        (blind : ∀ (u : State) l x y p, g { u with contributions := l, feedA := x, feedB := y, noticePending := p } = g u) :
        g w.settle = g s.heard := same.trans (loads.keeps g blind)
    have wireF : w.settle.wireF = s.wireF := kept State.wireF (settle_wireF w) fun _ _ _ _ _ => rfl
    have wireS : w.settle.wireS = s.wireS := kept State.wireS (settle_wireS w) fun _ _ _ _ _ => rfl
    have replies : w.settle.replies = s.replies := kept State.replies (settle_replies w) fun _ _ _ _ _ => rfl
    obtain ⟨v, done, answer⟩ := concluded_upward h seq 32 _ _ response
      (.inl (by show w.settle.wireF.isSome = true; rw [wireF]; exact busy)) rfl replies
    obtain ⟨budget, standing, saturated, measured, others⟩ := fed_feed (s := s.heard) f _ _ (hw ▸ core)
    have feed : ∀ g, (w.settle.upward v).feed g = w.settle.feed g := feed_congr rfl rfl
    refine ⟨w.settle.upward v, done, (loads.untouched.trans (untouched_of_core core)).trans (untouched_upward _ v),
      kept State.counters (settle_counters w) fun _ _ _ _ _ => rfl, ?_, ?_, ?_, ?_, fun g other => ?_, fun rests => ?_,
      fun sends => answer (by show w.settle.wireS.isSome = true; rw [wireS]; exact sends)⟩
    · rw [feed, hw]; exact budget
    · rw [feed, hw]; exact standing
    · rw [feed, hw]; exact saturated
    · rw [feed, hw]; exact measured
    · rw [feed, hw]; exact others g other
    · have still : w.settle = w := settle_idle w (by rw [hw]; cases f <;> exact rests)
      show w.settle.entries = _ ∧ w.settle.slots = _ ∧ w.settle.contributions = _
      rw [still, hw]
      cases f <;> exact ⟨rfl, rfl, rfl⟩

/-! ## The reading of a meter (R154, R155) -/

/-- The feed records at a reading. -/
theorem takeReading_feed (f g : Feed) (v : Nat) : (s.takeReading f v).feed g =
    if g = f then { s.feed f with measured := some (min v 16383), measuredTime := s.bridgeTime, stale := false } else s.feed g := by
  refine Eq.trans ?_ (setFeedRecord_feed_eq f g _)
  unfold State.takeReading
  dsimp only
  split
  · exact feed_congr rfl rfl g
  · rfl

/-- The reading of a metered feed retires its ramp-complete contributions. -/
theorem takeReading_contributions {f : Feed} (v : Nat) (metered : s.metered f = true) : (s.takeReading f v).contributions =
    s.contributions.filter (fun c => !(decide (c.feed = f) && decide (c.ramp ≤ c.elapsed))) := by
  refine (congrArg State.contributions (if_pos ?_)).trans ?_
  · cases f <;> exact metered
  · cases f <;> rfl

theorem loadsOnly_takeReading (f : Feed) (v : Nat) : LoadsOnly s (s.takeReading f v) :=
  (loadsOnly_setFeedRecord ..).trans (loadsOnly_ite (loadsOnly_contributions _) (.rfl' _))

/-- A METER station of a feed makes it metered (R145). -/
theorem metered_of_station {a : Nat} (valid : validStation a = true) (meter : (s.station a).config.role = .meter) {f : Feed}
    (feed : (s.station a).config.meterFeed.feed = some f) : s.metered f = true := by
  cases a with
  | zero => cases valid
  | succ k =>
    have lt : k < 126 := by simpa [validStation] using valid
    exact metered_iff.2 ⟨_, getAt_mem s.stations k .default lt, meter, feed⟩

theorem absorb_feed (i : Nat) (f : Frame) (g : Feed) : ((s.absorb i f).feed g).fixed = (s.feed g).fixed := by
  cases slot : s.slot i with
  | none =>
    unfold State.absorb
    rw [slot]
  | some r =>
    have counted : (s.count .lateReplies).feed g = s.feed g := by rw [count_eq]; exact feed_congr rfl rfl g
    by_cases waits : r.closing = true ∨ r.repollWait = true
    · rw [absorb_waits slot waits, ← counted]
      split
      · exact feed_of_core (closeRecord_core ..) g
      · rfl
    · obtain ⟨k, shape⟩ := absorb_core (f := f) slot waits
      cases g
      · exact (congrArg State.feedA shape :)
      · exact (congrArg State.feedB shape :)

theorem classifyUp_feed (f : Frame) (m : Option Nat) (g : Feed) : ((s.classifyUp f m).feed g).fixed = (s.feed g).fixed := by
  cases m with
  | some i => exact (feed_of_core (settleFrom_core ..) g).trans (absorb_feed i f g)
  | none =>
    show ((s.passUpFrame f).feed g).fixed = _
    rw [passUpFrame_shape]
    exact congrArg FeedRecord.fixed (feed_congr rfl rfl g)

/-- The arrival of a meter's STATE that carries its channel: the reading, the follow-up, then the absorption or the passage. -/
theorem reading_arrives {f : Frame} {feed : Feed} {v : Nat} (valid : validStation f.station = true) (state : f.kind = kindState)
    (read : (s.receiving s.portF.endFrame).meterReading f = some (feed, v)) : exec (.fFrameArrival f) s =
      .next (s.close (((s.receiving s.portF.endFrame).takeReading feed v).settle.classifyUp f (s.matchSlot f))) := by
  have noHello : f.kind ≠ kindHello := by rw [state]; decide
  have taps : (s.receiving s.portF.endFrame).upTaps f = ((s.receiving s.portF.endFrame).takeReading feed v).settle := by
    unfold State.upTaps
    rw [if_neg (by rw [state]; decide), if_neg (by rw [state]; decide), read]
  show Host.Outcome.next (s.close ((s.receiving s.portF.endFrame).fArrival f)) = _
  unfold State.fArrival
  rw [if_neg (by simp [valid]), if_neg noHello, taps]
  rfl

/-- Settles O33: the reading is written before the absorption or the passage, which leave all of a feed record but its head-of-line
fields; outside a run the follow-up leaves the contributions that the reading has left. -/
theorem meterReadingIsTaken : Obligations.MeterReadingIsTaken := by
  unfold Obligations.MeterReadingIsTaken
  intro s f feed v valid state loaded meter feeds value
  obtain ⟨z, hz⟩ : ∃ z, z = s.receiving s.portF.endFrame := ⟨_, rfl⟩
  have station : ∀ a, z.station a = s.station a := station_congr (by rw [hz]; rfl)
  have feedZ : ∀ g, z.feed g = s.feed g := feed_congr (by rw [hz]; rfl) (by rw [hz]; rfl)
  have listed : z.seenListed f.station = true := by
    have loadedZ : z.loading = false := by rw [hz]; exact loaded
    simp [State.seenListed, State.listed, loadedZ, station, meter]
  have read : z.meterReading f = some (feed, v) := by
    unfold State.meterReading
    simp [station, state, listed, meter, feeds, value]
  have arrives := reading_arrives valid state (hz ▸ read)
  rw [← hz] at arrives
  obtain ⟨w, hw⟩ : ∃ w, w = z.takeReading feed v := ⟨_, rfl⟩
  rw [← hw] at arrives
  have written : ∀ g, w.feed g = if g = feed then
      { s.feed feed with measured := some (min v 16383), measuredTime := s.bridgeTime, stale := false } else s.feed g := fun g => by
    rw [hw, takeReading_feed, feedZ, feedZ, hz]
    rfl
  obtain ⟨t, ht⟩ : ∃ t, t = s.close (w.settle.classifyUp f (s.matchSlot f)) := ⟨_, rfl⟩
  have fixed : ∀ g, (t.feed g).fixed = (w.feed g).fixed := fun g => by
    rw [ht, feed_of_base (close_base ..), classifyUp_feed, feed_of_core (settle_core w)]
  obtain ⟨-, -, measured, time, stale, -⟩ := FeedRecord.of_fixed (fixed feed)
  rw [written, if_pos rfl] at measured time stale
  refine ⟨t, by rw [arrives, ht], measured, time, stale, fun g => ?_, fun g other => ?_, fun idle unmatched busy => ?_⟩
  · obtain ⟨budget, standing, -⟩ := FeedRecord.of_fixed (fixed g)
    rw [budget, standing, written]
    split
    · next same => rw [same]; exact ⟨rfl, rfl⟩
    · exact ⟨rfl, rfl⟩
  · obtain ⟨-, -, measured, time, stale, -⟩ := FeedRecord.of_fixed (fixed g)
    rw [measured, time, stale, written, if_neg other]
    exact ⟨rfl, rfl, rfl⟩
  · have loads : LoadsOnly z w := hw ▸ loadsOnly_takeReading feed v
    have run : w.run = s.run := (loads.keeps State.run fun _ _ _ _ _ => rfl).trans (by rw [hz]; rfl)
    have wireF : w.wireF = s.wireF := (loads.keeps State.wireF fun _ _ _ _ _ => rfl).trans (by rw [hz]; rfl)
    have still : w.settle = w := settle_idle w (by rw [run]; exact idle)
    have passed : w.settle.classifyUp f (s.matchSlot f) = w.passUpFrame f := by rw [still, unmatched]; rfl
    have sends : (w.passUpFrame f).FBusy := by
      unfold State.FBusy
      rw [passUpFrame_shape, wireF]
      exact busy
    obtain ⟨x, closed, -⟩ := close_upward (s := s) sends
    rw [ht, passed, closed]
    show (w.passUpFrame f).contributions = _
    have metered : z.metered feed = true :=
      metered_of_station valid ((station f.station).symm ▸ meter) ((station f.station).symm ▸ feeds)
    rw [passUpFrame_shape, hw, takeReading_contributions v metered, hz]
    rfl

end Sys2Proof.Machine
end

section
/-! SUPPORT. A slice before its waits are counted (R151): the advance of the contributions, the folding on the unmetered feeds
(R152) and the test for stale readings (R153). -/

namespace Sys2Proof.Machine

variable {s t : State}

/-! ## Folding (R152) -/

/-- A feed record whose standing load has taken a load: it stops at 16383, and then the fold-saturated mark is set. -/
def FeedRecord.taking (r : FeedRecord) (load : Nat) : FeedRecord :=
  { r with standing := min 16383 (r.standing + load), foldSaturated := r.foldSaturated || decide (16383 < r.standing + load) }

theorem taking_zero {r : FeedRecord} (capped : r.standing ≤ 16383) : r.taking 0 = r := by
  unfold FeedRecord.taking
  simp [capped, decide_eq_false (Nat.not_lt.2 capped)]

theorem taking_taking (r : FeedRecord) (a b : Nat) : (r.taking a).taking b = r.taking (a + b) := by
  unfold FeedRecord.taking
  have standing : min 16383 (min 16383 (r.standing + a) + b) = min 16383 (r.standing + (a + b)) := by omega
  have saturates : (16383 < r.standing + a ∨ 16383 < min 16383 (r.standing + a) + b) ↔ 16383 < r.standing + (a + b) := by omega
  simp [standing, Bool.or_assoc, ← Bool.decide_or, saturates]

theorem fold_feed (c : Contribution) (f : Feed) : (s.fold c).feed f =
    if f = c.feed then (s.feed c.feed).taking c.steady else s.feed f := by
  have written : ∀ r, (s.feed c.feed).taking c.steady = r →
      (s.setFeedRecord c.feed r).feed f = if f = c.feed then (s.feed c.feed).taking c.steady else s.feed f := fun r same => by
    rw [same]
    exact setFeedRecord_feed_eq _ _ _
  unfold State.fold
  dsimp only
  split
  · next room =>
    have room : (s.feed c.feed).standing + c.steady ≤ 16383 := room
    exact written _ (by simp [FeedRecord.taking, room])
  · next full =>
    have full : 16383 < (s.feed c.feed).standing + c.steady := Nat.not_le.1 full
    refine (feed_congr (s := s.setFeedRecord c.feed _) rfl rfl f).trans (written _ ?_)
    simp [FeedRecord.taking, full, full.le, Config.loadTop]

theorem fold_raises {c : Contribution} (full : 16383 < (s.feed c.feed).standing + c.steady) :
    (s.fold c).isPending .foldSaturated = true := by
  unfold State.fold
  dsimp only
  rw [if_neg (show ¬ (s.feed c.feed).standing + c.steady ≤ Config.loadTop from Nat.not_le.2 full)]
  exact raise_isPending _ _

theorem loadsOnly_fold (c : Contribution) : LoadsOnly s (s.fold c) :=
  loadsOnly_ite (loadsOnly_setFeedRecord ..) ((loadsOnly_setFeedRecord ..).trans (loadsOnly_raise _))

theorem follows_fold (c : Contribution) : Follows s (s.fold c) := by
  unfold State.fold
  dsimp only
  split
  · exact follows_setFeedRecord ..
  · exact (follows_setFeedRecord ..).trans (follows_raise ..)

/-- The load that a list of contributions brings to the standing load of a feed. -/
def foldedLoad (l : List Contribution) (f : Feed) : Nat := ((l.filter (fun c => decide (c.feed = f))).map Contribution.steady).sum

theorem foldedLoad_cons (c : Contribution) (l : List Contribution) (f : Feed) :
    foldedLoad (c :: l) f = if f = c.feed then c.steady + foldedLoad l f else foldedLoad l f := by
  unfold foldedLoad
  by_cases own : c.feed = f
  · simp [own]
  · simp [own, Ne.symm own]

/-- Contributions folded one after another come to one load on each feed. -/
theorem foldl_fold_feed (l : List Contribution) (f : Feed) (capped : (s.feed f).standing ≤ 16383) :
    (l.foldl State.fold s).feed f = (s.feed f).taking (foldedLoad l f) := by
  induction l generalizing s with
  | nil => exact (taking_zero capped).symm
  | cons c l ih =>
    have folded := fold_feed (s := s) c f
    rw [List.foldl_cons, foldedLoad_cons]
    split
    · next own =>
      subst own
      rw [if_pos rfl] at folded
      rw [ih (by rw [folded]; exact Nat.min_le_left _ _), folded, taking_taking]
    · next other =>
      rw [if_neg other] at folded
      rw [ih (by rw [folded]; exact capped), folded]

theorem foldl_fold_raises (l : List Contribution) (f : Feed) (full : 16383 < (s.feed f).standing + foldedLoad l f)
    (capped : (s.feed f).standing ≤ 16383) : (l.foldl State.fold s).isPending .foldSaturated = true := by
  induction l generalizing s with
  | nil => exact absurd full (Nat.not_lt.2 capped)
  | cons c l ih =>
    have folded := fold_feed (s := s) c f
    rw [foldedLoad_cons] at full
    rw [List.foldl_cons]
    by_cases own : f = c.feed
    · subst own
      rw [if_pos rfl] at folded full
      by_cases now : 16383 < (s.feed c.feed).standing + c.steady
      · exact (follows_foldl _ (fun _ => follows_fold) l _).pending _ (fold_raises now)
      · have standing : ((s.fold c).feed c.feed).standing = (s.feed c.feed).standing + c.steady := by
          rw [folded]
          exact Nat.min_eq_right (Nat.not_lt.1 now)
        exact ih (by omega) (by omega)
    · rw [if_neg own] at folded full
      exact ih (by rw [folded]; exact full) (by rw [folded]; exact capped)

/-- The folding of a slice (R151, step 2) on one feed. -/
theorem foldContributions_feed {f : Feed} (capped : (s.feed f).standing ≤ 16383) :
    s.foldContributions.feed f = (s.feed f).taking (foldedLoad (s.contributions.filter s.foldsNow) f) := by
  have kept := feed_congr (s := s) (t := { s with contributions := s.contributions.filter fun c => !s.foldsNow c }) rfl rfl f
  exact (foldl_fold_feed _ f (kept ▸ capped)).trans (by rw [kept])

theorem foldContributions_raises {f : Feed} (capped : (s.feed f).standing ≤ 16383)
    (full : 16383 < (s.feed f).standing + foldedLoad (s.contributions.filter s.foldsNow) f) :
    s.foldContributions.isPending .foldSaturated = true := by
  have kept := feed_congr (s := s) (t := { s with contributions := s.contributions.filter fun c => !s.foldsNow c }) rfl rfl f
  exact foldl_fold_raises _ f (kept ▸ full) (kept ▸ capped)

theorem loadsOnly_foldContributions : LoadsOnly s s.foldContributions :=
  foldl_kept (LoadsOnly s) State.fold _ (fun _ c _ reached => reached.trans (loadsOnly_fold c)) _ (loadsOnly_contributions _)

theorem foldl_fold_contributions (l : List Contribution) : (l.foldl State.fold s).contributions = s.contributions :=
  foldl_keeps State.contributions State.fold (fun u c => by
    unfold State.fold
    dsimp only
    split <;> simp) l s

/-! ## Stale readings (R153) -/

/-- A reading more than 5 s old, of a metered feed. -/
def FeedRecord.late (r : FeedRecord) (metered : Bool) (now : BridgeTime) : Bool :=
  metered && r.measured.isSome && decide (500 < (now - r.measuredTime).toNat)

/-- A feed record whose late reading has its stale mark. -/
def FeedRecord.aged (r : FeedRecord) (metered : Bool) (now : BridgeTime) : FeedRecord :=
  { r with stale := r.stale || r.late metered now }

theorem testStale_eq (f : Feed) : s.testStale f =
    if ((s.feed f).late (s.metered f) s.bridgeTime && !(s.feed f).stale) = true then
      (s.setFeedRecord f { s.feed f with stale := true }).raise .meterStale
    else s := by
  refine if_congr (iff_of_eq (congrArg (· = true) ?_)) rfl rfl
  exact Bool.and_right_comm (s.metered f && (s.feed f).measured.isSome) _ _

theorem testStale_feed (f g : Feed) : (s.testStale f).feed g =
    if g = f then (s.feed f).aged (s.metered f) s.bridgeTime else s.feed g := by
  rw [testStale_eq]
  split
  · next marks =>
    obtain ⟨late, -⟩ := Bool.and_eq_true_iff.1 marks
    have aged : { s.feed f with stale := true } = (s.feed f).aged (s.metered f) s.bridgeTime := by
      rw [FeedRecord.aged, late, Bool.or_true]
    rw [← aged]
    exact (feed_congr (s := s.setFeedRecord f _) rfl rfl g).trans (setFeedRecord_feed_eq f g _)
  · next leaves =>
    have aged : (s.feed f).aged (s.metered f) s.bridgeTime = s.feed f := by
      have same : ((s.feed f).stale || (s.feed f).late (s.metered f) s.bridgeTime) = (s.feed f).stale := by
        cases stale : (s.feed f).stale <;> simp_all
      rw [FeedRecord.aged, same]
    split
    · next own => rw [own, aged]
    · rfl

theorem testStale_raises {f : Feed} (late : (s.feed f).late (s.metered f) s.bridgeTime = true) (fresh : (s.feed f).stale = false) :
    (s.testStale f).isPending .meterStale = true := by
  rw [testStale_eq, if_pos (by rw [late, fresh]; rfl)]
  exact raise_isPending _ _

theorem loadsOnly_testStale (f : Feed) : LoadsOnly s (s.testStale f) :=
  loadsOnly_ite ((loadsOnly_setFeedRecord ..).trans (loadsOnly_raise _)) (.rfl' s)

theorem follows_testStale (f : Feed) : Follows s (s.testStale f) := by
  rw [testStale_eq]
  split
  · exact (follows_setFeedRecord ..).trans (follows_raise ..)
  · exact .rfl' s

theorem testStale_contributions (f : Feed) : (s.testStale f).contributions = s.contributions := by
  rw [testStale_eq]
  split
  · exact setFeedRecord_contributions s f _
  · rfl

/-- The stale tests of a slice. -/
def State.staleTested (s : State) : State := (s.testStale .a).testStale .b

theorem loadsOnly_staleTested : LoadsOnly s s.staleTested := (loadsOnly_testStale .a).trans (loadsOnly_testStale .b)

theorem follows_staleTested : Follows s s.staleTested := (follows_testStale .a).trans (follows_testStale .b)

/-- What the test of one feed's reading leaves of what the other's test reads. -/
theorem testStale_reads (f g : Feed) : (s.testStale f).metered g = s.metered g ∧ (s.testStale f).bridgeTime = s.bridgeTime :=
  ⟨(loadsOnly_testStale f).keeps (fun u => u.metered g) fun _ _ _ _ _ => rfl,
    (loadsOnly_testStale f).keeps State.bridgeTime fun _ _ _ _ _ => rfl⟩

theorem staleTested_feed (f : Feed) : s.staleTested.feed f = (s.feed f).aged (s.metered f) s.bridgeTime := by
  obtain ⟨metered, now⟩ := testStale_reads (s := s) .a f
  unfold State.staleTested
  rw [testStale_feed]
  cases f with
  | a => exact (if_neg (by decide)).trans ((testStale_feed .a .a).trans (if_pos rfl))
  | b => rw [if_pos rfl, metered, now, testStale_feed, if_neg (by decide)]

theorem staleTested_raises {f : Feed} (late : (s.feed f).late (s.metered f) s.bridgeTime = true)
    (fresh : (s.feed f).stale = false) : s.staleTested.isPending .meterStale = true := by
  cases f with
  | a => exact (follows_testStale .b).pending _ (testStale_raises late fresh)
  | b =>
    obtain ⟨metered, now⟩ := testStale_reads (s := s) .a .b
    have same : (s.testStale .a).feed .b = s.feed .b := (testStale_feed .a .b).trans (if_neg (by decide))
    exact testStale_raises (by rw [same, metered, now]; exact late) (by rw [same]; exact fresh)

/-! ## The slice before its waits (R151) -/

/-- A slice's start and the advance of the contributions (R151, step 1). -/
def State.advanced (s : State) : State :=
  State.advanceContributions { s with sliceDeadline := s.sliceDeadline + BitVec.ofNat 32 Config.sliceUnits }

/-- The contributions after the advance of a slice. -/
def State.moved (s : State) : List Contribution :=
  s.contributions.map (fun c => if c.running = true ∧ c.elapsed < c.ramp then { c with elapsed := c.elapsed + 1 } else c)

theorem advanced_contributions : s.advanced.contributions = s.moved := by
  refine List.map_congr_left fun c _ => ?_
  simp [Contribution.advance]

theorem advanced_feed (f : Feed) : s.advanced.feed f = s.feed f := feed_congr rfl rfl f

theorem sliced_eq : s.sliced = s.advanced.foldContributions.staleTested := rfl

theorem loadsOnly_sliced : LoadsOnly { s with sliceDeadline := s.sliceDeadline + 10 } s.sliced :=
  ((loadsOnly_contributions _).trans loadsOnly_foldContributions).trans loadsOnly_staleTested

/-- What reads neither the loads nor the slice's deadline stays. -/
theorem sliced_keeps {α : Type} (g : State → α) (deadline : ∀ (u : State) d, g { u with sliceDeadline := d } = g u)
    (blind : ∀ (u : State) l x y p, g { u with contributions := l, feedA := x, feedB := y, noticePending := p } = g u) :
    g s.sliced = g s := (loadsOnly_sliced.keeps g blind).trans (deadline s _)

theorem sliced_counters : s.sliced.counters = s.counters := sliced_keeps State.counters (fun _ _ => rfl) fun _ _ _ _ _ => rfl

/-- Whether a contribution is folded at a slice: ramp-complete, on an unmetered feed. -/
def State.folds (s : State) (c : Contribution) : Bool := decide (c.ramp ≤ c.elapsed) && !s.metered c.feed

theorem sliced_contributions : s.sliced.contributions = s.moved.filter (fun c => !s.folds c) := by
  rw [sliced_eq, State.staleTested, testStale_contributions, testStale_contributions]
  refine (foldl_fold_contributions _).trans ?_
  rw [advanced_contributions]
  rfl

/-- The load that a slice folds into a feed's standing load. -/
def State.sliceLoad (s : State) (f : Feed) : Nat :=
  ((s.moved.filter (fun c => s.folds c && decide (c.feed = f))).map Contribution.steady).sum

theorem foldedLoad_sliced (f : Feed) : foldedLoad (s.advanced.contributions.filter s.advanced.foldsNow) f = s.sliceLoad f := by
  unfold foldedLoad
  rw [advanced_contributions, List.filter_filter, List.filter_congr fun c _ => Bool.and_comm _ _]
  rfl

/-- What the folding leaves of what the stale test of a feed reads. -/
theorem folded_reads (f : Feed) : s.advanced.foldContributions.metered f = s.metered f
    ∧ s.advanced.foldContributions.bridgeTime = s.bridgeTime :=
  ⟨loadsOnly_foldContributions.keeps (fun u => u.metered f) fun _ _ _ _ _ => rfl,
    loadsOnly_foldContributions.keeps State.bridgeTime fun _ _ _ _ _ => rfl⟩

section
variable {f : Feed} (capped : (s.feed f).standing ≤ 16383)
include capped

theorem folded_feed : s.advanced.foldContributions.feed f = (s.feed f).taking (s.sliceLoad f) := by
  rw [foldContributions_feed (by rw [advanced_feed]; exact capped), advanced_feed, foldedLoad_sliced]

/-- A feed record after a slice's folding and stale test. -/
theorem sliced_feed : s.sliced.feed f = ((s.feed f).taking (s.sliceLoad f)).aged (s.metered f) s.bridgeTime := by
  obtain ⟨metered, now⟩ := folded_reads (s := s) f
  rw [sliced_eq, staleTested_feed, metered, now, folded_feed capped]

theorem sliced_saturates (full : 16383 < (s.feed f).standing + s.sliceLoad f) : s.sliced.isPending .foldSaturated = true := by
  refine follows_staleTested.pending _ (foldContributions_raises (s := s.advanced) (f := f) ?_ ?_)
  · rw [advanced_feed]
    exact capped
  · rw [advanced_feed, foldedLoad_sliced]
    exact full

theorem sliced_stale (late : (s.feed f).late (s.metered f) s.bridgeTime = true) (fresh : (s.feed f).stale = false) :
    s.sliced.isPending .meterStale = true := by
  obtain ⟨metered, now⟩ := folded_reads (s := s) f
  have feed := folded_feed capped
  refine staleTested_raises (s := s.advanced.foldContributions) (f := f) ?_ ?_
  · rw [metered, now, feed]
    exact late
  · rw [feed]
    exact fresh
end

end Sys2Proof.Machine
end

section
/-! SUPPORT. The counting of the admission waits (R157 to R159), and the slice (R151). -/

namespace Sys2Proof.Machine

variable {s t : State} {f : Feed} {n : Nat}

/-! ## A head that waits (R157 to R159) -/

/-- The admission test of a feed's head is made (R157, R158). -/
def State.TestMade (s : State) (n : Nat) : Prop :=
  s.runState = .running ∧ s.hasRecord (s.step n).station = false ∧ s.needsFrame n = true

/-- A feed has room for a step (R156). -/
def State.Room (s : State) (f : Feed) (n : Nat) : Prop :=
  s.estimate f + (s.step n).peak ≤ (s.feed f).budget ∧ s.contributions.length < 96

/-- One wait more takes a feed's head above the admission wait limit (R160). -/
def State.Overdue (s : State) (f : Feed) : Prop := s.settings.admissionLimit * 10 < (s.feed f).waitCount + 1

/-- A step is the head of a feed, its test is made and fails. -/
structure State.Waits (s : State) (f : Feed) (n : Nat) : Prop where
  head : s.headOf f = some n
  made : s.TestMade n
  full : ¬ s.Room f n

/-- `s` with a wait of a feed's head counted, its wait start set at the first (R158, R159). -/
def State.waited (s : State) (f : Feed) : State :=
  s.setFeedRecord f { s.feed f with
    waitStart := some ((s.feed f).waitStart.getD s.bridgeTime), waitCount := (s.feed f).waitCount + 1 }

theorem headOf_awaiting (head : s.headOf f = some n) :
    n < 96 ∧ (s.entry n).state = .awaiting ∧ (s.step n).used = true := by
  obtain ⟨lt, waits, -⟩ := find?_stepNumbers.1 head
  simp only [Bool.and_eq_true, decide_eq_true_eq] at waits
  obtain ⟨⟨awaiting, used⟩, -⟩ := waits
  exact ⟨lt, awaiting, used⟩

theorem headTested_iff (head : s.headOf f = some n) : s.headTested n = true ↔ s.TestMade n := by
  obtain ⟨-, awaiting, used⟩ := headOf_awaiting head
  have waits : s.stepState n = .awaiting := (if_pos used).trans awaiting
  unfold State.headTested State.TestMade
  rw [Bool.and_eq_true, mayAct_iff]
  simp [waits, and_assoc]

theorem admits_iff : s.admits f n = true ↔ s.Room f n := by
  simp only [State.admits, Bool.and_eq_true, decide_eq_true_eq]
  exact Iff.rfl

theorem waits_iff : (decide (s.headOf f = some n) && s.headTested n && !s.admits f n) = true ↔ s.Waits f n := by
  rw [Bool.and_eq_true, Bool.and_eq_true, decide_eq_true_eq, and_assoc, Bool.not_eq_true', ← Bool.not_eq_true, admits_iff]
  exact ⟨fun ⟨head, tested, full⟩ => ⟨head, (headTested_iff head).1 tested, full⟩,
    fun ⟨head, made, full⟩ => ⟨head, (headTested_iff head).2 made, full⟩⟩

theorem countWait_passes (passes : ¬ s.Waits f n) : s.countWait f n = s := if_neg (mt waits_iff.1 passes)

theorem loadsOnly_waited : LoadsOnly s (s.waited f) := loadsOnly_setFeedRecord ..

theorem waited_core : (s.waited f).core = s.core := by
  refine setFeedRecord_core ?_
  rfl

theorem waited_entry (m : Nat) : (s.waited f).entry m = s.entry m :=
  entry_congr (loadsOnly_waited.keeps State.entries fun _ _ _ _ _ => rfl) m

/-- The mark of the first failure and the count come to one write of the feed's record. -/
theorem markWait_counted (waits : s.Waits f n) : (s.markWait f).setFeedRecord f
    { (s.markWait f).feed f with waitCount := ((s.markWait f).feed f).waitCount + 1 } = s.waited f := by
  obtain ⟨head, made, full⟩ := waits
  have tested : s.headTested n = true := (headTested_iff head).2 made
  have refused : s.admits f n = false := Bool.eq_false_iff.2 (mt admits_iff.1 full)
  have marked : s.markWait f = if (s.feed f).waitStart.isNone = true
      then s.setFeedRecord f { s.feed f with waitStart := some s.bridgeTime } else s := by
    unfold State.markWait
    rw [head]
    simp only [tested, refused, Bool.not_false, Bool.and_self, Bool.true_and]
  rw [marked, State.waited]
  cases start : (s.feed f).waitStart with
  | none => cases f <;> rfl
  | some x =>
    show s.setFeedRecord f { s.feed f with waitCount := (s.feed f).waitCount + 1 } = _
    rw [Option.getD_some, ← start]

theorem countWait_waits (waits : s.Waits f n) : s.countWait f n =
    if s.settings.admissionLimit * 10 < (s.feed f).waitCount + 1
    then ((s.waited f).failStep n .overBudget 0).settle else s.waited f := by
  have count : ((s.waited f).feed f).waitCount = (s.feed f).waitCount + 1 := by rw [State.waited, setFeedRecord_feed]
  have settings : (s.waited f).settings = s.settings := loadsOnly_waited.keeps State.settings fun _ _ _ _ _ => rfl
  refine (if_pos (waits_iff.2 waits)).trans ?_
  dsimp only
  rw [markWait_counted waits, count, settings]

theorem countWait_counts (waits : s.Waits f n) (within : ¬ s.Overdue f) : s.countWait f n = s.waited f :=
  (countWait_waits waits).trans (if_neg within)

theorem countWait_fails (waits : s.Waits f n) (late : s.Overdue f) :
    s.countWait f n = ((s.waited f).failStep n .overBudget 0).settle := (countWait_waits waits).trans (if_pos late)

/-! ## The counting of the waits (R159, R160) -/

/-- What the counting of each wait keeps, the counting of both heads' waits keeps. -/
theorem countWaits_kept (P : State → Prop) (each : ∀ u f n, P u → P (State.countWait u f n)) (h : P s) : P s.countWaits := by
  unfold State.countWaits
  split
  · split
    · exact each _ _ _ (each _ _ _ h)
    · exact each _ _ _ (each _ _ _ h)
  · exact each _ _ _ h
  · exact each _ _ _ h
  · exact h

theorem countWait_core (f : Feed) (n : Nat) : (s.countWait f n).core = s.core := by
  by_cases waits : s.Waits f n
  · rw [countWait_waits waits]
    split
    · exact (settle_core _).trans ((failStep_core ..).trans waited_core)
    · exact waited_core
  · rw [countWait_passes waits]

theorem countWaits_core : s.countWaits.core = s.core :=
  countWaits_kept (fun u => u.core = s.core) (fun _ f n same => (countWait_core f n).trans same) rfl

theorem follows_failStep {n : Nat} (live : (s.entry n).state.terminal = false) (cause : FailureCause) (nak : Byte) :
    Follows s (s.failStep n cause nak) := by
  unfold State.failStep
  exact (((follows_setEntry s n _ live).trans (follows_startClock _ n)).trans (follows_raise _ _)).trans (follows_propagate n)

theorem follows_countWait (f : Feed) (n : Nat) : Follows s (s.countWait f n) := by
  by_cases waits : s.Waits f n
  · have counted : Follows s (s.waited f) := follows_setFeedRecord ..
    obtain ⟨-, awaits, -⟩ := headOf_awaiting waits.head
    rw [countWait_waits waits]
    split
    · exact (counted.trans (follows_failStep (by rw [waited_entry, awaits]; rfl) _ _)).trans (follows_settle _)
    · exact counted
  · rw [countWait_passes waits]
    exact .rfl' s

theorem follows_countWaits : Follows s s.countWaits :=
  countWaits_kept (Follows s) (fun _ f n reached => reached.trans (follows_countWait f n)) (.rfl' s)

theorem not_waits_idle (idle : s.run.inProgress = false) : ¬ s.Waits f n := fun waits => by
  obtain ⟨running, -⟩ := waits.made
  rw [runState_idle idle] at running
  cases running

theorem countWaits_idle (idle : s.run.inProgress = false) : s.countWaits = s :=
  countWaits_kept (fun u => u = s) (fun u f n same => by
    rw [same, countWait_passes (not_waits_idle idle)]) rfl

/-! ## The slice -/

theorem sliceEnds_core : s.sliced.countWaits.settle.core = s.sliced.core := (settle_core _).trans countWaits_core

/-- A slice while the F-port sends: the counting of the waits, the follow-up, and the upward side. -/
theorem slice_closes (busy : s.FBusy) : ∃ v, exec .sliceExpiry s = .next (s.sliced.countWaits.settle.upward v) := by
  have wireF : s.sliced.countWaits.settle.wireF = s.wireF :=
    (congrArg State.wireF sliceEnds_core :).trans (sliced_keeps State.wireF (fun _ _ => rfl) fun _ _ _ _ _ => rfl)
  obtain ⟨v, closed, -⟩ := close_upward (s := s) (t := s.sliced.countWaits.settle) (by
    unfold State.FBusy
    rw [wireF]
    exact busy)
  exact ⟨v, congrArg Host.Outcome.next closed⟩

theorem follows_sliceEnds (v : State) : Follows s.sliced (s.sliced.countWaits.settle.upward v) :=
  (follows_countWaits.trans (follows_settle _)).trans (follows_of_same rfl rfl)

/-- Settles O45: the loads after the advance, the folding and the stale tests; the counting of the waits and the follow-up leave
what `State.core` keeps, take back no flag, and do nothing outside a run. -/
theorem sliceAdvancesAndFolds : Obligations.SliceAdvancesAndFolds := by
  unfold Obligations.SliceAdvancesAndFolds
  intro s busy capped
  obtain ⟨v, done⟩ := slice_closes busy
  have core := sliceEnds_core (s := s)
  have follows := follows_sliceEnds (s := s) v
  refine ⟨s.sliced, s.sliced.countWaits.settle.upward v, done,
    (loadsOnly_sliced.untouched.trans (untouched_of_core core)).trans (untouched_upward _ v), ?counters, ?queues, loadsOnly_sliced,
    sameRun_upward _ v, rfl, rfl, fun idle => ?idle, sliced_contributions, fun f => ?feeds⟩
  case counters => exact (congrArg State.counters core :).trans sliced_counters
  case queues => exact (congrArg State.queues core :).trans (sliced_keeps State.queues (fun _ _ => rfl) fun _ _ _ _ _ => rfl)
  case idle =>
    have run : s.sliced.run.inProgress = false := by
      rw [sliced_keeps State.run (fun _ _ => rfl) fun _ _ _ _ _ => rfl]
      exact idle
    rw [countWaits_idle run, settle_idle _ run]
    exact ⟨sameRun_upward _ v, rfl, rfl⟩
  case feeds =>
    intro sum late
    have isLate : (s.feed f).late (s.metered f) s.bridgeTime = true ↔ late := by
      simp [FeedRecord.late, late, and_assoc]
    have feed := sliced_feed (capped f)
    refine ⟨?record, ?stale, fun full => follows.pending _ (sliced_saturates (capped f) full),
      fun old fresh => follows.pending _ (sliced_stale (capped f) (isLate.2 old) fresh)⟩
    case record =>
      rw [feed]
      rfl
    case stale =>
      rw [feed, ← isLate]
      exact Bool.or_eq_true_iff

end Sys2Proof.Machine
end

section
/-! SUPPORT. A head that fails OVER-BUDGET at a slice, and the heads of both feeds (R139, R140, R157 to R160). -/

namespace Sys2Proof.Machine

variable {s t : State} {f : Feed} {n : Nat}

/-! ## A head that fails OVER-BUDGET (R139, R140, R160) -/

/-- `s` with a step FAILED for OVER-BUDGET, its clock started and "admission timeout" raised, before what follows from it. -/
def State.timingOut (s : State) (n : Nat) : State :=
  ((s.setEntry n { s.entry n with state := .failed, cause := .overBudget, nak := 0 }).startClock n).raise .admissionTimeout

theorem failStep_overBudget : s.failStep n .overBudget 0 = (s.timingOut n).propagate n := rfl

theorem timingOut_entry (m : Nat) : (s.timingOut n).entry m =
    if n = m ∧ m < 96 then { s.entry n with state := .failed, cause := .overBudget, nak := 0 } else s.entry m :=
  setEntry_entry s n m _

theorem timingOut_core : (s.timingOut n).core = s.core := setEntry_core ..

theorem timingOut_run : (s.timingOut n).run = s.run := setEntry_run ..

theorem propagated_step : (s.timingOut n).evaluateAll.step n = s.step n :=
  step_of_plan (plan_of_core ((evaluateAll_core _).trans timingOut_core)) n

theorem overBudget_ordinary (ordinary : (s.step n).criticality = .ordinary) :
    s.failStep n .overBudget 0 = (s.timingOut n).evaluateAll := by
  rw [failStep_overBudget]
  unfold State.propagate
  dsimp only
  rw [propagated_step, ordinary]

theorem overBudget_essential (essential : (s.step n).criticality = .essential) : s.failStep n .overBudget 0 =
    (((s.timingOut n).halting n).faultRequest (s.step n).station .essentialStep).evaluateAll := by
  rw [failStep_overBudget]
  unfold State.propagate
  dsimp only
  rw [propagated_step, essential]
  rfl

/-- From `s` to `x` a step has failed OVER-BUDGET, its attempts kept, with "admission timeout" and without a count. -/
def TimedOutSince (s x : State) (k : Nat) : Prop :=
  (x.entry k).state = .failed ∧ (x.entry k).cause = .overBudget ∧ (x.entry k).attempts = (s.entry k).attempts
    ∧ x.isPending .admissionTimeout = true ∧ x.counters = s.counters

theorem TimedOutSince.later {x y : State} {k : Nat} (h : TimedOutSince s x k) (follows : Follows x y)
    (counters : y.counters = x.counters) : TimedOutSince s y k := by
  obtain ⟨failed, cause, attempts, raised, counted⟩ := h
  have same : y.entry k = x.entry k := follows.terminal k (by rw [failed]; rfl)
  unfold TimedOutSince
  rw [same]
  exact ⟨failed, cause, attempts, follows.pending _ raised, counters.trans counted⟩

theorem countWait_timesOut {x : State} (waits : x.Waits f n) (late : x.Overdue f)
    (attempts : (x.entry n).attempts = (s.entry n).attempts) (counters : x.counters = s.counters) :
    TimedOutSince s (x.countWait f n) n := by
  obtain ⟨lt, -⟩ := headOf_awaiting waits.head
  have entry : ((x.waited f).timingOut n).entry n = { x.entry n with state := .failed, cause := .overBudget, nak := 0 } := by
    rw [timingOut_entry, if_pos ⟨rfl, lt⟩, waited_entry]
  have counted : ((x.waited f).timingOut n).counters = s.counters :=
    (congrArg State.counters (timingOut_core.trans waited_core) :).trans counters
  have failed : TimedOutSince s ((x.waited f).timingOut n) n := by
    unfold TimedOutSince
    rw [entry]
    exact ⟨rfl, rfl, attempts, raise_isPending _ _, counted⟩
  rw [countWait_fails waits late, failStep_overBudget]
  refine failed.later ((follows_propagate n).trans (follows_settle _)) ?_
  rw [settle_counters, ← failStep_overBudget]
  exact (congrArg State.counters ((failStep_core ..).trans timingOut_core.symm) :)

theorem TimedOutSince.counted {x : State} {k : Nat} (h : TimedOutSince s x k) (g : Feed) (m : Nat) :
    TimedOutSince s (x.countWait g m) k := h.later (follows_countWait g m) (congrArg State.counters (countWait_core g m) :)

/-- An ORDINARY head with no contribution that fails OVER-BUDGET. -/
theorem countWait_ordinary (waits : s.Waits f n) (late : s.Overdue f) (ordinary : (s.step n).criticality = .ordinary)
    (none : ∀ c ∈ s.contributions, c.step ≠ n) : s.countWait f n =
      (((s.waited f).setEntry n { s.entry n with state := .failed, cause := .overBudget, nak := 0 }).raise
        .admissionTimeout).evaluateAll.settle := by
  obtain ⟨w, hw⟩ : ∃ w, w = (s.waited f).setEntry n
    { s.entry n with state := .failed, cause := .overBudget, nak := 0 } := ⟨_, rfl⟩
  have contributions : w.contributions = s.contributions := by
    rw [hw, setEntry_contributions]
    exact setFeedRecord_contributions s f _
  have still : w.startClock n = w := by
    have same : (w.startClock n).contributions = w.contributions := by
      rw [startClock_contributions, contributions]
      exact (List.map_congr_left fun c mem => if_neg (none c mem)).trans (List.map_id _)
    exact congrArg (fun l => { w with contributions := l }) same
  have step : ((s.waited f).step n).criticality = .ordinary := by
    rw [step_of_plan (plan_of_core waited_core)]
    exact ordinary
  rw [countWait_fails waits late, overBudget_ordinary step, State.timingOut, waited_entry, ← hw, still]

theorem runState_halted (halted : s.run.halting.isSome = true) : s.runState ≠ .running := by
  unfold State.runState
  rw [if_pos halted]
  split <;> decide

theorem running_unhalted (running : s.runState = .running) : s.run.halting = none := by
  by_contra halted
  exact runState_halted (Option.isSome_iff_ne_none.2 halted) running

/-- A halted run does not become RUNNING by the follow-up. -/
theorem settle_halted (halted : s.run.halting.isSome = true) : s.settle.runState ≠ .running := by
  cases runs : s.settle.run.inProgress with
  | false =>
    rw [runState_idle runs]
    decide
  | true =>
    have run : s.settle.run = s.run := followUp_runs true runs
    exact runState_halted (by rw [run]; exact halted)

/-- An ESSENTIAL head that fails OVER-BUDGET halts the run. -/
theorem countWait_halts (waits : s.Waits f n) (late : s.Overdue f) (essential : (s.step n).criticality = .essential) :
    (s.countWait f n).runState ≠ .running ∧ (s.countWait f n).isPending .halted = true := by
  obtain ⟨running, -⟩ := waits.made
  obtain ⟨w, hw⟩ : ∃ w, w = (s.waited f).timingOut n := ⟨_, rfl⟩
  have run : w.evaluateAll.run = s.run := by
    rw [evaluateAll_run, hw, timingOut_run]
    exact loadsOnly_waited.keeps State.run fun _ _ _ _ _ => rfl
  have step : ((s.waited f).step n).criticality = .essential := by
    rw [step_of_plan (plan_of_core waited_core)]
    exact essential
  rw [countWait_fails waits late, overBudget_essential step, ← hw]
  refine ⟨settle_halted ?_, ?_⟩
  · rw [evaluateAll_run, faultRequest_run, State.halting, haltRun_run]
    rfl
  · have raised : (w.halting n).isPending .halted = true := haltRun_raises (by rw [run]; exact running_unhalted running)
    exact (((follows_faultRequest _ _ _).trans (follows_evaluateAll _)).trans (follows_settle _)).pending _ raised

/-! ## The attempts that a step has made -/

/-- From `s` to `t` every step keeps its attempt count. -/
def KeepsAttempts (s t : State) : Prop := ∀ m, (t.entry m).attempts = (s.entry m).attempts

theorem KeepsAttempts.trans {u : State} (h : KeepsAttempts s t) (k : KeepsAttempts t u) : KeepsAttempts s u :=
  fun m => (k m).trans (h m)

theorem keepsAttempts_of_same (same : t.entries = s.entries) : KeepsAttempts s t := fun m => by rw [entry_congr same]

theorem EntriesTurn.attempts (h : EntriesTurn s t) : KeepsAttempts s t := fun m => (h m).attempts

theorem keepsAttempts_evaluateAll : KeepsAttempts s s.evaluateAll :=
  (foldl_kept (EntriesTurn s) State.evaluate _ (fun _ n _ reached => reached.trans (entriesTurn_evaluate n)) s (.rfl' s)).attempts

theorem keepsAttempts_leaveRun (a : Nat) (d : Bool) : KeepsAttempts s (s.leaveRun a d) := by
  have left := keepsAttempts_of_same (updateStation_entries s a fun r => { r with member := false })
  unfold State.leaveRun
  dsimp only
  split
  · refine left.trans fun m => ?_
    rw [State.leaveSteps, leaveSteps_entry]
    split
    · exact (leftEntry_keeps d _).2
    · rfl
  · exact left

theorem keepsAttempts_faultRequest (a : Nat) (c : FaultCause) : KeepsAttempts s (s.faultRequest a c) := by
  have update : ∀ g, KeepsAttempts s (s.updateStation a g) := fun g => keepsAttempts_of_same (updateStation_entries s a g)
  have leaves : ∀ g, KeepsAttempts s ((s.updateStation a g).leaveRun a false) := fun g =>
    (update g).trans (keepsAttempts_leaveRun a false)
  unfold State.faultRequest
  split
  case h_1 => exact update _
  case h_2 | h_3 => split <;> exact leaves _
  case h_4 =>
    split
    · exact keepsAttempts_of_same rfl
    · exact leaves _
  all_goals exact keepsAttempts_of_same rfl

theorem keepsAttempts_failStep : KeepsAttempts s (s.failStep n .overBudget 0) := by
  have failed : KeepsAttempts s (s.timingOut n) := fun m => by
    rw [timingOut_entry]
    split
    · next own => rw [own.1]
    · rfl
  rw [failStep_overBudget]
  refine failed.trans ?_
  unfold State.propagate
  dsimp only
  split
  · exact keepsAttempts_evaluateAll
  · exact ((keepsAttempts_evaluateAll.trans (keepsAttempts_of_same (haltRun_keeps n).1)).trans
      (keepsAttempts_faultRequest _ _)).trans keepsAttempts_evaluateAll

theorem keepsAttempts_countWait : KeepsAttempts s (s.countWait f n) := by
  have counted : KeepsAttempts s (s.waited f) := fun m => by rw [waited_entry]
  by_cases waits : s.Waits f n
  · rw [countWait_waits waits]
    split
    · exact (counted.trans keepsAttempts_failStep).trans (entriesTurn_followUp true _).attempts
    · exact counted
  · rw [countWait_passes waits]
    exact keepsAttempts_of_same rfl

/-! ## The two heads of a slice (R159, log 14) -/

theorem countWaits_alone (head : s.headOf f = some n) (alone : ∀ g, g ≠ f → s.headOf g = none) :
    s.countWaits = s.countWait f n := by
  unfold State.countWaits
  cases f with
  | a => rw [head, alone .b (by decide)]
  | b => rw [head, alone .a (by decide)]

/-- With heads on both feeds the lower step is taken first. -/
theorem countWaits_lowerFirst {g : Feed} {m : Nat} (other : g ≠ f) (head : s.headOf f = some n) (second : s.headOf g = some m)
    (lower : n < m) : s.countWaits = (s.countWait f n).countWait g m := by
  unfold State.countWaits
  cases f <;> cases g
  · exact absurd rfl other
  · rw [head, second]
    exact if_neg (Nat.lt_asymm lower)
  · rw [head, second]
    exact if_pos lower
  · exact absurd rfl other

theorem sliced_headOf (f : Feed) : s.sliced.headOf f = s.headOf f :=
  sliced_keeps (fun u => u.headOf f) (fun _ _ => rfl) fun _ _ _ _ _ => rfl

theorem sliced_testMade (n : Nat) : s.sliced.TestMade n ↔ s.TestMade n :=
  iff_of_eq (sliced_keeps (fun u => u.TestMade n) (fun _ _ => rfl) fun _ _ _ _ _ => rfl)

theorem sliced_step (n : Nat) : s.sliced.step n = s.step n := sliced_keeps (fun u => u.step n) (fun _ _ => rfl) fun _ _ _ _ _ => rfl

theorem sliced_entry (n : Nat) : s.sliced.entry n = s.entry n :=
  sliced_keeps (fun u => u.entry n) (fun _ _ => rfl) fun _ _ _ _ _ => rfl

/-- The folding and the stale tests leave the wait counts. -/
theorem sliced_waitCount (f : Feed) : (s.sliced.feed f).waitCount = (s.feed f).waitCount := by
  have folded : ∀ (u : State) c, ((u.fold c).feed f).waitCount = (u.feed f).waitCount := fun u c => by
    rw [fold_feed]
    split
    · next own => rw [own]; rfl
    · rfl
  rw [sliced_eq, staleTested_feed]
  refine (foldl_keeps (fun u => (u.feed f).waitCount) State.fold folded _ _).trans ?_
  cases f <;> rfl

theorem sliced_overdue (f : Feed) : s.sliced.Overdue f ↔ s.Overdue f := by
  have settings : s.sliced.settings = s.settings := sliced_keeps State.settings (fun _ _ => rfl) fun _ _ _ _ _ => rfl
  unfold State.Overdue
  rw [settings, sliced_waitCount]

/-- A slice leaves no contribution of a step that had none. -/
theorem sliced_none (none : ∀ c ∈ s.contributions, c.step ≠ n) (c : Contribution) (mem : c ∈ s.sliced.contributions) :
    c.step ≠ n := by
  rw [sliced_contributions] at mem
  obtain ⟨c₀, mem₀, rfl⟩ := List.mem_map.1 (List.mem_filter.1 mem).1
  have own := none c₀ mem₀
  split
  · exact own
  · exact own

/-- A head that has timed out when the waits are counted is so after the slice. -/
theorem slice_timesOut (busy : s.FBusy) (timedOut : TimedOutSince s s.sliced.countWaits n) :
    ∃ t, exec .sliceExpiry s = .next t ∧ TimedOutSince s t n := by
  obtain ⟨v, done⟩ := slice_closes busy
  exact ⟨_, done, timedOut.later ((follows_settle _).trans (follows_of_same rfl rfl)) (settle_counters _)⟩

/-- Settles O46: the head of the lower step passes, is counted, or fails with all its effects; the head of the higher step is taken
in the state that leaves. -/
theorem admissionWaitIsCounted : Obligations.AdmissionWaitIsCounted := by
  unfold Obligations.AdmissionWaitIsCounted
  intro s f n busy u tested room beyond raised timedOut head
  have headU : s.sliced.headOf f = some n := (sliced_headOf f).trans head
  have waits : tested s n → ¬ room u f n → s.sliced.Waits f n := fun made full => ⟨headU, (sliced_testMade n).2 made, full⟩
  have passes : ¬ tested s n ∨ room u f n → s.sliced.countWait f n = s.sliced := fun free =>
    countWait_passes fun ⟨_, made, full⟩ => free.elim (fun unmade => unmade ((sliced_testMade n).1 made)) full
  have counts : tested s n → ¬ room u f n → ¬ beyond s f → s.sliced.countWait f n = s.sliced.waited f :=
    fun made full within => countWait_counts (waits made full) (mt (sliced_overdue f).1 within)
  have fails : tested s n → ¬ room u f n → beyond s f → TimedOutSince s (s.sliced.countWait f n) n := fun made full late =>
    countWait_timesOut (waits made full) ((sliced_overdue f).2 late) (by rw [sliced_entry]) sliced_counters
  refine ⟨fun alone => ?alone, fun g m other second lower => ?both⟩
  case alone =>
    have only : s.sliced.countWaits = s.sliced.countWait f n :=
      countWaits_alone headU fun g other => (sliced_headOf g).trans (alone g other)
    exact ⟨fun made full late => slice_timesOut busy (only ▸ fails made full late),
      fun made full within => only.trans (counts made full within), fun free => only.trans (passes free)⟩
  case both =>
    obtain ⟨v, hv⟩ : ∃ v, v = s.sliced.countWait f n := ⟨_, rfl⟩
    have order : s.sliced.countWaits = v.countWait g m :=
      hv ▸ countWaits_lowerFirst other headU ((sliced_headOf g).trans second) lower
    rw [← hv] at passes counts fails
    have attempts : (v.entry m).attempts = (s.entry m).attempts := by
      rw [hv, keepsAttempts_countWait m, sliced_entry]
    have counters : v.counters = s.counters := by
      rw [hv]
      exact (congrArg State.counters (countWait_core f n) :).trans sliced_counters
    have failsToo : v.headOf g = some m → tested v m → ¬ room v g m → beyond v g → TimedOutSince s s.sliced.countWaits m :=
      fun headV made full late => order ▸ countWait_timesOut ⟨headV, made, full⟩ late attempts counters
    refine ⟨fun made full late => slice_timesOut busy (order ▸ (fails made full late).counted g m), v, passes, counts,
      fun made full late => ⟨fails made full late, fun ordinary none => ?ordinary, fun essential => ?essential⟩,
      fun free => ?passes, fun headV made full within => ?counts,
      fun headV made full late => ⟨failsToo headV made full late, slice_timesOut busy (failsToo headV made full late)⟩⟩
    case ordinary =>
      have failed := countWait_ordinary (waits made full) ((sliced_overdue f).2 late) (by rw [sliced_step]; exact ordinary)
        (sliced_none none)
      rw [sliced_entry] at failed
      exact hv.trans failed
    case essential =>
      rw [hv]
      exact countWait_halts (waits made full) ((sliced_overdue f).2 late) (by rw [sliced_step]; exact essential)
    case passes =>
      refine order.trans (countWait_passes fun ⟨headV, made, full⟩ => ?_)
      rcases free with noHead | unmade | roomy
      · exact noHead headV
      · exact unmade made
      · exact full roomy
    case counts => exact order.trans (countWait_counts ⟨headV, made, full⟩ within)

end Sys2Proof.Machine
end
